-- ==== Sys2Proof/Word.lean ====
section
/-! DEFINITION. The word types of the RM4410: bytes, 32-bit register words, press time and web position. -/

namespace Sys2Proof

/-- One byte of the internal address map. -/
abbrev Byte := BitVec 8

/-- One 32-bit register word or window item. -/
abbrev Word := BitVec 32

/-- Press time: a 48-bit count of TIME clocks of 10 ns (R10, R144). -/
abbrev PT := BitVec 48

/-- Web position: 32 bits of encoder count and 8 bits of sub-count (R183). -/
abbrev WP := BitVec 40

end Sys2Proof
end

