-- ==== Sys2Proof/Syntax.lean ====
section
/-! DEFINITION. The commands the block takes: one constructor per row of the table of operations and events, with what
arrives from outside (pins, words, samples, flash bytes) as operands. -/

namespace Sys2Proof

/-- The two host ports; the port gives the MID of an access (R25). -/
inductive Port
  | a | b
deriving DecidableEq, Repr

/-- The MID of a host port: 0 HPA, 1 HPB (R24, R25). -/
def Port.mid : Port → Nat
  | .a => 0
  | .b => 1

/-- The other host port. -/
def Port.other : Port → Port
  | .a => .b
  | .b => .a

/-- The nine monitored rails, in the bit order of PW_RAIL.VALID (R75). -/
inductive Rail
  | vcore | vdda | vddphy | vddioA | vddioB | vddioC | vaon | vdrv | vsht
deriving DecidableEq, Repr

/-- What the identity record of the vendor area gives the registers that D1 fills (R614). -/
structure Identity where
  serial : Nat := 0
  arrayRev : Nat := 0
  factoryLevel : Nat := 0x80
  factoryWidth : Nat := 0x3C
  refPeriod : Nat := 5000
  patch : Nat := 0                   -- version of the patch in the vendor area
deriving DecidableEq, Repr

/-- What a Dawn phase sees of the outside as it ends (R82): D1 the identity record, D2 and D4 the flash. -/
structure DawnInput where
  identity : Option Identity := some {}  -- none: both copies of the identity pair are invalid (R111)
  tornIdentity : List Nat := []      -- copies of the identity pair found invalid while the other is valid (R641)
  pll : Bool := true                 -- the system PLL locked in D2
  flashId : List Byte := [0xC2#8, 0x20#8, 0x1A#8]  -- answer to read identification (R595)
  sfdp : List Byte := []             -- SFDP bytes 0x00 to 0x0F
  dword1 : Nat := 0                  -- DWORD 1 of the basic parameter table
  flash : List (Nat × Byte) := []    -- flash bytes of select 0 by address, ascending; an unlisted byte is 0xFF
  flash2 : List (Nat × Byte) := []   -- the same as a second read of a failing block finds them
  timeout : Bool := false            -- the memory port timed out
deriving DecidableEq, Repr

/-- What the part samples at a tick or at a 1 ms sample of Dawn (R40, R653). -/
structure TickInput where
  iCode : Nat := 0                   -- I_CODE
  vcore : Nat := 1000                -- VCORE, mV
  sites : List Int := []             -- the 12 die sites, 1/16 °C
  vlmp : Nat := 0                    -- 0.1 V
  ilmp : Nat := 0                    -- code of the 12-bit converter on ILMP_P/ILMP_N (R431)
  vboost : Nat := 0                  -- 0.1 V
  vbat : Nat := 0                    -- 0.1 V
  clash : Option Nat := none         -- the first bit of the beacon sent at the tick that does not read back as sent (R174)
  thermistor : List Nat := []        -- the 16 thermistor codes of a 1 ms sample (R215)
  eccEntries : List Nat := []        -- armed-table entries found uncorrectable (R376)
deriving DecidableEq, Repr

/-- What the array and the coefficient memory give in one row slot. -/
structure RowInput where
  codes : List Nat := []             -- the slot's codes, by read column
  bias : Nat := 0                    -- measured bias amplitude, mV
  uncorr : List Nat := []            -- addresses of the coefficient words whose ECC failed
  histUncorr : List (List Nat) := [] -- per failing history word, the planar indices it serves
  corr : Nat := 0                    -- words corrected by the ECC
deriving DecidableEq, Repr

/-- One moment of a host frame on the wires: what HOST_FRAME brings, up to the rise that ends the frame (R460, R466, R471). -/
inductive FramePart
  | fall (mode3 : Bool)              -- CS_N falls, with SCK low (mode 0) or high (mode 3)
  | shift (word : Nat)               -- the next 16-bit word begins to shift; SDI will have carried `word`
  | rise (last : Nat)                -- CS_N rises, `last` bits into the last word that began
deriving DecidableEq, Repr

/-- A moment of a host frame on a port. -/
structure FrameInput where
  port : Port
  part : FramePart
  timing : Bool := true              -- SCK, CS_N and SDI kept within the limits of the port's timing (R484)
deriving DecidableEq, Repr

/-- A write to a staged register or a staged table item. -/
inductive StagedItem
  | register (idx : Nat) (value : Word)
  | table (addr : Nat) (value : Word)
deriving DecidableEq, Repr

/-- One window write: the address and the word. -/
structure WindowItem where
  addr : Nat
  value : Word
deriving DecidableEq, Repr

/-- What a slice of a micro-routine sees of the outside. -/
structure SliceInput where
  flash : List (Nat × Byte) := []    -- flash bytes that a bracket load of this slice reads, as in DawnInput
  flash2 : List (Nat × Byte) := []
  timeout : Bool := false            -- the memory port timed out in the bracket check of a wake (R104, R111)
deriving DecidableEq, Repr

/-- Samples of a lamp channel in the period that ends (R438, R448, R452). -/
structure LampSample where
  vlmp : Nat := 0                    -- 0.1 V
  current : Nat := 0                 -- mA
deriving DecidableEq, Repr

/-- The signal lands by the names of R51; `n`, `x` and `k` are valve channels, banks A to D as 0 to 3, and lamp channels. -/
inductive Signal
  | hpSck (p : Port) | hpCs (p : Port) | hpSdi (p : Port) | hpSdo (p : Port) | irq (p : Port)
  | tck | tms | tdi | tdo | trst
  | resetN | pfailN | wake | duskN | faultN
  | gpio (i : Nat)
  | xin | xout
  | mpSck | mpSdo | mpSdi | mpSel (i : Nat)
  | encA | encB | encZ | shpos
  | syncP | syncN
  | csiCk (neg : Bool) | csiD (i : Nat) (neg : Bool)
  | gl (n : Nat) | csP (n : Nat) | csN (n : Nat)
  | gb (x : Nat) | gh (x : Nat) | gf (x : Nat) | sw (x : Nat) | bst (x : Nat)
  | bstGate | bstCsP | bstCsN | vbstSns | vbatSns | vlmpSns
  | lg (k : Nat) | lsP (k : Nat) | lsN (k : Nat) | ilmpP | ilmpN
  | shA | shB
deriving DecidableEq, Repr

/-- TAP instructions (R720). -/
inductive TapInstr
  | bypass | idcode | sample | extest | highz | clamp | other (code : Nat)
deriving DecidableEq, Repr


/-- The commands and events of the block, one constructor per row of the table of operations and events. `dt` is the
number of TIME clocks of 10 ns since the previous command (log entry 1). -/
inductive Instr
  /-- `POWER_ON_RESET` (R78). -/
  | powerOnReset (dt : Nat)
  /-- `PIN_RESET` (R78). -/
  | pinReset (dt : Nat)
  /-- `RESET_KEY` (R486). -/
  | resetKey (dt : Nat) (port : Port) (value : Word)
  /-- `SYSTEM_RESET` (R78). -/
  | systemReset (dt : Nat)
  /-- `RAIL_UV` (R75). -/
  | railUv (dt : Nat) (rail : Rail)
  /-- `RAIL_RESTORED` (R76). -/
  | railRestored (dt : Nat) (rail : Rail)
  /-- `PFAIL` (R77). -/
  | pfail (dt : Nat)
  /-- `DUSK_KEY` (R88). -/
  | duskKey (dt : Nat) (port : Port) (value : Word)
  /-- `DUSK_STEP5_CUT` (R92). -/
  | duskStep5Cut (dt : Nat)
  /-- `DUSK_END` (R96). -/
  | duskEnd (dt : Nat) (pfailHigh : Bool)
  /-- `DAWN_PHASE` (R82). -/
  | dawnPhase (dt : Nat) (inp : DawnInput)
  /-- `DAWN_RETRY` (R112). -/
  | dawnRetry (dt : Nat) (port : Port) (value : Word)
  /-- `SETTLE_END` (R670). -/
  | settleEnd (dt : Nat)
  /-- `SLEEP` (R98). -/
  | sleep (dt : Nat) (ch : Nat)
  /-- `WAKE` (R102). -/
  | wake (dt : Nat) (sources : Nat)
  /-- `AON_TIMER_WAKE` (R102). -/
  | aonTimerWake (dt : Nat)
  /-- `CLOCK_FAIL` (R137). -/
  | clockFail (dt : Nat) (refLost : Bool)
  /-- `TICK` (R123). -/
  | tick (dt : Nat) (inp : TickInput)
  /-- `MODEL_RESET` (R673). -/
  | modelReset (dt : Nat)
  /-- `THROTTLE_GRACE_END` (R660). -/
  | throttleGraceEnd (dt : Nat)
  /-- `LAMP_SOFT_SHORT` (R452). -/
  | lampSoftShort (dt : Nat) (lamp : Nat)
  /-- `MIDNIGHT_TIMER` (R300). -/
  | midnightTimer (dt : Nat)
  /-- `TXN_TIMEOUT` (R498). -/
  | txnTimeout (dt : Nat)
  /-- `TICK_DEFERRED` (R154). -/
  | tickDeferred (dt : Nat) (inp : TickInput)
  /-- `TICK_FORCED` (R155). -/
  | tickForced (dt : Nat) (inp : TickInput)
  /-- `FRAME_START` (R126). -/
  | frameStart (dt : Nat)
  /-- `ROW_SLOT` (R194). -/
  | rowSlot (dt : Nat) (inp : RowInput)
  /-- `ZONE_CLOSE` (R127). -/
  | zoneClose (dt : Nat) (ecc : List Nat) (trendEcc : List (Nat × Nat))
  /-- `PUBLICATION` (R128). -/
  | publication (dt : Nat)
  /-- `LOOP_UPDATE` (R340). -/
  | loopUpdate (dt : Nat)
  /-- `ENC_EDGE` (R147): the levels of ENC_A and ENC_B, and the ENC clocks for which each has been stable (R148). -/
  | encEdge (dt : Nat) (a b : Bool) (stableA stableB : Nat)
  /-- `ENC_INDEX` (R150): ENC_Z has been high for `stable` ENC clocks (R148). -/
  | encIndex (dt : Nat) (stable : Nat)
  /-- `BEACON_RX` (R165): the levels of the half bits of a frame heard on the bus (R158). -/
  | beaconRx (dt : Nat) (line : List Bool)
  /-- `BEACON_MISSED` (R176). -/
  | beaconMissed (dt : Nat)
  /-- `CLAIM_TX` (R172). -/
  | claimTx (dt : Nat) (clash : Option Nat)
  /-- `CLAIM_RX` (R172). -/
  | claimRx (dt : Nat) (line : List Bool)
  /-- `REPLY_TX` (R163). -/
  | replyTx (dt : Nat) (clash : Option Nat)
  /-- `REPLY_RX` (R164). -/
  | replyRx (dt : Nat) (line : List Bool) (roundTrip : Nat)
  /-- `HOST_FRAME` (R471). -/
  | hostFrame (dt : Nat) (frame : FrameInput)
  /-- `REGISTER_WRITE` (R15). -/
  | registerWrite (dt : Nat) (port : Port) (idx : Nat) (value : Word)
  /-- `READ_CLEAR` (R474). -/
  | readClear (dt : Nat) (port : Port) (idx : Nat) (value : Word)
  /-- `PT_CAPTURE` (R145). -/
  | ptCapture (dt : Nat) (port : Port)
  /-- `WIN_DATA` (R464). -/
  | winData (dt : Nat) (port : Port) (write : Option Word)
  /-- `WIN_ADDR_WRITE` (R478). -/
  | winAddrWrite (dt : Nat) (port : Port) (value : Word)
  /-- `READAHEAD_READ` (R479). -/
  | readaheadRead (dt : Nat) (port : Port)
  /-- `STAGED_WRITE` (R491). -/
  | stagedWrite (dt : Nat) (port : Port) (entry : StagedItem)
  /-- `PAGE_PROGRAM_REQUEST` (R601). -/
  | pageProgramRequest (dt : Nat) (port : Port) (items : List WindowItem)
  /-- `NV_WINDOW_WRITE` (R619). -/
  | nvWindowWrite (dt : Nat) (port : Port) (items : List WindowItem)
  /-- `SOFTWARE_INTERRUPT` (R34). -/
  | softwareInterrupt (dt : Nat) (port : Port) (value : Word)
  /-- `INTERRUPT_MESSAGE` (R566). -/
  | interruptMessage (dt : Nat) (source : Nat)
  /-- `BEGIN` (R490). -/
  | beginTxn (dt : Nat) (port : Port)
  /-- `COMMIT_NEXT` (R493). -/
  | commitNext (dt : Nat) (port : Port)
  /-- `COMMIT_AT` (R496). -/
  | commitAt (dt : Nat) (port : Port)
  /-- `ROLLBACK` (R494). -/
  | rollback (dt : Nat) (port : Port) (force : Bool)
  /-- `IC_ACK` (R573). -/
  | icAck (dt : Nat) (target : Port) (source prio : Nat)
  /-- `IC_EOI` (R574). -/
  | icEoi (dt : Nat) (target : Port)
  /-- `MB_TX` (R550). -/
  | mbTx (dt : Nat) (port : Port) (word : Word)
  /-- `MB_RX` (R550). -/
  | mbRx (dt : Nat) (port : Port)
  /-- `BOOTH_BEGIN` (R547). -/
  | boothBegin (dt : Nat) (port : Port)
  /-- `BOOTH_LOCK` (R548). -/
  | boothLock (dt : Nat) (port : Port)
  /-- `MB_PORT_RESET` (R553). -/
  | mbPortReset (dt : Nat) (port : Port) (value : Word)
  /-- `MB_DB_RING` (R544). -/
  | mbDbRing (dt : Nat) (port : Port) (value : Word)
  /-- `RING_ENABLE` (R526). -/
  | ringEnable (dt : Nat) (ring : Nat)
  /-- `RING_HEAD_WRITE` (R529). -/
  | ringHeadWrite (dt : Nat) (port : Port) (ring value : Nat)
  /-- `RING_TAIL_WRITE` (R529). -/
  | ringTailWrite (dt : Nat) (port : Port) (ring value : Nat)
  /-- `LOST_RECORD` (R537). -/
  | lostRecord (dt : Nat) (ring : Nat)
  /-- `PING` (R559). -/
  | ping (dt : Nat) (ch : Nat)
  /-- `VERSION` (R559). -/
  | version (dt : Nat) (ch : Nat)
  /-- `STATUS` (R559). -/
  | status (dt : Nat) (ch : Nat)
  /-- `APPLY_OVERLAY` (R513). -/
  | applyOverlay (dt : Nat) (ch : Nat)
  /-- `ARM_OVERLAY` (R513). -/
  | armOverlay (dt : Nat) (ch : Nat)
  /-- `COMMIT_ARMED` (R513). -/
  | commitArmed (dt : Nat) (ch : Nat)
  /-- `OVERLAY_INFO` (R559). -/
  | overlayInfo (dt : Nat) (ch : Nat) (header : List Byte)
  /-- `START_MIDNIGHT` (R300). -/
  | startMidnight (dt : Nat) (ch : Nat)
  /-- `MIDNIGHT_COMPUTE` (R294). -/
  | midnightCompute (dt : Nat)
  /-- `ABORT_ROUTINE` (R583). -/
  | abortRoutine (dt : Nat) (ch : Nat)
  /-- `NV_FLUSH` (R638). -/
  | nvFlush (dt : Nat) (ch : Nat)
  /-- `LOG_READ` (R560). -/
  | logRead (dt : Nat) (ch : Nat)
  /-- `LOG_INFO` (R559). -/
  | logInfo (dt : Nat) (ch : Nat)
  /-- `LOG_CLEAR` (R639). -/
  | logClear (dt : Nat) (ch : Nat)
  /-- `BRACKET_FORCE` (R273). -/
  | bracketForce (dt : Nat) (ch : Nat)
  /-- `PEER_SEND` (R559). -/
  | peerSend (dt : Nat) (ch : Nat)
  /-- `BAD_COMMAND` (R561). -/
  | badCommand (dt : Nat) (ch : Nat)
  /-- `ROUTINE_SLICE` (R580). -/
  | routineSlice (dt : Nat) (inp : SliceInput)
  /-- `SEQ_RESTART` (R711). -/
  | seqRestart (dt : Nat)
  /-- `DEFERRED_COMMAND_START` (R557). -/
  | deferredCommandStart (dt : Nat)
  /-- `REPLY_ENQUEUE` (R558). -/
  | replyEnqueue (dt : Nat) (ch : Nat)
  /-- `PEER_RX` (R555). -/
  | peerRx (dt : Nat) (ch : Nat)
  /-- `PEER_QUEUE_ENTER` (R552). -/
  | peerQueueEnter (dt : Nat) (ch : Nat)
  /-- `ARM` (R358). -/
  | arm (dt : Nat) (ring : Nat)
  /-- `CANCEL` (R366). -/
  | cancel (dt : Nat) (ring : Nat)
  /-- `CONFIRM` (R360). -/
  | confirm (dt : Nat) (ring : Nat)
  /-- `DRAIN_RESUME` (R370). -/
  | drainResume (dt : Nat) (ring : Nat)
  /-- `LEADIN_START` (R361). -/
  | leadinStart (dt : Nat) (entry : Nat)
  /-- `VALVE_PULSE` (R385). -/
  | valvePulse (dt : Nat) (entry : Nat)
  /-- `VALVE_LEVEL` (R396). -/
  | valveLevel (dt : Nat) (entry : Nat)
  /-- `VALVE_RELEASE` (R405). -/
  | valveRelease (dt : Nat) (entry : Nat)
  /-- `LAMP_SET` (R437). -/
  | lampSet (dt : Nat) (entry : Nat)
  /-- `SHUTTER` (R288). -/
  | shutter (dt : Nat) (entry : Nat)
  /-- `HOST_NOTE` (R368). -/
  | hostNote (dt : Nat) (entry : Nat)
  /-- `PEER_NOTE` (R375). -/
  | peerNote (dt : Nat) (entry : Nat)
  /-- `LOWSIDE_CHECK_END` (R386). -/
  | lowsideCheckEnd (dt : Nat) (channel current : Nat) (reach : Option Nat)
  /-- `BOOST_END` (R385). -/
  | boostEnd (dt : Nat) (channel current : Nat) (reach : Option Nat)
  /-- `COMMAND_END` (R385). -/
  | commandEnd (dt : Nat) (channel : Nat)
  /-- `RELEASE_END` (R385). -/
  | releaseEnd (dt : Nat) (channel current : Nat)
  /-- `BANK_WAIT_TIMEOUT` (R398). -/
  | bankWaitTimeout (dt : Nat) (bank : Nat)
  /-- `CHOP_PERIOD` (R390). -/
  | chopPeriod (dt : Nat) (channel current : Nat) (reach : Option Nat)
  /-- `COIL_MODEL_UPDATE` (R415). -/
  | coilModelUpdate (dt : Nat) (meanSq : List Rat)
  /-- `ONTIME_TRIP` (R417). -/
  | ontimeTrip (dt : Nat) (channel : Nat)
  /-- `VALVE_OVERCURRENT` (R419). -/
  | valveOvercurrent (dt : Nat) (channel current : Nat)
  /-- `OPEN_COIL` (R419). -/
  | openCoil (dt : Nat) (channel current : Nat)
  /-- `BOOTSTRAP_UV` (R420). -/
  | bootstrapUv (dt : Nat) (bank : Nat) (currents : List Nat)
  /-- `BOOST_UV` (R420). -/
  | boostUv (dt : Nat) (vboost : Nat) (currents : List Nat)
  /-- `BOOST_UV_ARM` (R411). -/
  | boostUvArm (dt : Nat) (vboost : Nat)
  /-- `BOOST_OV` (R412). -/
  | boostOv (dt : Nat) (vboost : Nat)
  /-- `BOOST_RESTORED` (R412). -/
  | boostRestored (dt : Nat) (vboost : Nat)
  /-- `LAMP_PERIOD_START` (R438). -/
  | lampPeriodStart (dt : Nat) (lamp : Nat) (inp : LampSample)
  /-- `INRUSH_END` (R441). -/
  | inrushEnd (dt : Nat) (lamp : Nat)
  /-- `INRUSH_CURRENT_LIMIT` (R442). -/
  | inrushCurrentLimit (dt : Nat) (lamp current : Nat)
  /-- `LAMP_SHORT` (R452). -/
  | lampShort (dt : Nat) (lamp current : Nat)
  /-- `LAMP_GROUP_OC` (R452). -/
  | lampGroupOc (dt : Nat) (code : Nat)
  /-- `INRUSH_PAUSE` (R443). -/
  | inrushPause (dt : Nat) (vlmp : Nat)
  /-- `INRUSH_RESUME` (R444). -/
  | inrushResume (dt : Nat) (vlmp : Nat)
  /-- `SHUTTER_PULSE_END` (R288). -/
  | shutterPulseEnd (dt : Nat)
  /-- `SHPOS_CHECK` (R291). -/
  | shposCheck (dt : Nat) (level : Bool)
  /-- `SHUTTER_OVERCURRENT` (R311). -/
  | shutterOvercurrent (dt : Nat)
  /-- `BRACKET_LOAD_DONE` (R263). -/
  | bracketLoadDone (dt : Nat)
  /-- `COPYBACK_DONE` (R269). -/
  | copybackDone (dt : Nat)
  /-- `READY_HOLD_EXPIRY` (R268). -/
  | readyHoldExpiry (dt : Nat)
  /-- `MP_TRANSFER_START` (R600). -/
  | mpTransferStart (dt : Nat)
  /-- `LINE_FILL_DONE` (R599). -/
  | lineFillDone (dt : Nat) (data : List Byte)
  /-- `STATUS_POLL` (R602). -/
  | statusPoll (dt : Nat) (status : Nat)
  /-- `MP_PROG_TIMEOUT` (R606). -/
  | mpProgTimeout (dt : Nat)
  /-- `MP_ERASE_TIMEOUT` (R606). -/
  | mpEraseTimeout (dt : Nat)
  /-- `MP_FILL_TIMEOUT` (R607). -/
  | mpFillTimeout (dt : Nat)
  /-- `MP_SW_TRANSFER` (R594). -/
  | mpSwTransfer (dt : Nat) (port : Port) (value : Word)
  /-- `MP_READ_STATUS` (R605). -/
  | mpReadStatus (dt : Nat) (port : Port) (sel : Nat)
  /-- `MP_READ_ID` (R605). -/
  | mpReadId (dt : Nat) (port : Port) (sel : Nat)
  /-- `MP_READ_SFDP` (R605). -/
  | mpReadSfdp (dt : Nat) (port : Port) (sel : Nat)
  /-- `MP_WRITE_ENABLE` (R605). -/
  | mpWriteEnable (dt : Nat) (port : Port) (sel : Nat)
  /-- `MP_ERASE_4K` (R605). -/
  | mpErase4k (dt : Nat) (port : Port) (sel : Nat)
  /-- `MP_ERASE_64K` (R605). -/
  | mpErase64k (dt : Nat) (port : Port) (sel : Nat)
  /-- `NV_WRITE_DONE` (R617). -/
  | nvWriteDone (dt : Nat) (badGroups softGroups : List Nat)
  /-- `NV_TIMEOUT` (R645). -/
  | nvTimeout (dt : Nat)
  /-- `TRAPEZE_WRITE` (R627). -/
  | trapezeWrite (dt : Nat) (port : Port)
  /-- `TRAPEZE_READ` (R629). -/
  | trapezeRead (dt : Nat) (port : Port)
  /-- `CAROUSEL_PUSH` (R632). -/
  | carouselPush (dt : Nat) (port : Port)
  /-- `CAROUSEL_READ` (R633). -/
  | carouselRead (dt : Nat) (port : Port)
  /-- `CSI_BURST` (R691). -/
  | csiBurst (dt : Nat) (packets : Nat)
  /-- `TAP_INSTRUCTION` (R720). -/
  | tapInstruction (dt : Nat) (instr : TapInstr) (shifting : Bool) (cells : List (Signal × Option Bool))
  /-- `POWER_ON_RESET_RELEASE` (R78). -/
  | powerOnResetRelease (dt : Nat)
  /-- `RESET_N_RISE` (R78). -/
  | resetNRise (dt : Nat)
  /-- `SYNC_SEARCH_TIMEOUT` (R183). -/
  | syncSearchTimeout (dt : Nat)
  /-- `DAWN_1MS_SAMPLE` (R675). -/
  | dawn1msSample (dt : Nat) (inp : TickInput)
  /-- `SHUTTER_BRAKE_END` (R289). -/
  | shutterBrakeEnd (dt : Nat)
  /-- `MP_TRANSFER_END` (R605). -/
  | mpTransferEnd (dt : Nat) (data : Nat)
  /-- `NV_OP_DONE` (R629). -/
  | nvOpDone (dt : Nat)
deriving DecidableEq, Repr

end Sys2Proof
end

