-- ==== Sys2Proof/Config.lean ====
section
/-! DEFINITION. What one part fixes and what the manual leaves open. Each constant is opaque: no proof can see its value. -/

namespace Sys2Proof.Config

/-- A number the manual leaves open; the argument is the model's counter of free values (log entry 3). -/
opaque freeNat : Nat → Nat

/-- A byte the manual leaves open; the argument is the model's counter of free values (log entry 3). -/
opaque freeByte : Nat → Byte

/-- The rounding of a model quantity to an integer register unit, where the manual gives none (log entry 4). -/
opaque quantise : Rat → Int

/-- SYS_FW.ROM_VER: the version of the mask ROM of this part, which the manual does not give. -/
opaque romVersion : Nat

/-- A quotient whose divisor is 0, as a function of the dividend, where the manual states none (log entry 17). -/
opaque overZero : Rat → Rat

/-- The thermistor linearisation of the vendor area: TFPA in 1/256 °C from the sum of 16 codes (R203). -/
opaque tfpaOf : Nat → Int

/-- The shutter offset of the vendor area, in 0.01 K (R294, log entry 24). -/
opaque shutterOffset : Rat

/-- The trims of the package model in the vendor area: R_DC, R_CS and R_CB in °C/W, C_D, C_C and C_S in J/°C, and the
gains K_S, K_B and K_D (R667). -/
opaque rDC : Rat
@[inherit_doc rDC] opaque rCS : Rat
@[inherit_doc rDC] opaque rCB : Rat
@[inherit_doc rDC] opaque cD : Rat
@[inherit_doc rDC] opaque cC : Rat
@[inherit_doc rDC] opaque cS : Rat
@[inherit_doc rDC] opaque kS : Rat
@[inherit_doc rDC] opaque kB : Rat
@[inherit_doc rDC] opaque kD : Rat

/-- The offset calibration temperature of the vendor area, in 1/256 °C (R669). -/
opaque offsetCal : Int

end Sys2Proof.Config
end

