-- ==== Sys2Proof/Machine/Bits.lean ====
section
/-! DEFINITION. Byte order (R8, R9), list updates, saturating counters and the three CRCs the manual names. -/

namespace Sys2Proof.Machine

/-- The `n` least significant bytes of `v`, least significant first (R8). -/
def leBytes : Nat → Nat → List Byte
  | 0, _ => []
  | n + 1, v => BitVec.ofNat 8 v :: leBytes n (v / 256)

/-- The number a little-endian byte string spells (R8). -/
def ofLe : List Byte → Nat
  | [] => 0
  | b :: bs => b.toNat + 256 * ofLe bs

/-- Bytes `lo .. lo + n - 1` of a byte string as a little-endian number (R8). -/
def leField (bs : List Byte) (lo n : Nat) : Nat := ofLe ((bs.drop lo).take n)

/-- `bs` cut or padded with `fill` to exactly `n` bytes. -/
def padTo (n : Nat) (fill : Byte) (bs : List Byte) : List Byte :=
  (bs ++ List.replicate (n - bs.length) fill).take n

/-- Replace element `i` of a vector by a function of it; an index beyond it changes nothing. -/
def updAt {α : Type} {n : Nat} (v : Vector α n) (i : Nat) (f : α → α) : Vector α n := if h : i < n then v.set i (f v[i]) else v

/-- Insert into a list before the first element that must not come earlier: `lt x y` says that `y` stays behind `x`. -/
def insertBy {α : Type} (lt : α → α → Bool) (x : α) : List α → List α
  | [] => [x]
  | y :: ys => if lt x y then x :: y :: ys else y :: insertBy lt x ys

/-- A stable sort by a strict order. -/
def sortBy {α : Type} (lt : α → α → Bool) (l : List α) : List α := l.foldl (fun acc x => insertBy lt x acc) []

/-- `a` as a two's complement field of `w` bits, read as an integer. -/
def signed (w a : Nat) : Int :=
  if a % 2 ^ w < 2 ^ (w - 1) then (a % 2 ^ w : Nat) else (a % 2 ^ w : Nat) - (2 ^ w : Nat)

/-- An integer as the `w` bits of its two's complement form. -/
def unsigned (w : Nat) (a : Int) : Nat := (a % (2 ^ w : Nat)).toNat

/-- An integer held within `[lo, hi]`. -/
def clampInt (lo hi a : Int) : Int := max lo (min hi a)

/-- Whether bit `i` of a number is 1 (R7). -/
def bitOf (v i : Nat) : Bool := v / 2 ^ i % 2 == 1

/-- 1 for true and 0 for false, as a register bit shows it. -/
def bit (b : Bool) : Nat := if b then 1 else 0

/-- A number with bit `i` at 1. -/
def orBit (v i : Nat) : Nat := if bitOf v i then v else v + 2 ^ i

/-- A number with bit `i` at 0. -/
def clrBit (v i : Nat) : Nat := if bitOf v i then v - 2 ^ i else v

/-- The numbers below `n` whose bit of `v` is 1, ascending. -/
def bitsOf (n v : Nat) : List Nat := (List.range n).filter (bitOf v)

/-- Integer division rounding towards minus infinity of a rational. -/
def ratFloor (q : Rat) : Int := q.num / q.den

/-- Nearest integer, ties away from zero. -/
def roundAway (q : Rat) : Int := if 0 ≤ q then ratFloor (q + 1 / 2) else - ratFloor (- q + 1 / 2)

/-- Nearest integer, ties upwards. -/
def roundUp (q : Rat) : Int := ratFloor (q + 1 / 2)

/-- The least integer not below a rational. -/
def ratCeil (q : Rat) : Int := - ratFloor (-q)

/-- One step of a left-shifting CRC over `w` bits with polynomial `poly`, for one message bit. -/
def crcBitLeft (w poly crc : Nat) (msg : Bool) : Nat :=
  let top := bitOf crc (w - 1) != msg
  let sh := (crc * 2) % 2 ^ w
  if top then Nat.xor sh poly else sh

/-- A left-shifting CRC over one byte, most significant bit first. -/
def crcByteLeft (w poly crc : Nat) (b : Byte) : Nat :=
  [7, 6, 5, 4, 3, 2, 1, 0].foldl (fun c i => crcBitLeft w poly c (bitOf b.toNat i)) crc

/-- CRC-16 of R158: polynomial 0x1021, initial value 0xFFFF, no final inversion. -/
def crc16 (bs : List Byte) : Nat := bs.foldl (crcByteLeft 16 0x1021) 0xFFFF

/-- CRC-8 of R630: polynomial 0x07, initial value 0xFF, no final inversion. -/
def crc8 (bs : List Byte) : Nat := bs.foldl (crcByteLeft 8 0x07) 0xFF

/-- One step of the bit-reflected CRC-32 for one message bit (R274). -/
def crc32Bit (crc : Nat) (msg : Bool) : Nat :=
  if bitOf crc 0 != msg then Nat.xor (crc / 2) 0xEDB88320 else crc / 2

/-- The bit-reflected CRC-32 over one byte, least significant bit first (R274). -/
def crc32Byte (crc : Nat) (b : Byte) : Nat :=
  [0, 1, 2, 3, 4, 5, 6, 7].foldl (fun c i => crc32Bit c (bitOf b.toNat i)) crc

/-- CRC-32 of R274: polynomial 0x04C1_1DB7 reflected, initial value and final XOR 0xFFFF_FFFF. -/
def crc32 (bs : List Byte) : Nat := Nat.xor (bs.foldl crc32Byte 0xFFFFFFFF) 0xFFFFFFFF

/-- The signed distance from `b` to `a` modulo 2^48, in `[-2^47, 2^47)` (R10). -/
def ptDiff (a b : PT) : Int := (a - b).toInt

/-- `a` is at or after `b` in the order of R10. -/
def ptReached (a b : PT) : Bool := 0 ≤ ptDiff a b

/-- The bits of a list of flags, bit 0 first. -/
def packBits (l : List Bool) : Nat := ((l.zipIdx).map (fun p => bit p.1 * 2 ^ p.2)).sum

end Sys2Proof.Machine
end

