-- ==== Sys2Proof/Machine/Memory.lean ====
section
/-! DEFINITION. Byte memory as a sorted list of cells that differ from the value an unlisted address reads as. -/

namespace Sys2Proof.Machine

/-- A byte memory in canonical form: addresses strictly rising, no cell equal to the value of an unlisted address. -/
abbrev Mem := List Host.Cell

/-- The byte at address `a`; `d` is what an unlisted address reads as. -/
def Mem.read (d : Byte) (m : Mem) (a : Nat) : Byte :=
  match m with
  | [] => d
  | (k, v) :: rest => if a = k then v else if a < k then d else Mem.read d rest a

/-- Put a cell in front unless it holds the value of an unlisted address. -/
def Mem.cons (d : Byte) (a : Nat) (v : Byte) (m : Mem) : Mem := if v = d then m else (a, v) :: m

/-- Write one byte, keeping the canonical form. -/
def Mem.write (d : Byte) (m : Mem) (a : Nat) (v : Byte) : Mem :=
  match m with
  | [] => Mem.cons d a v []
  | (k, w) :: rest =>
    if a = k then Mem.cons d a v rest
    else if a < k then Mem.cons d a v ((k, w) :: rest)
    else (k, w) :: Mem.write d rest a v

/-- Write consecutive bytes from address `a` upwards. -/
def Mem.writeBytes (d : Byte) (m : Mem) (a : Nat) (bs : List Byte) : Mem :=
  match bs with
  | [] => m
  | b :: rest => Mem.writeBytes d (Mem.write d m a b) (a + 1) rest

/-- Read `n` consecutive bytes from address `a` upwards. -/
def Mem.readBytes (d : Byte) (m : Mem) (a n : Nat) : List Byte :=
  (List.range n).map (fun i => Mem.read d m (a + i))

/-- A little-endian number of `n` bytes at address `a` (R8). -/
def Mem.readLe (d : Byte) (m : Mem) (a n : Nat) : Nat := ofLe (Mem.readBytes d m a n)

/-- Forget every cell in `[a, a + n)`. -/
def Mem.clear (m : Mem) (a n : Nat) : Mem := m.filter (fun c => c.1 < a || a + n ≤ c.1)

/-- The canonical form of a memory whose unlisted addresses read `d`, with every address at least `lo`. -/
def Mem.wfFrom (d : Byte) (lo : Nat) (m : Mem) : Bool :=
  match m with
  | [] => true
  | (k, v) :: rest => decide (lo ≤ k) && decide (v ≠ d) && Mem.wfFrom d (k + 1) rest

/-- The canonical form of a memory whose unlisted addresses read `d`. -/
def Mem.wf (d : Byte) (m : Mem) : Bool := Mem.wfFrom d 0 m

end Sys2Proof.Machine
end

