-- ==== Sys2Proof/Machine/Regs.lean ====
section
/-! DEFINITION. The register fields of the direct register file: index, place, access code, class and reset value of
every non-reserved field of the 183 assigned registers (R746), as each block's register tables give them. -/

namespace Sys2Proof.Machine

/-- The access codes of a field (chapter 00, Access codes). -/
inductive Access
  | ro | rw | wo | w1c | rc
deriving DecidableEq, Repr

/-- The classes of a field: staged, live, locked while running, undefined while running (R14 to R18). -/
inductive FieldClass
  | S | L | X | U
deriving DecidableEq, Repr

/-- One field of one direct register. -/
structure RegField where
  idx : Nat
  lo : Nat
  width : Nat
  acc : Access
  cls : FieldClass
  reset : Nat
deriving DecidableEq, Repr

/-- The value of a field in a register word. -/
def RegField.get (f : RegField) (w : Word) : Nat := w.toNat / 2 ^ f.lo % 2 ^ f.width

/-- The mask of a field's bits. -/
def RegField.mask (f : RegField) : Word := BitVec.ofNat 32 ((2 ^ f.width - 1) * 2 ^ f.lo)

/-- A register word with one field set, the other bits unchanged. -/
def RegField.put (f : RegField) (w : Word) (v : Nat) : Word :=
  (w &&& ~~~ f.mask) ||| (BitVec.ofNat 32 (v * 2 ^ f.lo) &&& f.mask)

/-- The largest value a field holds. -/
def RegField.top (f : RegField) : Nat := 2 ^ f.width - 1

/-! 0x00 SYS_ID (R486). -/
def R.SYS_ID.PART : RegField := ⟨0x00, 0, 16, .ro, .L, 0x4410⟩
def R.SYS_ID.DIE_REV : RegField := ⟨0x00, 16, 8, .ro, .L, 0x1⟩
def R.SYS_ID.ARRAY_REV : RegField := ⟨0x00, 24, 8, .ro, .L, 0x0⟩

/-! 0x01 SYS_FW (R486). -/
def R.SYS_FW.ROM_VER : RegField := ⟨0x01, 0, 16, .ro, .L, 0x0⟩
def R.SYS_FW.PATCH_VER : RegField := ⟨0x01, 16, 16, .ro, .L, 0x0⟩

/-! 0x02 SYS_SERIAL_LO (R486). -/
def R.SYS_SERIAL_LO.SERIAL : RegField := ⟨0x02, 0, 32, .ro, .L, 0x0⟩

/-! 0x03 SYS_SERIAL_HI (R486). -/
def R.SYS_SERIAL_HI.SERIAL : RegField := ⟨0x03, 0, 32, .ro, .L, 0x0⟩

/-! 0x04 SYS_STATUS (R486). -/
def R.SYS_STATUS.TXN_OWNER : RegField := ⟨0x04, 0, 3, .ro, .L, 0x0⟩
def R.SYS_STATUS.TXN_OPEN : RegField := ⟨0x04, 3, 1, .ro, .L, 0x0⟩
def R.SYS_STATUS.RUNNING : RegField := ⟨0x04, 4, 1, .ro, .L, 0x0⟩
def R.SYS_STATUS.MB_LOCKED : RegField := ⟨0x04, 5, 1, .ro, .L, 0x0⟩
def R.SYS_STATUS.ROUTINE : RegField := ⟨0x04, 8, 4, .ro, .L, 0x0⟩

/-! 0x05 SYS_CTL (R486). -/
def R.SYS_CTL.RESET_KEY : RegField := ⟨0x05, 0, 8, .wo, .L, 0x0⟩

/-! 0x06 SYS_SCRATCH (R486). -/
def R.SYS_SCRATCH.SCRATCH : RegField := ⟨0x06, 0, 32, .rw, .L, 0x0⟩

/-! 0x07 SYS_PORT (R486). -/
def R.SYS_PORT.REJECTED : RegField := ⟨0x07, 0, 8, .rc, .L, 0x0⟩
def R.SYS_PORT.NOT_ACCEPTED : RegField := ⟨0x07, 8, 8, .rc, .L, 0x0⟩
def R.SYS_PORT.LAST_RESULT : RegField := ⟨0x07, 16, 4, .ro, .L, 0x0⟩
def R.SYS_PORT.MODE3 : RegField := ⟨0x07, 20, 1, .ro, .L, 0x0⟩
def R.SYS_PORT.MID : RegField := ⟨0x07, 21, 3, .ro, .L, 0x0⟩

/-! 0x08 WIN_ADDR (R486). -/
def R.WIN_ADDR.ADDR : RegField := ⟨0x08, 2, 30, .rw, .L, 0x0⟩

/-! 0x09 WIN_CTL (R486). -/
def R.WIN_CTL.INC : RegField := ⟨0x09, 0, 3, .rw, .L, 0x4⟩

/-! 0x0A WIN_DATA (R486). -/
def R.WIN_DATA.DATA : RegField := ⟨0x0A, 0, 32, .rw, .L, 0x0⟩

/-! 0x0B WIN_STATUS (R486). -/
def R.WIN_STATUS.RA_READY : RegField := ⟨0x0B, 0, 1, .ro, .L, 0x0⟩
def R.WIN_STATUS.RA_FILLING : RegField := ⟨0x0B, 1, 1, .ro, .L, 0x0⟩
def R.WIN_STATUS.RA_MISS : RegField := ⟨0x0B, 2, 1, .w1c, .L, 0x0⟩
def R.WIN_STATUS.FAULT : RegField := ⟨0x0B, 3, 1, .w1c, .L, 0x0⟩
def R.WIN_STATUS.RA_LINE : RegField := ⟨0x0B, 8, 24, .ro, .L, 0x0⟩

/-! 0x0C WIN_FAULT_ADDR (R486). -/
def R.WIN_FAULT_ADDR.ADDR : RegField := ⟨0x0C, 0, 32, .ro, .L, 0x0⟩

/-! 0x10 PW_STATUS (R113). -/
def R.PW_STATUS.PHASE : RegField := ⟨0x10, 0, 4, .ro, .L, 0x0⟩
def R.PW_STATUS.DUSK_STEP : RegField := ⟨0x10, 4, 3, .ro, .L, 0x0⟩
def R.PW_STATUS.WARM : RegField := ⟨0x10, 7, 1, .ro, .L, 0x0⟩
def R.PW_STATUS.SLEEP_ABORT : RegField := ⟨0x10, 8, 1, .w1c, .L, 0x0⟩
def R.PW_STATUS.DAWN_FAIL : RegField := ⟨0x10, 9, 1, .ro, .L, 0x0⟩
def R.PW_STATUS.DAWN_FAIL_CODE : RegField := ⟨0x10, 10, 4, .ro, .L, 0x0⟩
def R.PW_STATUS.LAST_SLEEP : RegField := ⟨0x10, 16, 2, .ro, .L, 0x0⟩

/-! 0x11 PW_CTL (R113). -/
def R.PW_CTL.DUSK_KEY : RegField := ⟨0x11, 0, 8, .wo, .L, 0x0⟩
def R.PW_CTL.DAWN_RETRY : RegField := ⟨0x11, 8, 1, .wo, .L, 0x0⟩
def R.PW_CTL.DUSK_SHUTTER : RegField := ⟨0x11, 9, 1, .rw, .L, 0x0⟩
def R.PW_CTL.DAWN_MIDNIGHT : RegField := ⟨0x11, 10, 1, .rw, .L, 0x0⟩
def R.PW_CTL.PERSIST_FLUSH : RegField := ⟨0x11, 11, 1, .rw, .L, 0x1⟩

/-! 0x12 PW_WAKE_EN (R113). -/
def R.PW_WAKE_EN.WAKE_PIN : RegField := ⟨0x12, 0, 1, .rw, .L, 0x0⟩
def R.PW_WAKE_EN.HPA_CS : RegField := ⟨0x12, 1, 1, .rw, .L, 0x0⟩
def R.PW_WAKE_EN.HPB_CS : RegField := ⟨0x12, 2, 1, .rw, .L, 0x0⟩
def R.PW_WAKE_EN.BEACON : RegField := ⟨0x12, 3, 1, .rw, .L, 0x0⟩
def R.PW_WAKE_EN.ENCODER : RegField := ⟨0x12, 4, 1, .rw, .L, 0x0⟩
def R.PW_WAKE_EN.AON_TIMER : RegField := ⟨0x12, 5, 1, .rw, .L, 0x0⟩
def R.PW_WAKE_EN.ENC_COUNT : RegField := ⟨0x12, 8, 8, .rw, .L, 0x1⟩

/-! 0x13 PW_WAKE_SRC (R113). -/
def R.PW_WAKE_SRC.SRC : RegField := ⟨0x13, 0, 6, .rc, .L, 0x0⟩

/-! 0x14 PW_AON_TIMER (R113). -/
def R.PW_AON_TIMER.PERIOD : RegField := ⟨0x14, 0, 24, .rw, .L, 0x8000⟩

/-! 0x15 PW_RAIL (R113). -/
def R.PW_RAIL.VALID : RegField := ⟨0x15, 0, 9, .ro, .L, 0x0⟩
def R.PW_RAIL.UV_SEEN : RegField := ⟨0x15, 16, 9, .w1c, .L, 0x0⟩

/-! 0x16 PW_RESET_CAUSE (R113). -/
def R.PW_RESET_CAUSE.CAUSE : RegField := ⟨0x16, 0, 10, .rc, .L, 0x1⟩

/-! 0x17 PW_DAWN_TIME (R113). -/
def R.PW_DAWN_TIME.TOTAL_MS : RegField := ⟨0x17, 0, 16, .ro, .L, 0x0⟩
def R.PW_DAWN_TIME.SETTLE_MS : RegField := ⟨0x17, 16, 16, .ro, .L, 0x0⟩

/-! 0x18 TH_CTL (R678). -/
def R.TH_CTL.MODE : RegField := ⟨0x18, 0, 2, .rw, .L, 0x2⟩
def R.TH_CTL.DIV_SEL : RegField := ⟨0x18, 2, 2, .rw, .L, 0x0⟩
def R.TH_CTL.SKIP_M : RegField := ⟨0x18, 4, 4, .rw, .L, 0x8⟩

/-! 0x19 TH_LIMITS (R678). -/
def R.TH_LIMITS.WARN : RegField := ⟨0x19, 0, 8, .rw, .L, 0x5F⟩
def R.TH_LIMITS.THROTTLE : RegField := ⟨0x19, 8, 8, .rw, .L, 0x69⟩
def R.TH_LIMITS.SHUTDOWN : RegField := ⟨0x19, 16, 8, .rw, .L, 0x78⟩

/-! 0x1A TH_HYST (R678). -/
def R.TH_HYST.WARN_HYST : RegField := ⟨0x1A, 0, 4, .rw, .L, 0x5⟩
def R.TH_HYST.THR_HYST : RegField := ⟨0x1A, 4, 4, .rw, .L, 0x5⟩
def R.TH_HYST.SD_HYST : RegField := ⟨0x1A, 8, 4, .rw, .L, 0xA⟩
def R.TH_HYST.NEAR_BAND : RegField := ⟨0x1A, 12, 4, .rw, .L, 0x5⟩

/-! 0x1B TH_FALLBACK (R678). -/
def R.TH_FALLBACK.PERIOD : RegField := ⟨0x1B, 0, 22, .rw, .L, 0xF4240⟩
def R.TH_FALLBACK.GRACE : RegField := ⟨0x1B, 24, 8, .rw, .L, 0x14⟩

/-! 0x1C TH_STATUS (R678). -/
def R.TH_STATUS.TJ_MAX : RegField := ⟨0x1C, 0, 13, .ro, .L, 0x0⟩
def R.TH_STATUS.SITE_MAX : RegField := ⟨0x1C, 14, 4, .ro, .L, 0x0⟩
def R.TH_STATUS.WARN : RegField := ⟨0x1C, 18, 1, .ro, .L, 0x0⟩
def R.TH_STATUS.THROTTLE : RegField := ⟨0x1C, 19, 1, .ro, .L, 0x0⟩
def R.TH_STATUS.REQUESTED : RegField := ⟨0x1C, 20, 1, .ro, .L, 0x0⟩
def R.TH_STATUS.ENFORCING : RegField := ⟨0x1C, 21, 1, .ro, .L, 0x0⟩
def R.TH_STATUS.FAST : RegField := ⟨0x1C, 22, 1, .ro, .L, 0x0⟩
def R.TH_STATUS.DEGRADED : RegField := ⟨0x1C, 23, 1, .ro, .L, 0x0⟩
def R.TH_STATUS.SITES_VALID : RegField := ⟨0x1C, 24, 4, .ro, .L, 0x0⟩
def R.TH_STATUS.SD_MARK : RegField := ⟨0x1C, 28, 1, .ro, .L, 0x0⟩

/-! 0x1D TH_SITE (R678). -/
def R.TH_SITE.SEL : RegField := ⟨0x1D, 0, 4, .rw, .L, 0x0⟩
def R.TH_SITE.TEMP : RegField := ⟨0x1D, 16, 13, .ro, .L, 0x0⟩
def R.TH_SITE.VALID : RegField := ⟨0x1D, 29, 1, .ro, .L, 0x0⟩

/-! 0x1E TH_POWER (R678). -/
def R.TH_POWER.I_CODE : RegField := ⟨0x1E, 0, 10, .ro, .L, 0x0⟩
def R.TH_POWER.P_CORE : RegField := ⟨0x1E, 16, 16, .ro, .L, 0x0⟩

/-! 0x1F TH_MODEL (R678). -/
def R.TH_MODEL.PRED_0 : RegField := ⟨0x1F, 0, 16, .ro, .L, 0x0⟩
def R.TH_MODEL.PRED_H : RegField := ⟨0x1F, 16, 16, .ro, .L, 0x0⟩

/-! 0x20 TB_CTL (R142). -/
def R.TB_CTL.TICK_SRC : RegField := ⟨0x20, 0, 2, .rw, .S, 0x0⟩

/-! 0x21 TB_PERIOD (R142). -/
def R.TB_PERIOD.PERIOD : RegField := ⟨0x21, 0, 22, .rw, .S, 0x7A120⟩

/-! 0x22 TB_ROW0 (R142). -/
def R.TB_ROW0.ROW0_DELAY : RegField := ⟨0x22, 0, 10, .rw, .S, 0x96⟩

/-! 0x23 TB_STATUS (R142). -/
def R.TB_STATUS.SRC : RegField := ⟨0x23, 0, 2, .ro, .L, 0x0⟩
def R.TB_STATUS.RUNNING : RegField := ⟨0x23, 2, 1, .ro, .L, 0x0⟩
def R.TB_STATUS.LATE_PUB : RegField := ⟨0x23, 3, 1, .ro, .L, 0x0⟩
def R.TB_STATUS.REF_LOST : RegField := ⟨0x23, 4, 1, .ro, .L, 0x0⟩
def R.TB_STATUS.PLL_LOCK : RegField := ⟨0x23, 5, 1, .ro, .L, 0x0⟩
def R.TB_STATUS.SHED : RegField := ⟨0x23, 6, 1, .w1c, .L, 0x0⟩

/-! 0x24 TB_FRAME (R142). -/
def R.TB_FRAME.FRAME : RegField := ⟨0x24, 0, 32, .ro, .L, 0x0⟩

/-! 0x25 TB_BUDGET (R142). -/
def R.TB_BUDGET.BUDGET : RegField := ⟨0x25, 0, 16, .ro, .L, 0x0⟩
def R.TB_BUDGET.ADMITTED : RegField := ⟨0x25, 16, 16, .ro, .L, 0x0⟩

/-! 0x26 TB_PT_LO (R185). -/
def R.TB_PT_LO.PT_LO : RegField := ⟨0x26, 0, 32, .ro, .L, 0x0⟩

/-! 0x27 TB_PT_HI (R185). -/
def R.TB_PT_HI.PT_HI : RegField := ⟨0x27, 0, 16, .ro, .L, 0x0⟩

/-! 0x28 TB_WP_CNT (R185). -/
def R.TB_WP_CNT.CNT : RegField := ⟨0x28, 0, 32, .ro, .L, 0x0⟩

/-! 0x29 TB_WP_SUB (R185). -/
def R.TB_WP_SUB.SUB : RegField := ⟨0x29, 0, 8, .ro, .L, 0x0⟩

/-! 0x2A TB_ENC_CTL (R185). -/
def R.TB_ENC_CTL.EN : RegField := ⟨0x2A, 0, 1, .rw, .L, 0x0⟩
def R.TB_ENC_CTL.DIR_INV : RegField := ⟨0x2A, 1, 1, .rw, .X, 0x0⟩
def R.TB_ENC_CTL.INTERP : RegField := ⟨0x2A, 2, 1, .rw, .L, 0x1⟩
def R.TB_ENC_CTL.Z_MODE : RegField := ⟨0x2A, 3, 1, .rw, .X, 0x0⟩
def R.TB_ENC_CTL.FILT : RegField := ⟨0x2A, 4, 6, .rw, .X, 0x4⟩

/-! 0x2B TB_ENC_N (R185). -/
def R.TB_ENC_N.N : RegField := ⟨0x2B, 0, 24, .rw, .S, 0xFA⟩

/-! 0x2C TB_ENC_LIM (R185). -/
def R.TB_ENC_LIM.MIN_PERIOD : RegField := ⟨0x2C, 0, 12, .rw, .S, 0x1F4⟩
def R.TB_ENC_LIM.MAX_PERIOD : RegField := ⟨0x2C, 16, 12, .rw, .S, 0xFA0⟩

/-! 0x2D TB_ENC_VEL (R185). -/
def R.TB_ENC_VEL.VEL : RegField := ⟨0x2D, 0, 32, .ro, .L, 0x0⟩

/-! 0x2E TB_SYNC_CTL (R185). -/
def R.TB_SYNC_CTL.UNIT_ID : RegField := ⟨0x2E, 0, 4, .rw, .X, 0x0⟩
def R.TB_SYNC_CTL.MASTER_CAP : RegField := ⟨0x2E, 4, 1, .rw, .X, 0x0⟩
def R.TB_SYNC_CTL.MASTER_SRC : RegField := ⟨0x2E, 5, 1, .rw, .S, 0x0⟩
def R.TB_SYNC_CTL.LOSS_N : RegField := ⟨0x2E, 8, 4, .rw, .L, 0x3⟩

/-! 0x2F TB_SYNC_STATUS (R185). -/
def R.TB_SYNC_STATUS.ROLE : RegField := ⟨0x2F, 0, 2, .ro, .L, 0x0⟩
def R.TB_SYNC_STATUS.LOCK : RegField := ⟨0x2F, 2, 1, .ro, .L, 0x0⟩
def R.TB_SYNC_STATUS.HOLDOVER : RegField := ⟨0x2F, 3, 1, .ro, .L, 0x0⟩
def R.TB_SYNC_STATUS.PERIOD_MISMATCH : RegField := ⟨0x2F, 4, 1, .ro, .L, 0x0⟩
def R.TB_SYNC_STATUS.COLLISION : RegField := ⟨0x2F, 5, 1, .w1c, .L, 0x0⟩
def R.TB_SYNC_STATUS.MASTER_ID : RegField := ⟨0x2F, 8, 4, .ro, .L, 0x0⟩
def R.TB_SYNC_STATUS.DELAY : RegField := ⟨0x2F, 16, 12, .ro, .L, 0x0⟩

/-! 0x30 FP_CTL (R218). -/
def R.FP_CTL.SHLX : RegField := ⟨0x30, 0, 1, .rw, .X, 0x0⟩
def R.FP_CTL.SHLY : RegField := ⟨0x30, 1, 1, .rw, .X, 0x0⟩

/-! 0x31 FP_STATUS (R218). -/
def R.FP_STATUS.READING : RegField := ⟨0x31, 0, 1, .ro, .L, 0x0⟩
def R.FP_STATUS.BIAS_ON : RegField := ⟨0x31, 1, 1, .ro, .L, 0x0⟩
def R.FP_STATUS.BIAS_CLIP : RegField := ⟨0x31, 2, 1, .ro, .L, 0x0⟩
def R.FP_STATUS.WIN_CLIP : RegField := ⟨0x31, 3, 1, .ro, .L, 0x0⟩
def R.FP_STATUS.TFPA_FAULT : RegField := ⟨0x31, 4, 1, .w1c, .L, 0x0⟩
def R.FP_STATUS.COL_FAULT : RegField := ⟨0x31, 5, 1, .w1c, .L, 0x0⟩
def R.FP_STATUS.BIAS_FAULT : RegField := ⟨0x31, 6, 1, .w1c, .L, 0x0⟩
def R.FP_STATUS.BIAS_OFF_CAL : RegField := ⟨0x31, 7, 1, .ro, .L, 0x0⟩

/-! 0x32 FP_ROWCFG (R218). -/
def R.FP_ROWCFG.ROW_TIME : RegField := ⟨0x32, 0, 12, .rw, .S, 0x12C⟩

/-! 0x33 FP_ROWPHASE (R218). -/
def R.FP_ROWPHASE.BIAS_START : RegField := ⟨0x33, 0, 8, .rw, .U, 0x5⟩
def R.FP_ROWPHASE.BIAS_WIDTH : RegField := ⟨0x33, 8, 8, .rw, .U, 0x3C⟩
def R.FP_ROWPHASE.FACTORY_WIDTH : RegField := ⟨0x33, 16, 8, .ro, .L, 0x0⟩

/-! 0x34 FP_WIN (R218). -/
def R.FP_WIN.Y0_8 : RegField := ⟨0x34, 0, 7, .rw, .S, 0x0⟩
def R.FP_WIN.H_8 : RegField := ⟨0x34, 8, 7, .rw, .S, 0x0⟩

/-! 0x35 FP_BIAS (R218). -/
def R.FP_BIAS.LEVEL : RegField := ⟨0x35, 0, 8, .rw, .S, 0x80⟩
def R.FP_BIAS.FACTORY_LEVEL : RegField := ⟨0x35, 8, 8, .ro, .L, 0x0⟩

/-! 0x36 FP_SKIM (R218). -/
def R.FP_SKIM.RANGE : RegField := ⟨0x36, 0, 2, .rw, .S, 0x0⟩
def R.FP_SKIM.EN : RegField := ⟨0x36, 2, 1, .rw, .S, 0x0⟩
def R.FP_SKIM.BLIND_CODE : RegField := ⟨0x36, 8, 6, .rw, .S, 0x0⟩

/-! 0x37 FP_TFPA (R218). -/
def R.FP_TFPA.TFPA : RegField := ⟨0x37, 0, 16, .ro, .L, 0x0⟩
def R.FP_TFPA.RAW : RegField := ⟨0x37, 16, 14, .ro, .L, 0x0⟩

/-! 0x38 FP_ROWS (R218). -/
def R.FP_ROWS.N : RegField := ⟨0x38, 0, 10, .ro, .L, 0x30C⟩
def R.FP_ROWS.READ_US : RegField := ⟨0x38, 16, 16, .ro, .L, 0x1248⟩

/-! 0x39 FP_COLFAULT (R218). -/
def R.FP_COLFAULT.COUNT : RegField := ⟨0x39, 0, 11, .ro, .L, 0x0⟩
def R.FP_COLFAULT.FIRST : RegField := ⟨0x39, 16, 11, .ro, .L, 0x0⟩

/-! 0x40 CP_CTL (R252). -/
def R.CP_CTL.BLIND_ROW_EN : RegField := ⟨0x40, 0, 1, .rw, .S, 0x1⟩
def R.CP_CTL.BLIND_COL_EN : RegField := ⟨0x40, 1, 1, .rw, .S, 0x1⟩
def R.CP_CTL.OFFSET_EN : RegField := ⟨0x40, 2, 1, .rw, .S, 0x1⟩
def R.CP_CTL.GAIN_EN : RegField := ⟨0x40, 3, 1, .rw, .S, 0x1⟩
def R.CP_CTL.DRIFT_EN : RegField := ⟨0x40, 4, 1, .rw, .S, 0x1⟩
def R.CP_CTL.DECONV_EN : RegField := ⟨0x40, 5, 1, .rw, .S, 0x1⟩
def R.CP_CTL.REPLACE_EN : RegField := ⟨0x40, 6, 1, .rw, .S, 0x1⟩
def R.CP_CTL.RADIO_EN : RegField := ⟨0x40, 7, 1, .rw, .S, 0x1⟩
def R.CP_CTL.COL_K : RegField := ⟨0x40, 8, 3, .rw, .S, 0x3⟩

/-! 0x41 CP_STATUS (R252). -/
def R.CP_STATUS.RUNNING : RegField := ⟨0x41, 0, 1, .ro, .L, 0x0⟩
def R.CP_STATUS.SHADOW : RegField := ⟨0x41, 1, 2, .ro, .L, 0x0⟩
def R.CP_STATUS.BRACKET : RegField := ⟨0x41, 3, 4, .ro, .L, 0x0⟩
def R.CP_STATUS.GAIN_BANK : RegField := ⟨0x41, 7, 1, .ro, .L, 0x0⟩
def R.CP_STATUS.OFFSET_BANK : RegField := ⟨0x41, 8, 1, .ro, .L, 0x0⟩
def R.CP_STATUS.OUT_OF_BRACKET : RegField := ⟨0x41, 9, 1, .ro, .L, 0x0⟩
def R.CP_STATUS.DRIFT_CLAMP : RegField := ⟨0x41, 10, 1, .ro, .L, 0x0⟩
def R.CP_STATUS.ECC_UNCORR : RegField := ⟨0x41, 11, 1, .w1c, .L, 0x0⟩
def R.CP_STATUS.BLIND_SHORT : RegField := ⟨0x41, 12, 1, .w1c, .L, 0x0⟩

/-! 0x42 CP_DRIFT (R252). -/
def R.CP_DRIFT.DT_USED : RegField := ⟨0x42, 0, 16, .ro, .L, 0x0⟩
def R.CP_DRIFT.DT_MAX : RegField := ⟨0x42, 16, 8, .rw, .S, 0x80⟩

/-! 0x43 CP_DECONV (R252). -/
def R.CP_DECONV.A_MAX : RegField := ⟨0x43, 0, 8, .rw, .S, 0xE6⟩
def R.CP_DECONV.REF_PERIOD_US : RegField := ⟨0x43, 16, 16, .ro, .L, 0x0⟩

/-! 0x44 CP_DCLAMP (R252). -/
def R.CP_DCLAMP.DCLAMP : RegField := ⟨0x44, 0, 16, .rw, .S, 0x800⟩

/-! 0x45 CP_SHUT_REF (R252). -/
def R.CP_SHUT_REF.SHUT_REF : RegField := ⟨0x45, 0, 16, .rw, .S, 0x0⟩

/-! 0x46 CP_ECC (R252). -/
def R.CP_ECC.CORR : RegField := ⟨0x46, 0, 20, .rc, .L, 0x0⟩
def R.CP_ECC.UNCORR : RegField := ⟨0x46, 20, 12, .rc, .L, 0x0⟩

/-! 0x47 CP_FRAMESTAT (R252). -/
def R.CP_FRAMESTAT.REPLACED : RegField := ⟨0x47, 0, 20, .ro, .L, 0x0⟩
def R.CP_FRAMESTAT.NOVALUE : RegField := ⟨0x47, 20, 12, .ro, .L, 0x0⟩

/-! 0x48 CP_BRK_CTL (R286). -/
def R.CP_BRK_CTL.AUTO_EN : RegField := ⟨0x48, 0, 1, .rw, .L, 0x1⟩
def R.CP_BRK_CTL.BAND : RegField := ⟨0x48, 4, 8, .rw, .L, 0x8⟩
def R.CP_BRK_CTL.CANCEL_HYST : RegField := ⟨0x48, 12, 8, .rw, .L, 0x4⟩
def R.CP_BRK_CTL.SWAP_HYST : RegField := ⟨0x48, 20, 8, .rw, .L, 0x10⟩

/-! 0x49 CP_BRK_STATUS (R286). -/
def R.CP_BRK_STATUS.CONTENT : RegField := ⟨0x49, 0, 2, .ro, .L, 0x0⟩
def R.CP_BRK_STATUS.COPYBACK : RegField := ⟨0x49, 2, 1, .ro, .L, 0x0⟩
def R.CP_BRK_STATUS.FORCED : RegField := ⟨0x49, 3, 1, .ro, .L, 0x0⟩
def R.CP_BRK_STATUS.TARGET : RegField := ⟨0x49, 4, 4, .ro, .L, 0x0⟩
def R.CP_BRK_STATUS.LATE : RegField := ⟨0x49, 8, 1, .ro, .L, 0x0⟩
def R.CP_BRK_STATUS.LOAD_FAIL : RegField := ⟨0x49, 9, 1, .w1c, .L, 0x0⟩
def R.CP_BRK_STATUS.REC_VALID : RegField := ⟨0x49, 10, 1, .ro, .L, 0x0⟩
def R.CP_BRK_STATUS.PROGRESS : RegField := ⟨0x49, 16, 9, .ro, .L, 0x0⟩

/-! 0x4A CP_BRK_RANGE (R286). -/
def R.CP_BRK_RANGE.T_LO : RegField := ⟨0x4A, 0, 16, .ro, .L, 0x0⟩
def R.CP_BRK_RANGE.T_HI : RegField := ⟨0x4A, 16, 16, .ro, .L, 0x0⟩

/-! 0x4B CP_BRK_COUNT (R286). -/
def R.CP_BRK_COUNT.LOADS : RegField := ⟨0x4B, 0, 16, .rc, .L, 0x0⟩
def R.CP_BRK_COUNT.CANCELS : RegField := ⟨0x4B, 16, 16, .rc, .L, 0x0⟩

/-! 0x4C CP_SHT_CTL (R316). -/
def R.CP_SHT_CTL.CLOSE_MS : RegField := ⟨0x4C, 0, 8, .rw, .L, 0x14⟩
def R.CP_SHT_CTL.OPEN_MS : RegField := ⟨0x4C, 8, 8, .rw, .L, 0x14⟩
def R.CP_SHT_CTL.SHPOS_EN : RegField := ⟨0x4C, 16, 1, .rw, .L, 0x0⟩
def R.CP_SHT_CTL.SHPOS_POL : RegField := ⟨0x4C, 17, 1, .rw, .L, 0x0⟩
def R.CP_SHT_CTL.DIR_INV : RegField := ⟨0x4C, 18, 1, .rw, .L, 0x0⟩

/-! 0x4D CP_SHT_STATUS (R316). -/
def R.CP_SHT_STATUS.POS : RegField := ⟨0x4D, 0, 3, .ro, .L, 0x0⟩
def R.CP_SHT_STATUS.SHT_FAULT : RegField := ⟨0x4D, 3, 1, .w1c, .L, 0x0⟩
def R.CP_SHT_STATUS.OVERCURRENT : RegField := ⟨0x4D, 4, 1, .ro, .L, 0x0⟩
def R.CP_SHT_STATUS.POS_ERR : RegField := ⟨0x4D, 5, 1, .ro, .L, 0x0⟩
def R.CP_SHT_STATUS.ON_2S : RegField := ⟨0x4D, 16, 9, .ro, .L, 0x0⟩

/-! 0x4E CP_MN_CTL (R316). -/
def R.CP_MN_CTL.TIMER_MIN : RegField := ⟨0x4E, 0, 8, .rw, .L, 0x14⟩
def R.CP_MN_CTL.SETTLE : RegField := ⟨0x4E, 8, 3, .rw, .L, 0x2⟩
def R.CP_MN_CTL.N_ACC : RegField := ⟨0x4E, 12, 6, .rw, .L, 0xF⟩
def R.CP_MN_CTL.DRIFT_TRIG_EN : RegField := ⟨0x4E, 18, 1, .rw, .L, 0x1⟩
def R.CP_MN_CTL.RESID : RegField := ⟨0x4E, 20, 4, .rw, .L, 0x7⟩
def R.CP_MN_CTL.DRIFT_BOUND : RegField := ⟨0x4E, 24, 8, .rw, .L, 0x40⟩

/-! 0x4F CP_MN_STATUS (R316). -/
def R.CP_MN_STATUS.STEP : RegField := ⟨0x4F, 0, 4, .ro, .L, 0x0⟩
def R.CP_MN_STATUS.LAST_RESULT : RegField := ⟨0x4F, 4, 3, .ro, .L, 0x0⟩
def R.CP_MN_STATUS.SAFETY_NET : RegField := ⟨0x4F, 7, 1, .ro, .L, 0x0⟩
def R.CP_MN_STATUS.TRIGGER : RegField := ⟨0x4F, 8, 2, .ro, .L, 0x0⟩
def R.CP_MN_STATUS.MIN_SINCE : RegField := ⟨0x4F, 16, 8, .ro, .L, 0x0⟩
def R.CP_MN_STATUS.LAST_RESID : RegField := ⟨0x4F, 24, 8, .ro, .L, 0x0⟩

/-! 0x50 ZN_CTL (R348). -/
def R.ZN_CTL.BIND_EN : RegField := ⟨0x50, 0, 1, .rw, .S, 0x1⟩
def R.ZN_CTL.EVENT_EN : RegField := ⟨0x50, 1, 1, .rw, .S, 0x1⟩

/-! 0x51 ZN_STATUS (R348). -/
def R.ZN_STATUS.RUNNING : RegField := ⟨0x51, 0, 1, .ro, .L, 0x0⟩
def R.ZN_STATUS.SAFETY_NET : RegField := ⟨0x51, 1, 1, .ro, .L, 0x0⟩
def R.ZN_STATUS.SHED_LAST : RegField := ⟨0x51, 2, 1, .ro, .L, 0x0⟩

/-! 0x52 ZN_PUB_FRAME (R348). -/
def R.ZN_PUB_FRAME.FRAME : RegField := ⟨0x52, 0, 32, .ro, .L, 0x0⟩

/-! 0x53 ZN_SHED (R348). -/
def R.ZN_SHED.COUNT : RegField := ⟨0x53, 0, 11, .ro, .L, 0x0⟩
def R.ZN_SHED.FIRST : RegField := ⟨0x53, 16, 10, .ro, .L, 0x0⟩

/-! 0x54 ZN_COUNT (R348). -/
def R.ZN_COUNT.ENABLED : RegField := ⟨0x54, 0, 11, .ro, .L, 0x0⟩
def R.ZN_COUNT.ADMITTED : RegField := ⟨0x54, 16, 11, .ro, .L, 0x0⟩

/-! 0x55 ZN_OVERRUN_CNT (R348). -/
def R.ZN_OVERRUN_CNT.FRAMES : RegField := ⟨0x55, 0, 16, .rc, .L, 0x0⟩

/-! 0x56 ZN_LOOP_EN (R348). -/
def R.ZN_LOOP_EN.EN : RegField := ⟨0x56, 0, 8, .rw, .S, 0x0⟩

/-! 0x57 ZN_LOOP_STATUS (R348). -/
def R.ZN_LOOP_STATUS.HOLDING : RegField := ⟨0x57, 0, 8, .ro, .L, 0x0⟩
def R.ZN_LOOP_STATUS.SATURATED : RegField := ⟨0x57, 8, 8, .ro, .L, 0x0⟩
def R.ZN_LOOP_STATUS.FROZEN : RegField := ⟨0x57, 16, 8, .ro, .L, 0x0⟩

/-! 0x60 AS_CTL (R379). -/
def R.AS_CTL.DRAIN_EN : RegField := ⟨0x60, 0, 1, .rw, .L, 0x1⟩
def R.AS_CTL.LATE_GRACE : RegField := ⟨0x60, 8, 8, .rw, .L, 0x0⟩
def R.AS_CTL.VEL_MIN : RegField := ⟨0x60, 16, 16, .rw, .L, 0x64⟩

/-! 0x61 AS_STATUS (R379). -/
def R.AS_STATUS.ADMITTING : RegField := ⟨0x61, 0, 1, .ro, .L, 0x0⟩
def R.AS_STATUS.FULL : RegField := ⟨0x61, 1, 1, .ro, .L, 0x0⟩
def R.AS_STATUS.HELD : RegField := ⟨0x61, 2, 1, .ro, .L, 0x0⟩
def R.AS_STATUS.DROPPED : RegField := ⟨0x61, 3, 1, .w1c, .L, 0x0⟩
def R.AS_STATUS.EVICTED : RegField := ⟨0x61, 4, 1, .w1c, .L, 0x0⟩
def R.AS_STATUS.ECC : RegField := ⟨0x61, 5, 1, .w1c, .L, 0x0⟩

/-! 0x62 AS_COUNT (R379). -/
def R.AS_COUNT.ARMED : RegField := ⟨0x62, 0, 10, .ro, .L, 0x0⟩
def R.AS_COUNT.PEAK : RegField := ⟨0x62, 16, 10, .rc, .L, 0x0⟩

/-! 0x63 AS_DROP_CNT (R379). -/
def R.AS_DROP_CNT.DROPPED : RegField := ⟨0x63, 0, 16, .rc, .L, 0x0⟩
def R.AS_DROP_CNT.EVICTED : RegField := ⟨0x63, 16, 16, .rc, .L, 0x0⟩

/-! 0x64 AS_CANCEL_CNT (R379). -/
def R.AS_CANCEL_CNT.CANCELS : RegField := ⟨0x64, 0, 16, .rc, .L, 0x0⟩
def R.AS_CANCEL_CNT.LEADIN_CANCELS : RegField := ⟨0x64, 16, 16, .rc, .L, 0x0⟩

/-! 0x65 AS_DRAIN (R379). -/
def R.AS_DRAIN.MASK : RegField := ⟨0x65, 0, 32, .rw, .L, 0xC⟩

/-! 0x70 VD_CTL (R427). -/
def R.VD_CTL.BANK_EN : RegField := ⟨0x70, 0, 4, .rw, .S, 0x0⟩
def R.VD_CTL.MODE : RegField := ⟨0x70, 4, 4, .rw, .S, 0x0⟩
def R.VD_CTL.PAIR : RegField := ⟨0x70, 8, 8, .rw, .S, 0x0⟩
def R.VD_CTL.BST_EN : RegField := ⟨0x70, 16, 1, .rw, .S, 0x0⟩

/-! 0x71 VD_BST_CTL (R427). -/
def R.VD_BST_CTL.SETPOINT : RegField := ⟨0x71, 0, 10, .rw, .S, 0x1E0⟩
def R.VD_BST_CTL.ILIM : RegField := ⟨0x71, 12, 8, .rw, .L, 0x64⟩
def R.VD_BST_CTL.FREQ : RegField := ⟨0x71, 20, 4, .rw, .X, 0x4⟩
def R.VD_BST_CTL.HYST : RegField := ⟨0x71, 24, 4, .rw, .L, 0x2⟩

/-! 0x72 VD_BST_STATUS (R427). -/
def R.VD_BST_STATUS.VBOOST : RegField := ⟨0x72, 0, 10, .ro, .L, 0x0⟩
def R.VD_BST_STATUS.VBAT : RegField := ⟨0x72, 16, 10, .ro, .L, 0x0⟩
def R.VD_BST_STATUS.RUNNING : RegField := ⟨0x72, 26, 1, .ro, .L, 0x0⟩
def R.VD_BST_STATUS.OV_STOP : RegField := ⟨0x72, 27, 1, .ro, .L, 0x0⟩
def R.VD_BST_STATUS.SOFTSTART : RegField := ⟨0x72, 28, 1, .ro, .L, 0x0⟩
def R.VD_BST_STATUS.UV_ARMED : RegField := ⟨0x72, 29, 1, .ro, .L, 0x0⟩

/-! 0x73 VD_BANK_WAIT (R427). -/
def R.VD_BANK_WAIT.WAIT_A : RegField := ⟨0x73, 0, 8, .rw, .L, 0x19⟩
def R.VD_BANK_WAIT.WAIT_B : RegField := ⟨0x73, 8, 8, .rw, .L, 0x19⟩
def R.VD_BANK_WAIT.WAIT_C : RegField := ⟨0x73, 16, 8, .rw, .L, 0x19⟩
def R.VD_BANK_WAIT.WAIT_D : RegField := ⟨0x73, 24, 8, .rw, .L, 0x19⟩

/-! 0x74 VD_STATUS (R427). -/
def R.VD_STATUS.BUSY : RegField := ⟨0x74, 0, 4, .ro, .L, 0x0⟩
def R.VD_STATUS.WAITING : RegField := ⟨0x74, 4, 4, .ro, .L, 0x0⟩
def R.VD_STATUS.OWNER : RegField := ⟨0x74, 8, 16, .ro, .L, 0x0⟩
def R.VD_STATUS.FALLBACK : RegField := ⟨0x74, 24, 4, .ro, .L, 0x0⟩

/-! 0x75 VD_PHASE_LO (R427). -/
def R.VD_PHASE_LO.PHASE_0 : RegField := ⟨0x75, 0, 4, .ro, .L, 0x0⟩
def R.VD_PHASE_LO.PHASE_1 : RegField := ⟨0x75, 4, 4, .ro, .L, 0x0⟩
def R.VD_PHASE_LO.PHASE_2 : RegField := ⟨0x75, 8, 4, .ro, .L, 0x0⟩
def R.VD_PHASE_LO.PHASE_3 : RegField := ⟨0x75, 12, 4, .ro, .L, 0x0⟩
def R.VD_PHASE_LO.PHASE_4 : RegField := ⟨0x75, 16, 4, .ro, .L, 0x0⟩
def R.VD_PHASE_LO.PHASE_5 : RegField := ⟨0x75, 20, 4, .ro, .L, 0x0⟩
def R.VD_PHASE_LO.PHASE_6 : RegField := ⟨0x75, 24, 4, .ro, .L, 0x0⟩
def R.VD_PHASE_LO.PHASE_7 : RegField := ⟨0x75, 28, 4, .ro, .L, 0x0⟩

/-! 0x76 VD_PHASE_HI (R427). -/
def R.VD_PHASE_HI.PHASE_0 : RegField := ⟨0x76, 0, 4, .ro, .L, 0x0⟩
def R.VD_PHASE_HI.PHASE_1 : RegField := ⟨0x76, 4, 4, .ro, .L, 0x0⟩
def R.VD_PHASE_HI.PHASE_2 : RegField := ⟨0x76, 8, 4, .ro, .L, 0x0⟩
def R.VD_PHASE_HI.PHASE_3 : RegField := ⟨0x76, 12, 4, .ro, .L, 0x0⟩
def R.VD_PHASE_HI.PHASE_4 : RegField := ⟨0x76, 16, 4, .ro, .L, 0x0⟩
def R.VD_PHASE_HI.PHASE_5 : RegField := ⟨0x76, 20, 4, .ro, .L, 0x0⟩
def R.VD_PHASE_HI.PHASE_6 : RegField := ⟨0x76, 24, 4, .ro, .L, 0x0⟩
def R.VD_PHASE_HI.PHASE_7 : RegField := ⟨0x76, 28, 4, .ro, .L, 0x0⟩

/-! 0x77 VD_FAULT (R427). -/
def R.VD_FAULT.CH : RegField := ⟨0x77, 0, 16, .w1c, .L, 0x0⟩
def R.VD_FAULT.BOOTSTRAP_UV : RegField := ⟨0x77, 16, 4, .w1c, .L, 0x0⟩
def R.VD_FAULT.BOOST_UV : RegField := ⟨0x77, 20, 1, .w1c, .L, 0x0⟩

/-! 0x78 VD_TRIP (R427). -/
def R.VD_TRIP.THERMAL : RegField := ⟨0x78, 0, 16, .ro, .L, 0x0⟩
def R.VD_TRIP.ONTIME_SEEN : RegField := ⟨0x78, 16, 16, .w1c, .L, 0x0⟩

/-! 0x79 VD_COUNT (R427). -/
def R.VD_COUNT.REFUSED : RegField := ⟨0x79, 0, 16, .rc, .L, 0x0⟩
def R.VD_COUNT.EXTENDED : RegField := ⟨0x79, 16, 16, .rc, .L, 0x0⟩

/-! 0x80 LD_CTL (R458). -/
def R.LD_CTL.CH_EN : RegField := ⟨0x80, 0, 8, .rw, .S, 0x0⟩

/-! 0x81 LD_PWM (R458). -/
def R.LD_PWM.PERIOD : RegField := ⟨0x81, 0, 20, .rw, .X, 0x30D40⟩

/-! 0x82 LD_BUDGET (R458). -/
def R.LD_BUDGET.I_MAX : RegField := ⟨0x82, 0, 16, .rw, .S, 0xFFFF⟩
def R.LD_BUDGET.I_TRIP : RegField := ⟨0x82, 16, 16, .rw, .S, 0x0⟩

/-! 0x83 LD_SUPPLY (R458). -/
def R.LD_SUPPLY.UV_PAUSE : RegField := ⟨0x83, 0, 10, .rw, .S, 0xC8⟩
def R.LD_SUPPLY.VLMP : RegField := ⟨0x83, 16, 10, .ro, .L, 0x0⟩

/-! 0x84 LD_STATUS (R458). -/
def R.LD_STATUS.INRUSH : RegField := ⟨0x84, 0, 8, .ro, .L, 0x0⟩
def R.LD_STATUS.PAUSED : RegField := ⟨0x84, 8, 8, .ro, .L, 0x0⟩
def R.LD_STATUS.SHORT_LE_LIM : RegField := ⟨0x84, 16, 8, .ro, .L, 0x0⟩
def R.LD_STATUS.RUNNING : RegField := ⟨0x84, 24, 1, .ro, .L, 0x0⟩
def R.LD_STATUS.LIMITED : RegField := ⟨0x84, 25, 1, .ro, .L, 0x0⟩

/-! 0x85 LD_FAULT (R458). -/
def R.LD_FAULT.CH : RegField := ⟨0x85, 0, 8, .w1c, .L, 0x0⟩
def R.LD_FAULT.GROUP_OC : RegField := ⟨0x85, 8, 1, .w1c, .L, 0x0⟩

/-! 0x86 LD_FACTOR (R458). -/
def R.LD_FACTOR.F : RegField := ⟨0x86, 0, 17, .ro, .L, 0x10000⟩

/-! 0x87 LD_TOTAL (R458). -/
def R.LD_TOTAL.RSHUNT_T : RegField := ⟨0x87, 0, 16, .rw, .S, 0x64⟩
def R.LD_TOTAL.ITOTAL : RegField := ⟨0x87, 16, 16, .ro, .L, 0x0⟩

/-! 0x90 CFG_TXN (R522). -/
def R.CFG_TXN.OP : RegField := ⟨0x90, 0, 3, .wo, .L, 0x0⟩
def R.CFG_TXN.FORCE : RegField := ⟨0x90, 3, 1, .wo, .L, 0x0⟩

/-! 0x91 CFG_COMMIT_TICK (R522). -/
def R.CFG_COMMIT_TICK.TICK : RegField := ⟨0x91, 0, 32, .rw, .L, 0x0⟩

/-! 0x92 CFG_TIMEOUT (R522). -/
def R.CFG_TIMEOUT.MS : RegField := ⟨0x92, 0, 16, .rw, .L, 0x0⟩

/-! 0x93 CFG_STATUS (R522). -/
def R.CFG_STATUS.OPEN : RegField := ⟨0x93, 0, 1, .ro, .L, 0x0⟩
def R.CFG_STATUS.OWNER : RegField := ⟨0x93, 1, 3, .ro, .L, 0x0⟩
def R.CFG_STATUS.PENDING : RegField := ⟨0x93, 4, 1, .ro, .L, 0x0⟩
def R.CFG_STATUS.DOOMED : RegField := ⟨0x93, 5, 1, .ro, .L, 0x0⟩
def R.CFG_STATUS.LATE : RegField := ⟨0x93, 6, 1, .w1c, .L, 0x0⟩
def R.CFG_STATUS.OVER_FULL : RegField := ⟨0x93, 7, 1, .ro, .L, 0x0⟩
def R.CFG_STATUS.OVER_DIV2 : RegField := ⟨0x93, 8, 1, .ro, .L, 0x0⟩
def R.CFG_STATUS.OVER_DIV4 : RegField := ⟨0x93, 9, 1, .ro, .L, 0x0⟩
def R.CFG_STATUS.LAST_OUTCOME : RegField := ⟨0x93, 10, 3, .ro, .L, 0x0⟩

/-! 0x94 CFG_JOURNAL (R522). -/
def R.CFG_JOURNAL.USED : RegField := ⟨0x94, 0, 17, .ro, .L, 0x0⟩
def R.CFG_JOURNAL.ENTRIES : RegField := ⟨0x94, 17, 14, .ro, .L, 0x0⟩

/-! 0x95 CFG_LAST_TICK (R522). -/
def R.CFG_LAST_TICK.TICK : RegField := ⟨0x95, 0, 32, .ro, .L, 0x0⟩

/-! 0x96 CFG_BUDGET (R522). -/
def R.CFG_BUDGET.ESTIMATE : RegField := ⟨0x96, 0, 16, .ro, .L, 0x0⟩
def R.CFG_BUDGET.B_FULL : RegField := ⟨0x96, 16, 16, .ro, .L, 0x0⟩

/-! 0x97 CFG_OVERLAY (R522). -/
def R.CFG_OVERLAY.ACTIVE : RegField := ⟨0x97, 0, 7, .ro, .L, 0x7F⟩
def R.CFG_OVERLAY.ARMED : RegField := ⟨0x97, 8, 7, .ro, .L, 0x7F⟩
def R.CFG_OVERLAY.STATE : RegField := ⟨0x97, 16, 2, .ro, .L, 0x0⟩
def R.CFG_OVERLAY.LAST_FAIL : RegField := ⟨0x97, 24, 3, .ro, .L, 0x0⟩

/-! 0x98 CFG_COUNT (R522). -/
def R.CFG_COUNT.COMMITS : RegField := ⟨0x98, 0, 16, .rc, .L, 0x0⟩
def R.CFG_COUNT.ROLLBACKS : RegField := ⟨0x98, 16, 16, .rc, .L, 0x0⟩

/-! 0xA0 RG_SEL (R564). -/
def R.RG_SEL.RING : RegField := ⟨0xA0, 0, 5, .rw, .L, 0x0⟩

/-! 0xA1 RG_BASE (R564). -/
def R.RG_BASE.BASE : RegField := ⟨0xA1, 0, 19, .rw, .X, 0x0⟩

/-! 0xA2 RG_CFG (R564). -/
def R.RG_CFG.EN : RegField := ⟨0xA2, 0, 1, .rw, .L, 0x1⟩
def R.RG_CFG.ROLE : RegField := ⟨0xA2, 1, 2, .rw, .X, 0x1⟩
def R.RG_CFG.ESIZE : RegField := ⟨0xA2, 3, 1, .rw, .X, 0x1⟩
def R.RG_CFG.DEPTH_LOG2 : RegField := ⟨0xA2, 4, 4, .rw, .X, 0xA⟩
def R.RG_CFG.OWNER : RegField := ⟨0xA2, 8, 3, .rw, .X, 0x0⟩
def R.RG_CFG.DB_BIT : RegField := ⟨0xA2, 11, 5, .rw, .X, 0x0⟩
def R.RG_CFG.POLICY : RegField := ⟨0xA2, 16, 1, .rw, .X, 0x0⟩
def R.RG_CFG.PERSIST : RegField := ⟨0xA2, 17, 1, .rw, .X, 0x0⟩

/-! 0xA3 RG_HEAD (R564). -/
def R.RG_HEAD.INDEX : RegField := ⟨0xA3, 0, 12, .rw, .L, 0x0⟩

/-! 0xA4 RG_TAIL (R564). -/
def R.RG_TAIL.INDEX : RegField := ⟨0xA4, 0, 12, .rw, .L, 0x0⟩

/-! 0xA5 RG_STATUS (R564). -/
def R.RG_STATUS.COUNT : RegField := ⟨0xA5, 0, 12, .ro, .L, 0x0⟩
def R.RG_STATUS.FULL : RegField := ⟨0xA5, 12, 1, .ro, .L, 0x0⟩
def R.RG_STATUS.LOST_PENDING : RegField := ⟨0xA5, 13, 1, .ro, .L, 0x0⟩
def R.RG_STATUS.DROPPED : RegField := ⟨0xA5, 14, 1, .w1c, .L, 0x0⟩
def R.RG_STATUS.CFG_ERR : RegField := ⟨0xA5, 15, 1, .w1c, .L, 0x0⟩

/-! 0xA6 RG_SEQ (R564). -/
def R.RG_SEQ.SEQ : RegField := ⟨0xA6, 0, 32, .ro, .L, 0x0⟩

/-! 0xA7 RG_LOST (R564). -/
def R.RG_LOST.LOST : RegField := ⟨0xA7, 0, 32, .rc, .L, 0x0⟩

/-! 0xA8 RG_ENABLED (R564). -/
def R.RG_ENABLED.MAP : RegField := ⟨0xA8, 0, 32, .ro, .L, 0xF⟩

/-! 0xA9 RG_NONEMPTY (R564). -/
def R.RG_NONEMPTY.MAP : RegField := ⟨0xA9, 0, 32, .ro, .L, 0x0⟩

/-! 0xB0 MB_BOOTH_LO (R564). -/
def R.MB_BOOTH_LO.MID_A_0 : RegField := ⟨0xB0, 0, 3, .rw, .X, 0x0⟩
def R.MB_BOOTH_LO.MID_A_1 : RegField := ⟨0xB0, 8, 3, .rw, .X, 0x1⟩
def R.MB_BOOTH_LO.MID_A_2 : RegField := ⟨0xB0, 16, 3, .rw, .X, 0x3⟩
def R.MB_BOOTH_LO.MID_A_3 : RegField := ⟨0xB0, 24, 3, .rw, .X, 0x0⟩
def R.MB_BOOTH_LO.MID_B_0 : RegField := ⟨0xB0, 3, 3, .rw, .X, 0x2⟩
def R.MB_BOOTH_LO.MID_B_1 : RegField := ⟨0xB0, 11, 3, .rw, .X, 0x2⟩
def R.MB_BOOTH_LO.MID_B_2 : RegField := ⟨0xB0, 19, 3, .rw, .X, 0x2⟩
def R.MB_BOOTH_LO.MID_B_3 : RegField := ⟨0xB0, 27, 3, .rw, .X, 0x0⟩
def R.MB_BOOTH_LO.EN_0 : RegField := ⟨0xB0, 6, 1, .rw, .X, 0x1⟩
def R.MB_BOOTH_LO.EN_1 : RegField := ⟨0xB0, 14, 1, .rw, .X, 0x1⟩
def R.MB_BOOTH_LO.EN_2 : RegField := ⟨0xB0, 22, 1, .rw, .X, 0x1⟩
def R.MB_BOOTH_LO.EN_3 : RegField := ⟨0xB0, 30, 1, .rw, .X, 0x0⟩

/-! 0xB1 MB_BOOTH_HI (R564). -/
def R.MB_BOOTH_HI.MID_A_0 : RegField := ⟨0xB1, 0, 3, .rw, .X, 0x0⟩
def R.MB_BOOTH_HI.MID_A_1 : RegField := ⟨0xB1, 8, 3, .rw, .X, 0x0⟩
def R.MB_BOOTH_HI.MID_A_2 : RegField := ⟨0xB1, 16, 3, .rw, .X, 0x0⟩
def R.MB_BOOTH_HI.MID_A_3 : RegField := ⟨0xB1, 24, 3, .rw, .X, 0x0⟩
def R.MB_BOOTH_HI.MID_B_0 : RegField := ⟨0xB1, 3, 3, .rw, .X, 0x0⟩
def R.MB_BOOTH_HI.MID_B_1 : RegField := ⟨0xB1, 11, 3, .rw, .X, 0x0⟩
def R.MB_BOOTH_HI.MID_B_2 : RegField := ⟨0xB1, 19, 3, .rw, .X, 0x0⟩
def R.MB_BOOTH_HI.MID_B_3 : RegField := ⟨0xB1, 27, 3, .rw, .X, 0x0⟩
def R.MB_BOOTH_HI.EN_0 : RegField := ⟨0xB1, 6, 1, .rw, .X, 0x0⟩
def R.MB_BOOTH_HI.EN_1 : RegField := ⟨0xB1, 14, 1, .rw, .X, 0x0⟩
def R.MB_BOOTH_HI.EN_2 : RegField := ⟨0xB1, 22, 1, .rw, .X, 0x0⟩
def R.MB_BOOTH_HI.EN_3 : RegField := ⟨0xB1, 30, 1, .rw, .X, 0x0⟩

/-! 0xB2 MB_CTL (R564). -/
def R.MB_CTL.BEGIN : RegField := ⟨0xB2, 0, 1, .wo, .L, 0x0⟩
def R.MB_CTL.LOCK : RegField := ⟨0xB2, 1, 1, .wo, .L, 0x0⟩
def R.MB_CTL.EDIT : RegField := ⟨0xB2, 2, 1, .ro, .L, 0x0⟩
def R.MB_CTL.LOCKED : RegField := ⟨0xB2, 3, 1, .ro, .L, 0x0⟩
def R.MB_CTL.EDITOR : RegField := ⟨0xB2, 4, 3, .ro, .L, 0x0⟩

/-! 0xB3 MB_CH (R564). -/
def R.MB_CH.CH : RegField := ⟨0xB3, 0, 3, .rw, .L, 0x0⟩

/-! 0xB4 MB_TX (R564). -/
def R.MB_TX.WORD : RegField := ⟨0xB4, 0, 32, .wo, .L, 0x0⟩

/-! 0xB5 MB_RX (R564). -/
def R.MB_RX.WORD : RegField := ⟨0xB5, 0, 32, .rc, .L, 0x0⟩

/-! 0xB6 MB_QSTAT (R564). -/
def R.MB_QSTAT.RX_WORDS : RegField := ⟨0xB6, 0, 4, .ro, .L, 0x0⟩
def R.MB_QSTAT.TX_SPACE : RegField := ⟨0xB6, 4, 4, .ro, .L, 0x8⟩
def R.MB_QSTAT.FULL : RegField := ⟨0xB6, 8, 1, .w1c, .L, 0x0⟩
def R.MB_QSTAT.ABORTED : RegField := ⟨0xB6, 9, 1, .w1c, .L, 0x0⟩
def R.MB_QSTAT.DISCARDED : RegField := ⟨0xB6, 10, 4, .ro, .L, 0x0⟩
def R.MB_QSTAT.BOUND : RegField := ⟨0xB6, 14, 1, .ro, .L, 0x0⟩
def R.MB_QSTAT.ERR : RegField := ⟨0xB6, 15, 1, .w1c, .L, 0x0⟩
def R.MB_QSTAT.OTHER : RegField := ⟨0xB6, 16, 3, .ro, .L, 0x0⟩

/-! 0xB7 MB_DB (R564). -/
def R.MB_DB.DB : RegField := ⟨0xB7, 0, 32, .w1c, .L, 0x0⟩

/-! 0xB8 MB_DB_MASK (R564). -/
def R.MB_DB_MASK.MASK : RegField := ⟨0xB8, 0, 32, .rw, .L, 0x0⟩

/-! 0xB9 MB_DB_SEQ (R564). -/
def R.MB_DB_SEQ.DB : RegField := ⟨0xB9, 0, 32, .ro, .L, 0x0⟩

/-! 0xBA MB_DB_RING (R564). -/
def R.MB_DB_RING.BIT : RegField := ⟨0xBA, 0, 5, .wo, .L, 0x0⟩
def R.MB_DB_RING.TARGET : RegField := ⟨0xBA, 5, 1, .wo, .L, 0x0⟩

/-! 0xBB MB_PORT_RESET (R564). -/
def R.MB_PORT_RESET.KEY : RegField := ⟨0xBB, 0, 8, .wo, .L, 0x0⟩

/-! 0xBC MB_PENDING (R564). -/
def R.MB_PENDING.RX : RegField := ⟨0xBC, 0, 8, .ro, .L, 0x0⟩
def R.MB_PENDING.SPACE : RegField := ⟨0xBC, 8, 8, .ro, .L, 0x0⟩

/-! 0xC0 IC_CTL (R589). -/
def R.IC_CTL.IRQA_EN : RegField := ⟨0xC0, 0, 1, .rw, .L, 0x1⟩
def R.IC_CTL.IRQB_EN : RegField := ⟨0xC0, 1, 1, .rw, .L, 0x1⟩

/-! 0xC1 IC_SEL (R589). -/
def R.IC_SEL.SRC : RegField := ⟨0xC1, 0, 8, .rw, .L, 0x0⟩

/-! 0xC2 IC_CFG (R589). -/
def R.IC_CFG.PRIO : RegField := ⟨0xC2, 0, 4, .rw, .L, 0x0⟩
def R.IC_CFG.TARGET : RegField := ⟨0xC2, 4, 2, .rw, .L, 0x0⟩
def R.IC_CFG.PENDING : RegField := ⟨0xC2, 8, 1, .ro, .L, 0x0⟩

/-! 0xC3 IC_PEND (R589). -/
def R.IC_PEND.PEND : RegField := ⟨0xC3, 0, 32, .w1c, .L, 0x0⟩

/-! 0xC4 IC_ACK_A (R589). -/
def R.IC_ACK_A.SRC : RegField := ⟨0xC4, 0, 8, .rc, .L, 0x0⟩
def R.IC_ACK_A.PRIO : RegField := ⟨0xC4, 8, 4, .rc, .L, 0x0⟩

/-! 0xC5 IC_EOI_A (R589). -/
def R.IC_EOI_A.EOI : RegField := ⟨0xC5, 0, 32, .wo, .L, 0x0⟩

/-! 0xC6 IC_ACK_B (R589). -/
def R.IC_ACK_B.SRC : RegField := ⟨0xC6, 0, 8, .rc, .L, 0x0⟩
def R.IC_ACK_B.PRIO : RegField := ⟨0xC6, 8, 4, .rc, .L, 0x0⟩

/-! 0xC7 IC_EOI_B (R589). -/
def R.IC_EOI_B.EOI : RegField := ⟨0xC7, 0, 32, .wo, .L, 0x0⟩

/-! 0xC8 IC_RUN_A (R589). -/
def R.IC_RUN_A.RUNNING : RegField := ⟨0xC8, 0, 4, .ro, .L, 0x0⟩
def R.IC_RUN_A.DEPTH : RegField := ⟨0xC8, 4, 4, .ro, .L, 0x0⟩
def R.IC_RUN_A.NEXT : RegField := ⟨0xC8, 8, 8, .ro, .L, 0x0⟩

/-! 0xC9 IC_RUN_B (R589). -/
def R.IC_RUN_B.RUNNING : RegField := ⟨0xC9, 0, 4, .ro, .L, 0x0⟩
def R.IC_RUN_B.DEPTH : RegField := ⟨0xC9, 4, 4, .ro, .L, 0x0⟩
def R.IC_RUN_B.NEXT : RegField := ⟨0xC9, 8, 8, .ro, .L, 0x0⟩

/-! 0xCA IC_RUN_SEQ (R589). -/
def R.IC_RUN_SEQ.RUNNING : RegField := ⟨0xCA, 0, 4, .ro, .L, 0x0⟩
def R.IC_RUN_SEQ.DEPTH : RegField := ⟨0xCA, 4, 4, .ro, .L, 0x0⟩
def R.IC_RUN_SEQ.NEXT : RegField := ⟨0xCA, 8, 8, .ro, .L, 0x0⟩

/-! 0xCB IC_STAT (R589). -/
def R.IC_STAT.COALESCED : RegField := ⟨0xCB, 0, 16, .rc, .L, 0x0⟩
def R.IC_STAT.EOI_EMPTY : RegField := ⟨0xCB, 16, 8, .rc, .L, 0x0⟩
def R.IC_STAT.SEQ_DISCARD : RegField := ⟨0xCB, 24, 8, .rc, .L, 0x0⟩

/-! 0xCC IC_ROUTINE (R589). -/
def R.IC_ROUTINE.ROUTINE : RegField := ⟨0xCC, 0, 4, .ro, .L, 0x0⟩
def R.IC_ROUTINE.STEP : RegField := ⟨0xCC, 4, 8, .ro, .L, 0x0⟩
def R.IC_ROUTINE.ABORT_PENDING : RegField := ⟨0xCC, 12, 1, .ro, .L, 0x0⟩
def R.IC_ROUTINE.LAST_ROUTINE : RegField := ⟨0xCC, 16, 4, .ro, .L, 0x0⟩
def R.IC_ROUTINE.LAST_END : RegField := ⟨0xCC, 20, 3, .ro, .L, 0x0⟩

/-! 0xD0 MP_CTL (R612). -/
def R.MP_CTL.DIV : RegField := ⟨0xD0, 0, 8, .rw, .U, 0x8⟩
def R.MP_CTL.MODE3 : RegField := ⟨0xD0, 8, 1, .rw, .X, 0x0⟩
def R.MP_CTL.RX_DLY : RegField := ⟨0xD0, 9, 2, .rw, .X, 0x0⟩
def R.MP_CTL.S0_WRITE : RegField := ⟨0xD0, 11, 1, .rw, .X, 0x0⟩

/-! 0xD1 MP_SEL0 (R612). -/
def R.MP_SEL0.TPRE : RegField := ⟨0xD1, 0, 8, .rw, .L, 0x1⟩
def R.MP_SEL0.TPOST : RegField := ⟨0xD1, 8, 8, .rw, .L, 0x1⟩
def R.MP_SEL0.TGAP : RegField := ⟨0xD1, 16, 8, .rw, .L, 0x1⟩
def R.MP_SEL0.ADDR4 : RegField := ⟨0xD1, 24, 1, .ro, .L, 0x0⟩
def R.MP_SEL0.READ_CMD : RegField := ⟨0xD1, 25, 1, .rw, .L, 0x0⟩

/-! 0xD2 MP_SEL1 (R612). -/
def R.MP_SEL1.TPRE : RegField := ⟨0xD2, 0, 8, .rw, .L, 0x1⟩
def R.MP_SEL1.TPOST : RegField := ⟨0xD2, 8, 8, .rw, .L, 0x1⟩
def R.MP_SEL1.TGAP : RegField := ⟨0xD2, 16, 8, .rw, .L, 0x1⟩
def R.MP_SEL1.ADDR4 : RegField := ⟨0xD2, 24, 1, .rw, .X, 0x0⟩
def R.MP_SEL1.READ_CMD : RegField := ⟨0xD2, 25, 1, .rw, .L, 0x0⟩

/-! 0xD3 MP_TMO (R612). -/
def R.MP_TMO.PROG_MS : RegField := ⟨0xD3, 0, 8, .rw, .L, 0x32⟩
def R.MP_TMO.ERASE_MS : RegField := ⟨0xD3, 8, 8, .rw, .L, 0xC8⟩
def R.MP_TMO.POLL : RegField := ⟨0xD3, 16, 8, .rw, .L, 0xA⟩
def R.MP_TMO.FILL_MS : RegField := ⟨0xD3, 24, 8, .rw, .L, 0xA⟩

/-! 0xD4 MP_STATUS (R612). -/
def R.MP_STATUS.WIRE : RegField := ⟨0xD4, 0, 1, .ro, .L, 0x0⟩
def R.MP_STATUS.WBUSY : RegField := ⟨0xD4, 1, 1, .ro, .L, 0x0⟩
def R.MP_STATUS.WAITING : RegField := ⟨0xD4, 2, 1, .ro, .L, 0x0⟩
def R.MP_STATUS.ERASING : RegField := ⟨0xD4, 3, 1, .ro, .L, 0x0⟩
def R.MP_STATUS.STUCK : RegField := ⟨0xD4, 4, 2, .w1c, .L, 0x0⟩
def R.MP_STATUS.WR_REFUSED : RegField := ⟨0xD4, 6, 1, .w1c, .L, 0x0⟩
def R.MP_STATUS.CMD_ERR : RegField := ⟨0xD4, 7, 1, .w1c, .L, 0x0⟩
def R.MP_STATUS.CMD_BUSY : RegField := ⟨0xD4, 8, 1, .ro, .L, 0x0⟩
def R.MP_STATUS.FILLS_S0 : RegField := ⟨0xD4, 9, 3, .ro, .L, 0x0⟩

/-! 0xD5 MP_CMD (R612). -/
def R.MP_CMD.OP : RegField := ⟨0xD5, 0, 8, .wo, .L, 0x0⟩
def R.MP_CMD.SEL : RegField := ⟨0xD5, 8, 1, .wo, .L, 0x0⟩

/-! 0xD6 MP_CMD_ADDR (R612). -/
def R.MP_CMD_ADDR.ADDR : RegField := ⟨0xD6, 0, 32, .rw, .L, 0x0⟩

/-! 0xD7 MP_CMD_DATA (R612). -/
def R.MP_CMD_DATA.DATA : RegField := ⟨0xD7, 0, 32, .ro, .L, 0x0⟩

/-! 0xD8 MP_SW (R612). -/
def R.MP_SW.S2 : RegField := ⟨0xD8, 0, 1, .rw, .L, 0x1⟩
def R.MP_SW.S3 : RegField := ⟨0xD8, 1, 1, .rw, .L, 0x1⟩
def R.MP_SW.LEN : RegField := ⟨0xD8, 2, 2, .rw, .L, 0x0⟩
def R.MP_SW.BUSY : RegField := ⟨0xD8, 4, 1, .ro, .L, 0x0⟩

/-! 0xD9 MP_SW_TX (R612). -/
def R.MP_SW_TX.TX : RegField := ⟨0xD9, 0, 32, .wo, .L, 0x0⟩

/-! 0xDA MP_SW_RX (R612). -/
def R.MP_SW_RX.RX : RegField := ⟨0xDA, 0, 32, .ro, .L, 0x0⟩

/-! 0xDB MP_SFDP (R612). -/
def R.MP_SFDP.PRESENT : RegField := ⟨0xDB, 0, 1, .ro, .L, 0x0⟩
def R.MP_SFDP.AB : RegField := ⟨0xDB, 1, 2, .ro, .L, 0x0⟩
def R.MP_SFDP.JEDEC_ID : RegField := ⟨0xDB, 8, 24, .ro, .L, 0x0⟩

/-! 0xDC MP_ERRADDR (R612). -/
def R.MP_ERRADDR.ADDR : RegField := ⟨0xDC, 0, 32, .ro, .L, 0x0⟩

/-! 0xE0 NV_STATUS (R650). -/
def R.NV_STATUS.BUSY : RegField := ⟨0xE0, 0, 1, .ro, .L, 0x0⟩
def R.NV_STATUS.OP : RegField := ⟨0xE0, 1, 3, .ro, .L, 0x0⟩
def R.NV_STATUS.UNCORR : RegField := ⟨0xE0, 4, 1, .w1c, .L, 0x0⟩
def R.NV_STATUS.PROTECTED : RegField := ⟨0xE0, 5, 1, .w1c, .L, 0x0⟩
def R.NV_STATUS.BASE_WRITTEN : RegField := ⟨0xE0, 6, 1, .ro, .L, 0x0⟩

/-! 0xE1 NV_CTL (R650). -/
def R.NV_CTL.MODE : RegField := ⟨0xE1, 0, 1, .rw, .L, 0x0⟩
def R.NV_CTL.BP : RegField := ⟨0xE1, 1, 2, .rw, .L, 0x0⟩

/-! 0xE2 NV_OP (R650). -/
def R.NV_OP.OP : RegField := ⟨0xE2, 0, 3, .wo, .L, 0x0⟩

/-! 0xE3 NV_ADDR (R650). -/
def R.NV_ADDR.ADDR : RegField := ⟨0xE3, 0, 18, .rw, .L, 0x0⟩

/-! 0xE4 NV_LEN (R650). -/
def R.NV_LEN.PAGES : RegField := ⟨0xE4, 0, 7, .rw, .L, 0x0⟩
def R.NV_LEN.LEN : RegField := ⟨0xE4, 8, 12, .rw, .L, 0x0⟩
def R.NV_LEN.SLOTS : RegField := ⟨0xE4, 20, 9, .rw, .L, 0x0⟩

/-! 0xE5 NV_SRC (R650). -/
def R.NV_SRC.SRC : RegField := ⟨0xE5, 0, 19, .rw, .L, 0x0⟩

/-! 0xE6 NV_DATA (R650). -/
def R.NV_DATA.VALUE : RegField := ⟨0xE6, 0, 32, .rw, .L, 0x0⟩

/-! 0xE7 NV_RESULT_SEQ (R650). -/
def R.NV_RESULT_SEQ.SEQ : RegField := ⟨0xE7, 0, 32, .ro, .L, 0x0⟩

/-! 0xE8 NV_OUTCOME (R650). -/
def R.NV_OUTCOME.OUTCOME : RegField := ⟨0xE8, 0, 3, .ro, .L, 0x0⟩
def R.NV_OUTCOME.COPY : RegField := ⟨0xE8, 3, 1, .ro, .L, 0x0⟩
def R.NV_OUTCOME.SLOT : RegField := ⟨0xE8, 8, 8, .ro, .L, 0x0⟩

/-! 0xE9 NV_ECC (R650). -/
def R.NV_ECC.CORR : RegField := ⟨0xE9, 0, 20, .rc, .L, 0x0⟩
def R.NV_ECC.UNCORR : RegField := ⟨0xE9, 20, 12, .rc, .L, 0x0⟩

/-! 0xEA NV_ERRADDR (R650). -/
def R.NV_ERRADDR.ADDR : RegField := ⟨0xEA, 0, 18, .ro, .L, 0x0⟩

/-! 0xEB NV_COUNT (R650). -/
def R.NV_COUNT.WRITES : RegField := ⟨0xEB, 0, 32, .rc, .L, 0x0⟩

/-! 0xEC NV_LOG (R650). -/
def R.NV_LOG.HELD : RegField := ⟨0xEC, 0, 10, .ro, .L, 0x0⟩
def R.NV_LOG.UNSAVED : RegField := ⟨0xEC, 16, 10, .ro, .L, 0x0⟩

/-! 0xED NV_SAVE (R650). -/
def R.NV_SAVE.SEG_SEQ : RegField := ⟨0xED, 0, 32, .ro, .L, 0x0⟩

/-! 0xF0 VO_CTL (R700). -/
def R.VO_CTL.EN : RegField := ⟨0xF0, 0, 1, .rw, .S, 0x0⟩
def R.VO_CTL.VC0_EN : RegField := ⟨0xF0, 1, 1, .rw, .S, 0x1⟩
def R.VO_CTL.VC1_EN : RegField := ⟨0xF0, 2, 1, .rw, .S, 0x0⟩
def R.VO_CTL.VC2_EN : RegField := ⟨0xF0, 3, 1, .rw, .S, 0x1⟩
def R.VO_CTL.VC0_DT : RegField := ⟨0xF0, 4, 1, .rw, .S, 0x0⟩
def R.VO_CTL.LINE_SYNC : RegField := ⟨0xF0, 5, 1, .rw, .S, 0x0⟩
def R.VO_CTL.SN_IMAGE : RegField := ⟨0xF0, 6, 1, .rw, .S, 0x0⟩
def R.VO_CTL.CONT_CLK : RegField := ⟨0xF0, 7, 1, .rw, .X, 0x1⟩
def R.VO_CTL.ZONE_LINES : RegField := ⟨0xF0, 8, 5, .rw, .S, 0x10⟩

/-! 0xF1 VO_LANES (R700). -/
def R.VO_LANES.LANES : RegField := ⟨0xF1, 0, 2, .rw, .U, 0x3⟩
def R.VO_LANES.RATE : RegField := ⟨0xF1, 8, 8, .rw, .U, 0x64⟩
def R.VO_LANES.DESKEW_EN : RegField := ⟨0xF1, 16, 1, .rw, .X, 0x1⟩
def R.VO_LANES.DESKEW_FR : RegField := ⟨0xF1, 24, 8, .rw, .X, 0x0⟩

/-! 0xF2 VO_DPHY (R700). -/
def R.VO_DPHY.TLPX : RegField := ⟨0xF2, 0, 8, .rw, .X, 0x32⟩
def R.VO_DPHY.THS_PREPARE : RegField := ⟨0xF2, 8, 8, .rw, .X, 0x3C⟩
def R.VO_DPHY.THS_ZERO : RegField := ⟨0xF2, 16, 8, .rw, .X, 0x70⟩
def R.VO_DPHY.THS_TRAIL : RegField := ⟨0xF2, 24, 8, .rw, .X, 0x46⟩

/-! 0xF3 VO_DPHY2 (R700). -/
def R.VO_DPHY2.THS_EXIT : RegField := ⟨0xF3, 0, 8, .rw, .X, 0x64⟩
def R.VO_DPHY2.TCLK_PREPARE : RegField := ⟨0xF3, 8, 8, .rw, .X, 0x3C⟩
def R.VO_DPHY2.TCLK_ZERO : RegField := ⟨0xF3, 16, 8, .rw, .X, 0x4B⟩
def R.VO_DPHY2.TCLK_TRAIL : RegField := ⟨0xF3, 24, 8, .rw, .X, 0x46⟩

/-! 0xF4 VO_STATUS (R700). -/
def R.VO_STATUS.RUNNING : RegField := ⟨0xF4, 0, 1, .ro, .L, 0x0⟩
def R.VO_STATUS.STREAMING : RegField := ⟨0xF4, 1, 1, .ro, .L, 0x0⟩
def R.VO_STATUS.TRUNC : RegField := ⟨0xF4, 2, 1, .w1c, .L, 0x0⟩
def R.VO_STATUS.OVER_ROW : RegField := ⟨0xF4, 3, 1, .ro, .L, 0x0⟩
def R.VO_STATUS.OVER_FRAME : RegField := ⟨0xF4, 4, 1, .ro, .L, 0x0⟩
def R.VO_STATUS.PHY_LOST : RegField := ⟨0xF4, 5, 1, .ro, .L, 0x0⟩
def R.VO_STATUS.BUF_PEAK : RegField := ⟨0xF4, 16, 10, .rc, .L, 0x0⟩

/-! 0xF5 VO_BUDGET (R700). -/
def R.VO_BUDGET.T_ROW : RegField := ⟨0xF5, 0, 16, .ro, .L, 0x0⟩
def R.VO_BUDGET.T_FRAME : RegField := ⟨0xF5, 16, 16, .ro, .L, 0x0⟩

/-! 0xF6 VO_LAST_FRAME (R700). -/
def R.VO_LAST_FRAME.FRAME : RegField := ⟨0xF6, 0, 32, .ro, .L, 0x0⟩

/-! 0xF7 VO_COUNT (R700). -/
def R.VO_COUNT.TRUNCATED : RegField := ⟨0xF7, 0, 16, .rc, .L, 0x0⟩
def R.VO_COUNT.DROPPED : RegField := ⟨0xF7, 16, 16, .rc, .L, 0x0⟩

/-- The fields of the registers 0x00 to 0x0F. -/
def R.block0 : List RegField :=
  [R.SYS_ID.PART, R.SYS_ID.DIE_REV, R.SYS_ID.ARRAY_REV, R.SYS_FW.ROM_VER, R.SYS_FW.PATCH_VER, R.SYS_SERIAL_LO.SERIAL] ++
  [R.SYS_SERIAL_HI.SERIAL, R.SYS_STATUS.TXN_OWNER, R.SYS_STATUS.TXN_OPEN, R.SYS_STATUS.RUNNING, R.SYS_STATUS.MB_LOCKED, R.SYS_STATUS.ROUTINE] ++
  [R.SYS_CTL.RESET_KEY, R.SYS_SCRATCH.SCRATCH, R.SYS_PORT.REJECTED, R.SYS_PORT.NOT_ACCEPTED, R.SYS_PORT.LAST_RESULT, R.SYS_PORT.MODE3] ++
  [R.SYS_PORT.MID, R.WIN_ADDR.ADDR, R.WIN_CTL.INC, R.WIN_DATA.DATA, R.WIN_STATUS.RA_READY, R.WIN_STATUS.RA_FILLING] ++
  [R.WIN_STATUS.RA_MISS, R.WIN_STATUS.FAULT, R.WIN_STATUS.RA_LINE, R.WIN_FAULT_ADDR.ADDR]

/-- The fields of the registers 0x10 to 0x1F. -/
def R.block1 : List RegField :=
  [R.PW_STATUS.PHASE, R.PW_STATUS.DUSK_STEP, R.PW_STATUS.WARM, R.PW_STATUS.SLEEP_ABORT, R.PW_STATUS.DAWN_FAIL, R.PW_STATUS.DAWN_FAIL_CODE] ++
  [R.PW_STATUS.LAST_SLEEP, R.PW_CTL.DUSK_KEY, R.PW_CTL.DAWN_RETRY, R.PW_CTL.DUSK_SHUTTER, R.PW_CTL.DAWN_MIDNIGHT, R.PW_CTL.PERSIST_FLUSH] ++
  [R.PW_WAKE_EN.WAKE_PIN, R.PW_WAKE_EN.HPA_CS, R.PW_WAKE_EN.HPB_CS, R.PW_WAKE_EN.BEACON, R.PW_WAKE_EN.ENCODER, R.PW_WAKE_EN.AON_TIMER] ++
  [R.PW_WAKE_EN.ENC_COUNT, R.PW_WAKE_SRC.SRC, R.PW_AON_TIMER.PERIOD, R.PW_RAIL.VALID, R.PW_RAIL.UV_SEEN, R.PW_RESET_CAUSE.CAUSE] ++
  [R.PW_DAWN_TIME.TOTAL_MS, R.PW_DAWN_TIME.SETTLE_MS, R.TH_CTL.MODE, R.TH_CTL.DIV_SEL, R.TH_CTL.SKIP_M, R.TH_LIMITS.WARN] ++
  [R.TH_LIMITS.THROTTLE, R.TH_LIMITS.SHUTDOWN, R.TH_HYST.WARN_HYST, R.TH_HYST.THR_HYST, R.TH_HYST.SD_HYST, R.TH_HYST.NEAR_BAND] ++
  [R.TH_FALLBACK.PERIOD, R.TH_FALLBACK.GRACE, R.TH_STATUS.TJ_MAX, R.TH_STATUS.SITE_MAX, R.TH_STATUS.WARN, R.TH_STATUS.THROTTLE] ++
  [R.TH_STATUS.REQUESTED, R.TH_STATUS.ENFORCING, R.TH_STATUS.FAST, R.TH_STATUS.DEGRADED, R.TH_STATUS.SITES_VALID, R.TH_STATUS.SD_MARK] ++
  [R.TH_SITE.SEL, R.TH_SITE.TEMP, R.TH_SITE.VALID, R.TH_POWER.I_CODE, R.TH_POWER.P_CORE, R.TH_MODEL.PRED_0] ++
  [R.TH_MODEL.PRED_H]

/-- The fields of the registers 0x20 to 0x2F. -/
def R.block2 : List RegField :=
  [R.TB_CTL.TICK_SRC, R.TB_PERIOD.PERIOD, R.TB_ROW0.ROW0_DELAY, R.TB_STATUS.SRC, R.TB_STATUS.RUNNING, R.TB_STATUS.LATE_PUB] ++
  [R.TB_STATUS.REF_LOST, R.TB_STATUS.PLL_LOCK, R.TB_STATUS.SHED, R.TB_FRAME.FRAME, R.TB_BUDGET.BUDGET, R.TB_BUDGET.ADMITTED] ++
  [R.TB_PT_LO.PT_LO, R.TB_PT_HI.PT_HI, R.TB_WP_CNT.CNT, R.TB_WP_SUB.SUB, R.TB_ENC_CTL.EN, R.TB_ENC_CTL.DIR_INV] ++
  [R.TB_ENC_CTL.INTERP, R.TB_ENC_CTL.Z_MODE, R.TB_ENC_CTL.FILT, R.TB_ENC_N.N, R.TB_ENC_LIM.MIN_PERIOD, R.TB_ENC_LIM.MAX_PERIOD] ++
  [R.TB_ENC_VEL.VEL, R.TB_SYNC_CTL.UNIT_ID, R.TB_SYNC_CTL.MASTER_CAP, R.TB_SYNC_CTL.MASTER_SRC, R.TB_SYNC_CTL.LOSS_N, R.TB_SYNC_STATUS.ROLE] ++
  [R.TB_SYNC_STATUS.LOCK, R.TB_SYNC_STATUS.HOLDOVER, R.TB_SYNC_STATUS.PERIOD_MISMATCH, R.TB_SYNC_STATUS.COLLISION, R.TB_SYNC_STATUS.MASTER_ID, R.TB_SYNC_STATUS.DELAY]

/-- The fields of the registers 0x30 to 0x3F. -/
def R.block3 : List RegField :=
  [R.FP_CTL.SHLX, R.FP_CTL.SHLY, R.FP_STATUS.READING, R.FP_STATUS.BIAS_ON, R.FP_STATUS.BIAS_CLIP, R.FP_STATUS.WIN_CLIP] ++
  [R.FP_STATUS.TFPA_FAULT, R.FP_STATUS.COL_FAULT, R.FP_STATUS.BIAS_FAULT, R.FP_STATUS.BIAS_OFF_CAL, R.FP_ROWCFG.ROW_TIME, R.FP_ROWPHASE.BIAS_START] ++
  [R.FP_ROWPHASE.BIAS_WIDTH, R.FP_ROWPHASE.FACTORY_WIDTH, R.FP_WIN.Y0_8, R.FP_WIN.H_8, R.FP_BIAS.LEVEL, R.FP_BIAS.FACTORY_LEVEL] ++
  [R.FP_SKIM.RANGE, R.FP_SKIM.EN, R.FP_SKIM.BLIND_CODE, R.FP_TFPA.TFPA, R.FP_TFPA.RAW, R.FP_ROWS.N] ++
  [R.FP_ROWS.READ_US, R.FP_COLFAULT.COUNT, R.FP_COLFAULT.FIRST]

/-- The fields of the registers 0x40 to 0x4F. -/
def R.block4 : List RegField :=
  [R.CP_CTL.BLIND_ROW_EN, R.CP_CTL.BLIND_COL_EN, R.CP_CTL.OFFSET_EN, R.CP_CTL.GAIN_EN, R.CP_CTL.DRIFT_EN, R.CP_CTL.DECONV_EN] ++
  [R.CP_CTL.REPLACE_EN, R.CP_CTL.RADIO_EN, R.CP_CTL.COL_K, R.CP_STATUS.RUNNING, R.CP_STATUS.SHADOW, R.CP_STATUS.BRACKET] ++
  [R.CP_STATUS.GAIN_BANK, R.CP_STATUS.OFFSET_BANK, R.CP_STATUS.OUT_OF_BRACKET, R.CP_STATUS.DRIFT_CLAMP, R.CP_STATUS.ECC_UNCORR, R.CP_STATUS.BLIND_SHORT] ++
  [R.CP_DRIFT.DT_USED, R.CP_DRIFT.DT_MAX, R.CP_DECONV.A_MAX, R.CP_DECONV.REF_PERIOD_US, R.CP_DCLAMP.DCLAMP, R.CP_SHUT_REF.SHUT_REF] ++
  [R.CP_ECC.CORR, R.CP_ECC.UNCORR, R.CP_FRAMESTAT.REPLACED, R.CP_FRAMESTAT.NOVALUE, R.CP_BRK_CTL.AUTO_EN, R.CP_BRK_CTL.BAND] ++
  [R.CP_BRK_CTL.CANCEL_HYST, R.CP_BRK_CTL.SWAP_HYST, R.CP_BRK_STATUS.CONTENT, R.CP_BRK_STATUS.COPYBACK, R.CP_BRK_STATUS.FORCED, R.CP_BRK_STATUS.TARGET] ++
  [R.CP_BRK_STATUS.LATE, R.CP_BRK_STATUS.LOAD_FAIL, R.CP_BRK_STATUS.REC_VALID, R.CP_BRK_STATUS.PROGRESS, R.CP_BRK_RANGE.T_LO, R.CP_BRK_RANGE.T_HI] ++
  [R.CP_BRK_COUNT.LOADS, R.CP_BRK_COUNT.CANCELS, R.CP_SHT_CTL.CLOSE_MS, R.CP_SHT_CTL.OPEN_MS, R.CP_SHT_CTL.SHPOS_EN, R.CP_SHT_CTL.SHPOS_POL] ++
  [R.CP_SHT_CTL.DIR_INV, R.CP_SHT_STATUS.POS, R.CP_SHT_STATUS.SHT_FAULT, R.CP_SHT_STATUS.OVERCURRENT, R.CP_SHT_STATUS.POS_ERR, R.CP_SHT_STATUS.ON_2S] ++
  [R.CP_MN_CTL.TIMER_MIN, R.CP_MN_CTL.SETTLE, R.CP_MN_CTL.N_ACC, R.CP_MN_CTL.DRIFT_TRIG_EN, R.CP_MN_CTL.RESID, R.CP_MN_CTL.DRIFT_BOUND] ++
  [R.CP_MN_STATUS.STEP, R.CP_MN_STATUS.LAST_RESULT, R.CP_MN_STATUS.SAFETY_NET, R.CP_MN_STATUS.TRIGGER, R.CP_MN_STATUS.MIN_SINCE, R.CP_MN_STATUS.LAST_RESID]

/-- The fields of the registers 0x50 to 0x5F. -/
def R.block5 : List RegField :=
  [R.ZN_CTL.BIND_EN, R.ZN_CTL.EVENT_EN, R.ZN_STATUS.RUNNING, R.ZN_STATUS.SAFETY_NET, R.ZN_STATUS.SHED_LAST, R.ZN_PUB_FRAME.FRAME] ++
  [R.ZN_SHED.COUNT, R.ZN_SHED.FIRST, R.ZN_COUNT.ENABLED, R.ZN_COUNT.ADMITTED, R.ZN_OVERRUN_CNT.FRAMES, R.ZN_LOOP_EN.EN] ++
  [R.ZN_LOOP_STATUS.HOLDING, R.ZN_LOOP_STATUS.SATURATED, R.ZN_LOOP_STATUS.FROZEN]

/-- The fields of the registers 0x60 to 0x6F. -/
def R.block6 : List RegField :=
  [R.AS_CTL.DRAIN_EN, R.AS_CTL.LATE_GRACE, R.AS_CTL.VEL_MIN, R.AS_STATUS.ADMITTING, R.AS_STATUS.FULL, R.AS_STATUS.HELD] ++
  [R.AS_STATUS.DROPPED, R.AS_STATUS.EVICTED, R.AS_STATUS.ECC, R.AS_COUNT.ARMED, R.AS_COUNT.PEAK, R.AS_DROP_CNT.DROPPED] ++
  [R.AS_DROP_CNT.EVICTED, R.AS_CANCEL_CNT.CANCELS, R.AS_CANCEL_CNT.LEADIN_CANCELS, R.AS_DRAIN.MASK]

/-- The fields of the registers 0x70 to 0x7F. -/
def R.block7 : List RegField :=
  [R.VD_CTL.BANK_EN, R.VD_CTL.MODE, R.VD_CTL.PAIR, R.VD_CTL.BST_EN, R.VD_BST_CTL.SETPOINT, R.VD_BST_CTL.ILIM] ++
  [R.VD_BST_CTL.FREQ, R.VD_BST_CTL.HYST, R.VD_BST_STATUS.VBOOST, R.VD_BST_STATUS.VBAT, R.VD_BST_STATUS.RUNNING, R.VD_BST_STATUS.OV_STOP] ++
  [R.VD_BST_STATUS.SOFTSTART, R.VD_BST_STATUS.UV_ARMED, R.VD_BANK_WAIT.WAIT_A, R.VD_BANK_WAIT.WAIT_B, R.VD_BANK_WAIT.WAIT_C, R.VD_BANK_WAIT.WAIT_D] ++
  [R.VD_STATUS.BUSY, R.VD_STATUS.WAITING, R.VD_STATUS.OWNER, R.VD_STATUS.FALLBACK, R.VD_PHASE_LO.PHASE_0, R.VD_PHASE_LO.PHASE_1] ++
  [R.VD_PHASE_LO.PHASE_2, R.VD_PHASE_LO.PHASE_3, R.VD_PHASE_LO.PHASE_4, R.VD_PHASE_LO.PHASE_5, R.VD_PHASE_LO.PHASE_6, R.VD_PHASE_LO.PHASE_7] ++
  [R.VD_PHASE_HI.PHASE_0, R.VD_PHASE_HI.PHASE_1, R.VD_PHASE_HI.PHASE_2, R.VD_PHASE_HI.PHASE_3, R.VD_PHASE_HI.PHASE_4, R.VD_PHASE_HI.PHASE_5] ++
  [R.VD_PHASE_HI.PHASE_6, R.VD_PHASE_HI.PHASE_7, R.VD_FAULT.CH, R.VD_FAULT.BOOTSTRAP_UV, R.VD_FAULT.BOOST_UV, R.VD_TRIP.THERMAL] ++
  [R.VD_TRIP.ONTIME_SEEN, R.VD_COUNT.REFUSED, R.VD_COUNT.EXTENDED]

/-- The fields of the registers 0x80 to 0x8F. -/
def R.block8 : List RegField :=
  [R.LD_CTL.CH_EN, R.LD_PWM.PERIOD, R.LD_BUDGET.I_MAX, R.LD_BUDGET.I_TRIP, R.LD_SUPPLY.UV_PAUSE, R.LD_SUPPLY.VLMP] ++
  [R.LD_STATUS.INRUSH, R.LD_STATUS.PAUSED, R.LD_STATUS.SHORT_LE_LIM, R.LD_STATUS.RUNNING, R.LD_STATUS.LIMITED, R.LD_FAULT.CH] ++
  [R.LD_FAULT.GROUP_OC, R.LD_FACTOR.F, R.LD_TOTAL.RSHUNT_T, R.LD_TOTAL.ITOTAL]

/-- The fields of the registers 0x90 to 0x9F. -/
def R.block9 : List RegField :=
  [R.CFG_TXN.OP, R.CFG_TXN.FORCE, R.CFG_COMMIT_TICK.TICK, R.CFG_TIMEOUT.MS, R.CFG_STATUS.OPEN, R.CFG_STATUS.OWNER] ++
  [R.CFG_STATUS.PENDING, R.CFG_STATUS.DOOMED, R.CFG_STATUS.LATE, R.CFG_STATUS.OVER_FULL, R.CFG_STATUS.OVER_DIV2, R.CFG_STATUS.OVER_DIV4] ++
  [R.CFG_STATUS.LAST_OUTCOME, R.CFG_JOURNAL.USED, R.CFG_JOURNAL.ENTRIES, R.CFG_LAST_TICK.TICK, R.CFG_BUDGET.ESTIMATE, R.CFG_BUDGET.B_FULL] ++
  [R.CFG_OVERLAY.ACTIVE, R.CFG_OVERLAY.ARMED, R.CFG_OVERLAY.STATE, R.CFG_OVERLAY.LAST_FAIL, R.CFG_COUNT.COMMITS, R.CFG_COUNT.ROLLBACKS]

/-- The fields of the registers 0xA0 to 0xAF. -/
def R.blockA : List RegField :=
  [R.RG_SEL.RING, R.RG_BASE.BASE, R.RG_CFG.EN, R.RG_CFG.ROLE, R.RG_CFG.ESIZE, R.RG_CFG.DEPTH_LOG2] ++
  [R.RG_CFG.OWNER, R.RG_CFG.DB_BIT, R.RG_CFG.POLICY, R.RG_CFG.PERSIST, R.RG_HEAD.INDEX, R.RG_TAIL.INDEX] ++
  [R.RG_STATUS.COUNT, R.RG_STATUS.FULL, R.RG_STATUS.LOST_PENDING, R.RG_STATUS.DROPPED, R.RG_STATUS.CFG_ERR, R.RG_SEQ.SEQ] ++
  [R.RG_LOST.LOST, R.RG_ENABLED.MAP, R.RG_NONEMPTY.MAP]

/-- The fields of the registers 0xB0 to 0xBF. -/
def R.blockB : List RegField :=
  [R.MB_BOOTH_LO.MID_A_0, R.MB_BOOTH_LO.MID_A_1, R.MB_BOOTH_LO.MID_A_2, R.MB_BOOTH_LO.MID_A_3, R.MB_BOOTH_LO.MID_B_0, R.MB_BOOTH_LO.MID_B_1] ++
  [R.MB_BOOTH_LO.MID_B_2, R.MB_BOOTH_LO.MID_B_3, R.MB_BOOTH_LO.EN_0, R.MB_BOOTH_LO.EN_1, R.MB_BOOTH_LO.EN_2, R.MB_BOOTH_LO.EN_3] ++
  [R.MB_BOOTH_HI.MID_A_0, R.MB_BOOTH_HI.MID_A_1, R.MB_BOOTH_HI.MID_A_2, R.MB_BOOTH_HI.MID_A_3, R.MB_BOOTH_HI.MID_B_0, R.MB_BOOTH_HI.MID_B_1] ++
  [R.MB_BOOTH_HI.MID_B_2, R.MB_BOOTH_HI.MID_B_3, R.MB_BOOTH_HI.EN_0, R.MB_BOOTH_HI.EN_1, R.MB_BOOTH_HI.EN_2, R.MB_BOOTH_HI.EN_3] ++
  [R.MB_CTL.BEGIN, R.MB_CTL.LOCK, R.MB_CTL.EDIT, R.MB_CTL.LOCKED, R.MB_CTL.EDITOR, R.MB_CH.CH] ++
  [R.MB_TX.WORD, R.MB_RX.WORD, R.MB_QSTAT.RX_WORDS, R.MB_QSTAT.TX_SPACE, R.MB_QSTAT.FULL, R.MB_QSTAT.ABORTED] ++
  [R.MB_QSTAT.DISCARDED, R.MB_QSTAT.BOUND, R.MB_QSTAT.ERR, R.MB_QSTAT.OTHER, R.MB_DB.DB, R.MB_DB_MASK.MASK] ++
  [R.MB_DB_SEQ.DB, R.MB_DB_RING.BIT, R.MB_DB_RING.TARGET, R.MB_PORT_RESET.KEY, R.MB_PENDING.RX, R.MB_PENDING.SPACE]

/-- The fields of the registers 0xC0 to 0xCF. -/
def R.blockC : List RegField :=
  [R.IC_CTL.IRQA_EN, R.IC_CTL.IRQB_EN, R.IC_SEL.SRC, R.IC_CFG.PRIO, R.IC_CFG.TARGET, R.IC_CFG.PENDING] ++
  [R.IC_PEND.PEND, R.IC_ACK_A.SRC, R.IC_ACK_A.PRIO, R.IC_EOI_A.EOI, R.IC_ACK_B.SRC, R.IC_ACK_B.PRIO] ++
  [R.IC_EOI_B.EOI, R.IC_RUN_A.RUNNING, R.IC_RUN_A.DEPTH, R.IC_RUN_A.NEXT, R.IC_RUN_B.RUNNING, R.IC_RUN_B.DEPTH] ++
  [R.IC_RUN_B.NEXT, R.IC_RUN_SEQ.RUNNING, R.IC_RUN_SEQ.DEPTH, R.IC_RUN_SEQ.NEXT, R.IC_STAT.COALESCED, R.IC_STAT.EOI_EMPTY] ++
  [R.IC_STAT.SEQ_DISCARD, R.IC_ROUTINE.ROUTINE, R.IC_ROUTINE.STEP, R.IC_ROUTINE.ABORT_PENDING, R.IC_ROUTINE.LAST_ROUTINE, R.IC_ROUTINE.LAST_END]

/-- The fields of the registers 0xD0 to 0xDF. -/
def R.blockD : List RegField :=
  [R.MP_CTL.DIV, R.MP_CTL.MODE3, R.MP_CTL.RX_DLY, R.MP_CTL.S0_WRITE, R.MP_SEL0.TPRE, R.MP_SEL0.TPOST] ++
  [R.MP_SEL0.TGAP, R.MP_SEL0.ADDR4, R.MP_SEL0.READ_CMD, R.MP_SEL1.TPRE, R.MP_SEL1.TPOST, R.MP_SEL1.TGAP] ++
  [R.MP_SEL1.ADDR4, R.MP_SEL1.READ_CMD, R.MP_TMO.PROG_MS, R.MP_TMO.ERASE_MS, R.MP_TMO.POLL, R.MP_TMO.FILL_MS] ++
  [R.MP_STATUS.WIRE, R.MP_STATUS.WBUSY, R.MP_STATUS.WAITING, R.MP_STATUS.ERASING, R.MP_STATUS.STUCK, R.MP_STATUS.WR_REFUSED] ++
  [R.MP_STATUS.CMD_ERR, R.MP_STATUS.CMD_BUSY, R.MP_STATUS.FILLS_S0, R.MP_CMD.OP, R.MP_CMD.SEL, R.MP_CMD_ADDR.ADDR] ++
  [R.MP_CMD_DATA.DATA, R.MP_SW.S2, R.MP_SW.S3, R.MP_SW.LEN, R.MP_SW.BUSY, R.MP_SW_TX.TX] ++
  [R.MP_SW_RX.RX, R.MP_SFDP.PRESENT, R.MP_SFDP.AB, R.MP_SFDP.JEDEC_ID, R.MP_ERRADDR.ADDR]

/-- The fields of the registers 0xE0 to 0xEF. -/
def R.blockE : List RegField :=
  [R.NV_STATUS.BUSY, R.NV_STATUS.OP, R.NV_STATUS.UNCORR, R.NV_STATUS.PROTECTED, R.NV_STATUS.BASE_WRITTEN, R.NV_CTL.MODE] ++
  [R.NV_CTL.BP, R.NV_OP.OP, R.NV_ADDR.ADDR, R.NV_LEN.PAGES, R.NV_LEN.LEN, R.NV_LEN.SLOTS] ++
  [R.NV_SRC.SRC, R.NV_DATA.VALUE, R.NV_RESULT_SEQ.SEQ, R.NV_OUTCOME.OUTCOME, R.NV_OUTCOME.COPY, R.NV_OUTCOME.SLOT] ++
  [R.NV_ECC.CORR, R.NV_ECC.UNCORR, R.NV_ERRADDR.ADDR, R.NV_COUNT.WRITES, R.NV_LOG.HELD, R.NV_LOG.UNSAVED] ++
  [R.NV_SAVE.SEG_SEQ]

/-- The fields of the registers 0xF0 to 0xFF. -/
def R.blockF : List RegField :=
  [R.VO_CTL.EN, R.VO_CTL.VC0_EN, R.VO_CTL.VC1_EN, R.VO_CTL.VC2_EN, R.VO_CTL.VC0_DT, R.VO_CTL.LINE_SYNC] ++
  [R.VO_CTL.SN_IMAGE, R.VO_CTL.CONT_CLK, R.VO_CTL.ZONE_LINES, R.VO_LANES.LANES, R.VO_LANES.RATE, R.VO_LANES.DESKEW_EN] ++
  [R.VO_LANES.DESKEW_FR, R.VO_DPHY.TLPX, R.VO_DPHY.THS_PREPARE, R.VO_DPHY.THS_ZERO, R.VO_DPHY.THS_TRAIL, R.VO_DPHY2.THS_EXIT] ++
  [R.VO_DPHY2.TCLK_PREPARE, R.VO_DPHY2.TCLK_ZERO, R.VO_DPHY2.TCLK_TRAIL, R.VO_STATUS.RUNNING, R.VO_STATUS.STREAMING, R.VO_STATUS.TRUNC] ++
  [R.VO_STATUS.OVER_ROW, R.VO_STATUS.OVER_FRAME, R.VO_STATUS.PHY_LOST, R.VO_STATUS.BUF_PEAK, R.VO_BUDGET.T_ROW, R.VO_BUDGET.T_FRAME] ++
  [R.VO_LAST_FRAME.FRAME, R.VO_COUNT.TRUNCATED, R.VO_COUNT.DROPPED]

/-- The fields of the registers whose index starts with a hexadecimal digit. -/
def R.block (hi : Nat) : List RegField :=
  match hi with
  | 0 => R.block0
  | 1 => R.block1
  | 2 => R.block2
  | 3 => R.block3
  | 4 => R.block4
  | 5 => R.block5
  | 6 => R.block6
  | 7 => R.block7
  | 8 => R.block8
  | 9 => R.block9
  | 10 => R.blockA
  | 11 => R.blockB
  | 12 => R.blockC
  | 13 => R.blockD
  | 14 => R.blockE
  | 15 => R.blockF
  | _ => []

/-- The non-reserved fields of register `idx`; none for an index that is not assigned (R747). -/
def fieldsOf (idx : Nat) : List RegField := (R.block (idx / 16)).filter (fun f => f.idx == idx)

/-- Whether a register is assigned to an index (R746). -/
def assigned (idx : Nat) : Bool := !(fieldsOf idx).isEmpty

/-- The word register `idx` holds at reset release, put together from its fields (R20, R746). -/
def resetWord (idx : Nat) : Word := (fieldsOf idx).foldl (fun w f => f.put w f.reset) 0#32

/-- The register names of R746, held once per host port (R748). -/
def perPort (idx : Nat) : Bool :=
  [0x07, 0x08, 0x09, 0x0A, 0x0B, 0x0C, 0x1D, 0xA0, 0xB3, 0xB4, 0xB5, 0xB6, 0xB7, 0xB8, 0xBB, 0xBC, 0xC1].contains idx

/-- The word of each of the 256 direct registers at reset release (R20, R746): `resetWord`, written out. -/
def resetWords : List Nat :=
  [0x14410, 0x0, 0x0, 0x0, 0x0, 0x0, 0x0, 0x0, 0x0, 0x4, 0x0, 0x0, 0x0, 0x0, 0x0, 0x0] ++
  [0x0, 0x800, 0x100, 0x0, 0x8000, 0x0, 0x1, 0x0, 0x82, 0x78695F, 0x5A55, 0x140F4240, 0x0, 0x0, 0x0, 0x0] ++
  [0x0, 0x7A120, 0x96, 0x0, 0x0, 0x0, 0x0, 0x0, 0x0, 0x0, 0x44, 0xFA, 0xFA001F4, 0x0, 0x300, 0x0] ++
  [0x0, 0x0, 0x12C, 0x3C05, 0x0, 0x80, 0x0, 0x0, 0x1248030C, 0x0, 0x0, 0x0, 0x0, 0x0, 0x0, 0x0] ++
  [0x3FF, 0x0, 0x800000, 0xE6, 0x800, 0x0, 0x0, 0x0, 0x1004081, 0x0, 0x0, 0x0, 0x1414, 0x0, 0x4074F214, 0x0] ++
  [0x3, 0x0, 0x0, 0x0, 0x0, 0x0, 0x0, 0x0, 0x0, 0x0, 0x0, 0x0, 0x0, 0x0, 0x0, 0x0] ++
  [0x640001, 0x0, 0x0, 0x0, 0x0, 0xC, 0x0, 0x0, 0x0, 0x0, 0x0, 0x0, 0x0, 0x0, 0x0, 0x0] ++
  [0x0, 0x24641E0, 0x0, 0x19191919, 0x0, 0x0, 0x0, 0x0, 0x0, 0x0, 0x0, 0x0, 0x0, 0x0, 0x0, 0x0] ++
  [0x0, 0x30D40, 0xFFFF, 0xC8, 0x0, 0x0, 0x10000, 0x64, 0x0, 0x0, 0x0, 0x0, 0x0, 0x0, 0x0, 0x0] ++
  [0x0, 0x0, 0x0, 0x0, 0x0, 0x0, 0x0, 0x7F7F, 0x0, 0x0, 0x0, 0x0, 0x0, 0x0, 0x0, 0x0] ++
  [0x0, 0x0, 0xAB, 0x0, 0x0, 0x0, 0x0, 0x0, 0xF, 0x0, 0x0, 0x0, 0x0, 0x0, 0x0, 0x0] ++
  [0x535150, 0x0, 0x0, 0x0, 0x0, 0x0, 0x80, 0x0, 0x0, 0x0, 0x0, 0x0, 0x0, 0x0, 0x0, 0x0] ++
  [0x3, 0x0, 0x0, 0x0, 0x0, 0x0, 0x0, 0x0, 0x0, 0x0, 0x0, 0x0, 0x0, 0x0, 0x0, 0x0] ++
  [0x8, 0x10101, 0x10101, 0xA0AC832, 0x0, 0x0, 0x0, 0x0, 0x3, 0x0, 0x0, 0x0, 0x0, 0x0, 0x0, 0x0] ++
  [0x0, 0x0, 0x0, 0x0, 0x0, 0x0, 0x0, 0x0, 0x0, 0x0, 0x0, 0x0, 0x0, 0x0, 0x0, 0x0] ++
  [0x108A, 0x16403, 0x46703C32, 0x464B3C64, 0x0, 0x0, 0x0, 0x0, 0x0, 0x0, 0x0, 0x0, 0x0, 0x0, 0x0, 0x0]

end Sys2Proof.Machine
end

