-- ==== Sys2Proof/Machine/State.lean ====
section
/-! DEFINITION. The state of the block: everything the manual gives the RM4410, as plain data, and the queue of waiting
commands; the faults and refusals of a step; the state after reset. -/

namespace Sys2Proof.Machine

/-! ## Masters, ports and results -/

/-- The result codes of a host frame and its items (R468). -/
inductive HostResult
  | ok | nvBusy | badIndex | txnRefused | windowFault | mpTimeout | locked | frameRejected
deriving DecidableEq, Repr

/-- The cases of the catalogue of undefined behaviour (R718), by number. -/
inductive UndefCase
  | rowPhase | coefficients | mpDiv | voLanes | readoutMinimum | ringIndex | zoneGeometry | wolerImage
  | hostTiming | boothTwoMids | pairedShunts | conditions | bankWiring | tap
deriving DecidableEq, Repr

/-! ## Host ports and the window (chapter 14) -/

/-- A port's read-ahead buffer on the flash windows (R478). -/
structure ReadAhead where
  line : Nat := 0              -- address [31:8] of the line in the buffer
  data : List Byte := []
  ready : Bool := false
  filling : Bool := false
  want : Option Nat := none    -- the latest line requested and not yet filled
  timedOut : Option Nat := none  -- a line whose fill timed out
deriving DecidableEq, Repr

/-- The flawed ECC groups of the store that a read finds: uncorrectable ones, and ones with a single-bit error, which is
corrected (R616). -/
structure NvFound where
  bad : List Nat := []
  soft : List Nat := []
deriving DecidableEq, Repr

/-- What two reads find, each group once. -/
def NvFound.join (x y : NvFound) : NvFound := { bad := (x.bad ++ y.bad).eraseDups, soft := (x.soft ++ y.soft).eraseDups }

/-- What a read item gave: its result, its word, the window address or register it read, and the flawed groups of the store in
it. -/
structure ReadItem where
  result : HostResult
  word : Word
  addr : Option Nat := none
  idx : Option Nat := none
  found : NvFound := {}
deriving DecidableEq, Repr

/-- A host frame in progress on a port: CS_N is low (R460 to R467). -/
structure FrameInProgress where
  mode3 : Bool := false
  answered : Bool := true      -- the ports have answered since CS_N fell (R472)
  early : Bool := false        -- CS_N fell less than 500 ns after the rise before (R472)
  status : Nat := 0            -- the status word, of the fall of CS_N (R467)
  words : List Nat := []       -- the words that began to shift in
  items : List ReadItem := []  -- the items captured so far (R466)
deriving DecidableEq, Repr

/-- What one host port holds by itself (R476, R485, R748). -/
structure PortState where
  winAddr : Nat := 0
  winInc : Nat := 4
  raMiss : Bool := false
  winFault : Bool := false
  winFaultAddr : Nat := 0
  ra : ReadAhead := {}
  rejected : Nat := 0
  notAccepted : Nat := 0
  lastResult : HostResult := .ok
  mode3 : Bool := false
  frameErr : Bool := false
  lastRise : Option Nat := none  -- TIME clock of the last rise of CS_N
  cs : Option FrameInProgress := none  -- the frame in progress while CS_N is low
  sdo : List Nat := []           -- the 16-bit words that have begun to shift out since CS_N last fell (R465)
  thSite : Nat := 0              -- TH_SITE.SEL
  rgSel : Nat := 0
  mbCh : Nat := 0
  dbMask : Nat := 0              -- MB_DB_MASK (R542)
  icSel : Nat := 0
deriving DecidableEq, Repr

/-! ## Rings and doorbells (chapter 16) -/

/-- One ring: its descriptor, indices and overflow state (R523 to R541). -/
structure Ring where
  base : Nat := 0
  cfg : Word := 0#32             -- the RG_CFG word
  head : Nat := 0
  tail : Nat := 0
  seq : Nat := 0
  lost : Nat := 0                -- RG_LOST
  pendLost : Nat := 0            -- records dropped since the last LOST record (R537)
  firstSeq : Nat := 0            -- what the first dropped record would have carried (R534)
  firstPt : PT := 0#48           -- its PT (R708)
  firstFrame : Nat := 0
  dropped : Bool := false
  cfgErr : Bool := false
deriving DecidableEq, Repr

/-- One record as a block reports it, before its ring numbers it (R532). -/
structure Record where
  type : Nat
  source : Nat
  pt : PT
  frame : Nat
  payload : List Byte
deriving DecidableEq, Repr

/-- One entry of the fault log (R634). -/
structure LogEntry where
  seq : Nat
  entry : Record
  saved : Bool := false
deriving DecidableEq, Repr

/-! ## Mailboxes and sequencer commands (chapter 16) -/

/-- One booth-table entry (R545). -/
structure BoothEntry where
  midA : Nat := 0
  midB : Nat := 0
  en : Bool := false
deriving DecidableEq, Repr

/-- What one end sees of a channel beside its words (R550, R553, R564). -/
structure EndView where
  full : Bool := false
  err : Bool := false
  aborted : Bool := false
  discarded : Nat := 0
deriving DecidableEq, Repr

/-- One mailbox channel: the two queues of 8 words and the view of HPA, HPB and SEQ. -/
structure Channel where
  aToB : List Word := []         -- words from MID_A to MID_B, oldest first
  bToA : List Word := []
  viewA : EndView := {}          -- HPA's view
  viewB : EndView := {}          -- HPB's view
  viewSeq : EndView := {}
deriving DecidableEq, Repr

/-- The mailbox block (R545 to R553). -/
structure Mailbox where
  booth : List BoothEntry
  pendBooth : List BoothEntry := []
  edit : Bool := false
  begun : Bool := false          -- a BEGIN was accepted since the reset (R547)
  locked : Bool := false
  editor : Nat := 0
  editMids : List Nat := []      -- ports that have edited since BEGIN (R549)
  chans : Vector Channel 8
deriving DecidableEq, Repr

/-- The micro-routines of R583. -/
inductive RoutineKind
  | dawn | dusk | midnight | overlay | flush | sleepEntry | sleepExit
deriving DecidableEq, Repr

/-- The code of a micro-routine (R583). -/
def RoutineKind.code : RoutineKind → Nat
  | .dawn => 1
  | .dusk => 2
  | .midnight => 3
  | .overlay => 4
  | .flush => 5
  | .sleepEntry => 6
  | .sleepExit => 7

/-- Where a reply goes: the channel and the tag of the command (R556). -/
structure ReplyTo where
  ch : Nat
  tag : Nat
deriving DecidableEq, Repr

/-- Something that waits for the running micro-routine to end (R557, R301). -/
inductive Held
  | command (ch : Nat) (word : Word) (args : List Word)
  | midnight (trigger : Nat)
deriving DecidableEq, Repr

/-- How the last routine ended (IC_ROUTINE.LAST_END). -/
inductive RoutineEnd
  | none | completed | aborted | failed | abandoned
deriving DecidableEq, Repr

/-- The Thisan sequencer (R554 to R561, R580 to R583, R711). -/
structure Sequencer where
  routine : Option RoutineKind := none
  step : Nat := 0
  lastRoutine : Nat := 0
  lastEnd : RoutineEnd := .none
  restarts : Nat := 0                  -- restarts of the slice running now (R712)
  reply : Option ReplyTo := none       -- the final reply the running routine owes
  held : List Held := []               -- in the order they arose (R557)
  waiting : List (Nat × List Word) := []  -- replies waiting for room: channel, words
  discard : List Nat := List.replicate 8 0 -- words still to discard per channel (R561)
  visited : Nat := 7                   -- the channel visited last (R554)
deriving DecidableEq, Repr

/-! ## The interrupt controller (chapter 17) -/

/-- One interrupt source (R566, R568). -/
structure IrqSource where
  prio : Nat
  target : Nat
  pending : Bool := false
deriving DecidableEq, Repr

/-- One target's running priority and stack, the newest entry first (R569, R573). -/
structure Nest where
  running : Nat := 0
  stack : List Nat := []
deriving DecidableEq, Repr

/-- The nests of HPA, HPB and SEQ. -/
structure Nests where
  a : Nest := {}
  b : Nest := {}
  seq : Nest := {}
deriving DecidableEq, Repr

/-! ## The non-volatile store (chapter 19) -/

/-- What an operation of the non-volatile store is (NV_STATUS.OP). -/
inductive NvKind
  | window | trapezeWrite | trapezeRead | carouselPush | carouselRead | segment | seqRead
deriving DecidableEq, Repr

/-- The code of an operation in NV_STATUS.OP (R650). -/
def NvKind.code : NvKind → Nat
  | .window => 1
  | .trapezeWrite => 2
  | .trapezeRead => 3
  | .carouselPush => 4
  | .carouselRead => 5
  | .segment => 6
  | .seqRead => 7

/-- The operation in progress (R617, R618, R627). -/
structure NvOp where
  kind : NvKind
  writes : List (Nat × List Byte) := []  -- groups of the write operation in touch order: index, 8 new bytes
  span : Bool := false
  writing : Bool := false                -- a write operation of it is in progress
  sealing : Bool := false                -- TRAPEZE_WRITE step 4
  startedAt : Nat := 0
  addr : Nat := 0
  pages : Nat := 0
  len : Nat := 0
  slots : Nat := 0
  src : Nat := 0
  copy : Nat := 0
  slot : Nat := 0
  seq : Nat := 0
  halted : Bool := false                 -- no later step runs (R643)
  told : Bool := false                   -- NV_UNCORR was written for this operation (R616)
  savedTo : Nat := 0                     -- fault records below this sequence are in the segment
  used : Nat := 0                        -- USED of the segment
  flush : Bool := false                  -- the segment of the flush routine that runs (R638)
deriving DecidableEq, Repr

/-- The non-volatile store and the fault log. -/
structure NvState where
  cells : Mem := []                      -- bytes that differ from 0xFF (R615)
  bad : List Nat := []                   -- uncorrectable ECC groups
  soft : List Nat := []                  -- ECC groups with a single-bit error (R616)
  op : Option NvOp := none
  log : List LogEntry := []              -- oldest first, at most 512 (R634)
  nextSeq : Nat := 0
  flushCause : Nat := 0                  -- CAUSE of the segment the flush routine writes: 0 NV_FLUSH, 3 LOG_CLEAR
  flushUsed : Nat := 0                   -- USED of the segment that the flush routine has written
deriving DecidableEq, Repr

/-! ## Power, rails and resets (chapter 03) -/

/-- The rest and running states of the part (chapters 02 and 03). -/
inductive PowerMode
  | off        -- VAON or VCORE missing: power-on reset held
  | inReset    -- RESET_N low
  | run | idle | nap | deep
deriving DecidableEq, Repr

/-- A rail's bit in PW_RAIL. -/
def Rail.bit : Rail → Nat
  | .vcore => 0
  | .vdda => 1
  | .vddphy => 2
  | .vddioA => 3
  | .vddioB => 4
  | .vddioC => 5
  | .vaon => 6
  | .vdrv => 7
  | .vsht => 8

/-- What started a Dusk, by its bit in PW_RESET_CAUSE (R88). -/
inductive DuskCause
  | pfail | rail | request | thermal | clock
deriving DecidableEq, Repr

/-- The bit of PW_RESET_CAUSE that a Dusk cause sets. -/
def DuskCause.bit : DuskCause → Nat
  | .pfail => 5
  | .rail => 6
  | .request => 7
  | .thermal => 8
  | .clock => 9

/-- A Dusk in progress. -/
structure Dusk where
  cause : DuskCause
  startedAt : Nat
deriving DecidableEq, Repr

/-- How the Dawn in progress began (R78, R96). -/
inductive DawnKind
  | cold | warmD1 | warmD2 | deepWake
deriving DecidableEq, Repr

/-- The power and reset state. -/
structure Power where
  mode : PowerMode := .run
  valid : List Rail
  resetLow : Bool := false        -- RESET_N is low
  dusk : Option Dusk := none
  kind : DawnKind := .cold
  dawnStart : Nat := 0
  phaseAt : Nat := 0              -- TIME clock at which the Dawn phase in progress, or the settle of a wake, began
  resetAt : Option Nat := none    -- a system reset is due at this TIME clock (R78)
  target : PowerMode := .run      -- target of the sleep entry in progress
  pubAt : Nat := 0                -- publish point of the sleep state (AON timer, R102)
  wakeSrc : Nat := 0              -- wake sources that signalled during sleep entry or in sleep
  wakeFrom : PowerMode := .run    -- the state a wake leaves
  wakeEn : Nat := 0               -- PW_WAKE_EN as read at S0 (R100, R585)
  signal : Option (Nat × Nat) := none  -- the last wake signal outside sleep: its AON clock and its sources (R108)
  resumeTick : Bool := false      -- read-out resumes at the next tick
  coeffKept : Bool := false       -- coefficient SRAM was kept into this Dawn (R84)
  bias : Bool := false            -- the array bias is on
  duskHigh : Bool := false        -- DUSK_N is driven high (R72)
  restoring : List Rail := []     -- rails whose functions resume at the next tick (R76)
  d4Skipped : Bool := false       -- D4 found the coefficients already in place (R84)
  firstPub : Bool := false        -- a frame was published since D5 began (R82)
  settled : Bool := false         -- the array settled in this Dawn or wake
  torn : List (Nat × Nat) := []   -- torn copies found in D1, area and copy, to report at the end of D2
  filled : Bool := false          -- the identity record has filled its registers since the reset (R20, R614)
  d2 : Bool := false              -- D2 has begun in this Dawn (R183, R675)
  flushStarted : Bool := false    -- the segment of Dusk step 5 or of sleep step S4 was started
deriving DecidableEq, Repr

/-! ## Clocks, press time, the encoder and the sync bus (chapters 04 and 05) -/

/-- The encoder count with what its interpolation needs (R147, R151). -/
structure EncCount where
  cnt : BitVec 32 := 0#32
  forward : Bool := true          -- direction of the last accepted edge
  lastEdge : Option Nat := none   -- its TIME clock
  intervals : List Nat := []      -- newest first, at most 16
  hold : Option WP := none        -- WP held since the encoder stopped (R182, R184)
deriving DecidableEq, Repr

/-- The encoder interface (R146 to R156). -/
structure Encoder where
  cur : EncCount := {}
  past : List EncCount := []      -- counts after earlier edges, newest first, kept until the first tick of D5 (R152)
  levelA : Bool := false
  levelB : Bool := false
  illegal : Nat := 0              -- illegal transitions since the last ENC_ERROR event
  wpAtTick : WP := 0#40
  target : WP := 0#40             -- next target under ENCODER ticks (R153)
  targeted : Bool := false
  reached : Nat := 0              -- targets that the edges so far came to, not yet consumed by a tick (R154)
  reachedAt : Option Nat := none  -- TIME clock at which the first of them was reached
  moved : Int := 0                -- counts since sleep entry, for wake (R102)
deriving DecidableEq, Repr

/-- The sync block (R157 to R183). -/
structure Sync where
  started : Bool := false
  searchFrom : Nat := 0           -- TIME clock from which the unit searches for a beacon (R171, R183)
  dlySeen : Bool := false         -- a valid DLY report for this unit has come
  beacons : Nat := 0              -- beacons since that report (R166)
  relock : Bool := false          -- holdover ended within 1 µs: LOCK sets at the next valid DLY report (R177)
  missed : Nat := 0               -- beacons missed in a row
  delay : Nat := 0                -- own one-way delay in ns
  period : Nat := 0               -- PERIOD of the last beacon
  hasPred : Bool := false         -- a tick is predicted
  predicted : Int := 0            -- the next predicted tick, in ns of TIME
  ptAdjust : Option PT := none    -- PT to take at the next tick (R166, R168)
  ptStep : Option Int := none     -- and the step that PT_STEP then reports (R168)
  election : Bool := false
  electionAt : Nat := 0           -- TIME clock of the election tick
  heardLower : Bool := false
  masterTick : Nat := 0           -- TICK of the last beacon
  awaits : Bool := false          -- the beacon of the follower's last tick has neither come nor been missed (R176)
  replyDue : Bool := false        -- the last beacon came in this tick and asks this unit to reply (R163)
  rxAt : Nat := 0                 -- TIME clock at which the end of the last beacon was received (R163)
  mismatch : Option (Nat × Nat) := none  -- beacon PERIOD and local PERIOD last reported as different (R170)
  trips : List (Nat × List Int) := []    -- per unit, the last 4 round trips less the turnaround, in ns (R164)
  dlyNext : Option Nat := none    -- unit whose delay the next beacon reports
  peerSeq : Nat := 0              -- sequence byte of the next PEER_NOTE slot (R162)
  queue : List (List Byte) := []  -- outbound peer queue, at most 4 slots of 16 bytes (R179)
  lastTx : List Bool := []        -- the levels of the half bits of the last frame driven on the bus (R158, R174)
deriving DecidableEq, Repr

/-- Time and ticks. -/
structure Clock where
  pt : PT := 0#48
  ptRun : Bool := false
  ptNum : Nat := 1                -- PT advances by ptNum per ptDen TIME clocks: 1 per clock but on a follower, which trims
  ptDen : Nat := 1                --   its rate to the master's (R144, R166, R176)
  ptRem : Nat := 0                -- the part of the next PT count that has passed, in 1/ptDen
  captured : PT := 0#48
  capturedWp : WP := 0#40
  lastTick : Nat := 0             -- TIME clock of the last tick
  tickPt : PT := 0#48             -- PT stamped at the last tick
  ticked : Bool := false          -- tick 0 has fallen since D5
  row0 : Nat := 150               -- ROW0_DELAY in force for this window, in µs (R129)
  budget : Nat := 0               -- B of the frame in force (R131)
  enc : Encoder := {}
  sync : Sync := {}
deriving DecidableEq, Repr

/-! ## Read-out, correction, brackets, shutter and Midnight (chapters 06 to 09) -/

/-- One corrected or half-corrected row of a frame: stage 5 results in 1/16 count and bad marks (R221, R236). -/
structure RowResult where
  y : Nat
  vals : List Int
  bad : List Bool
deriving DecidableEq, Repr

/-- The blind means of one read row and the samples of one accumulated row (R294). -/
structure AccRow where
  r : Nat
  blind : Option Rat                 -- mean of the valid blind-column codes of the row
  codes : List (Option Nat)          -- the ADC codes of the 1,024 active columns, none where not valid
deriving DecidableEq, Repr

/-- One frame accumulated in M4, or the verify frame of M7 (R294, R297). -/
structure AccFrame where
  n : Nat
  cols : List (Option Rat)           -- blind-row mean of each active column
  rows : List AccRow
  tfpa : Int
deriving DecidableEq, Repr

/-- The header flags a frame gathers (chapter 21). -/
structure FrameFlags where
  oob : Bool := false                -- OUT_OF_BRACKET (R259)
  biasFault : Bool := false
  biasClip : Bool := false
  biasSettle : Bool := false
  driftClamp : Bool := false
  safetyNet : Bool := false          -- the Safety net was in force for the frame
  throttled : Bool := false          -- the tick period was set by enforcement (R664)
  truncated : Bool := false          -- OUTPUT_TRUNC (R695)
  dropped : Bool := false            -- OUTPUT_DROP (R696)
  abandoned : Bool := false          -- read-out was abandoned (R208)
deriving DecidableEq, Repr

/-- A zone's statistics, filled at zone close (chapter 10). -/
structure ZoneStat where
  npix : Nat := 0
  statMin : Nat := 0
  statMax : Nat := 0
  mean : Nat := 0
  quantile : Nat := 0
  above : Nat := 0
  below : Nat := 0
  cx : Nat := 0
  cy : Nat := 0
deriving DecidableEq, Repr

/-- What zone close finds for one admitted zone (R324, R325, R343). -/
structure ZoneClosed where
  stat : Option ZoneStat := none     -- none when NPIX is 0
  partly : Bool := false             -- a covered row was not read
  noRow : Bool := false              -- no covered row was read
  ecc : Bool := false                -- a zone word it uses was uncorrectable
  trendEcc : List Nat := []          -- statistics whose history word was uncorrectable
deriving DecidableEq, Repr

/-- A frame in flight with the configuration in force at its first row (R29). -/
structure Frame where
  n : Nat
  regs : Vector Word 256             -- the register words in force at its first row
  mem : Mem                          -- the tables and coefficients in force at its first row
  shutBad : Option (List Nat) := none  -- SHUT_BAD pixels read from the working area (R298)
  tickPt : PT
  tickAt : Nat                       -- TIME clock of its tick
  startAt : Nat                      -- TIME clock at which its first row slot started
  row0 : Nat                         -- ROW0_DELAY of its window, in µs
  y0 : Nat
  w : Nat
  slot : Nat := 0                    -- slots done
  dt : Int := 0                      -- ΔT latched, 1/256 °C (R40)
  tfpa : Int := 0                    -- measured TFPA of the frame, 1/256 °C
  overlay : Nat := 0x7F              -- overlay active for the frame
  period : Nat := 0                  -- tick period in force, TIME clocks
  lines0 : Nat := 0                  -- lines queued on VC0 and VC1
  lines1 : Nat := 0
  admitted : List Nat := []
  shed : List Nat := []
  total : Nat := 0                   -- cost sum of the enabled zones
  flags : FrameFlags := {}
  faulty : List Nat := []            -- faulty read columns (R210)
  blind : List (List Nat) := []      -- codes of the blind rows read, row 0 first
  lastRowTerm : Rat := 0             -- ΔR of the previous window row (R224)
  short : List Nat := []             -- short read rows, in the order read
  biasMv : Nat := 0                  -- bias amplitude measured last, mV
  eccBad : List Nat := []            -- uncorrectable coefficient words, by address (R245)
  eccCount : Nat := 0
  eccLow : Option Nat := none        -- the lowest address the ECC_UNCORR event gives (R245, R246)
  rows : List RowResult := []        -- rows after stage 5 (R236)
  image : List (Nat × List Nat) := []  -- corrected rows: y, values in 0.01 K
  wps : List (Nat × WP) := []        -- WP latched at each window row's exposure (R334)
  replaced : Nat := 0
  noValue : Nat := 0
  acc : List AccRow := []            -- rows of M4, or of the verify frame of M7 (R294, R297)
  accCols : List (Option Rat) := []
  zones : List (Nat × ZoneClosed) := []  -- results at zone close
  resets : List (Nat × Bool) := []   -- zones that start afresh with this frame; true: TREND history invalid (R329)
  oobT : Int := 0                    -- the measured TFPA that OUT_OF_BRACKET was formed from (R259)
  budget : Nat := 0                  -- B of its plan (R131)
  closed : Bool := false
  closedAt : Nat := 0                -- TIME clock of its zone close (R127)
  first : Bool := false              -- first frame after read-out started or resumed (R250)
  published : Bool := true           -- the frame is published (R313)
deriving DecidableEq, Repr

/-- The focal plane and pipeline state that outlives a frame. -/
structure Imager where
  frames : List Frame := []          -- in flight, oldest first
  reading : Bool := false            -- FP block runs (R214)
  enabled : Bool := false            -- frames may start: from D5 until read-out stops (R208, R214)
  cpRun : Bool := false              -- CP block runs (R249)
  lastStart : Option Nat := none     -- the last frame whose first row started
  restart : Bool := true             -- the next frame is the first after a start (R250)
  lastGood : Int := 0                -- last good TFPA, 1/256 °C
  tfpaFault : Bool := false          -- last thermistor reading was faulty
  biasFault : Bool := false          -- last frame had a bias fault
  clipPrev : Bool := false           -- last frame was bias-clipped
  driftPrev : Bool := false          -- last frame was drift-clamped
  oobPrev : Bool := false            -- last frame published was flagged OUT_OF_BRACKET
  winPrev : Option (Nat × Nat) := none  -- window the last WIN_CLIP event reported (R192)
  settle : Nat := 0                  -- frames still to carry BIAS_SETTLE (R209)
  levelPrev : Nat := 0x80            -- FP_BIAS.LEVEL and BIAS_WIDTH of the last window
  widthPrev : Nat := 0x3C
  dC : List Int := []                -- ΔC(c) of the 1,024 active columns, 1/2,048 count (R225)
  restartDC : Bool := false          -- ΔC restarts from ΔCraw at the next frame (R298)
  hist : List (Nat × Nat × List (Option Int)) := []  -- history by read row, with the frame that wrote it (R235)
deriving DecidableEq, Repr

/-- One directory entry of the Woler image (R277). -/
structure DirEntry where
  type : Nat
  index : Nat
  offset : Nat
  length : Nat
  tLo : Int
  tHi : Int
  param : Nat
deriving DecidableEq, Repr

/-- What the shadow bank is doing (R263). -/
inductive ShadowState
  | idle | loading | ready | inForce
deriving DecidableEq, Repr

/-- What the shadow bank holds (CP_BRK_STATUS.CONTENT). -/
inductive ShadowContent
  | nothing | gain | offsets
deriving DecidableEq, Repr

/-- Brackets, the shadow bank and the Woler directory (R256 to R285). -/
structure Brackets where
  dir : List DirEntry := []
  crcTab : Nat := 0                  -- CRC_TAB_OFFSET of the image
  running : Bool := false            -- run-ahead, late loads and automatic swaps run (R284)
  loaded : Bool := false             -- every block of the load checked good
  sums : Bool := false               -- the shadow bank holds intermediate sums of M4 and M5 (R295)
  shadow : ShadowState := .idle
  content : ShadowContent := .nothing
  target : Nat := 0
  late : Bool := false
  runAhead : Bool := false           -- the shadow was started by R264
  upward : Bool := false
  forced : Option Nat := none        -- FORCED with its bracket (R273)
  forceDue : Bool := false           -- a forced load waits for the shadow
  crcs : List Byte := []             -- the 384 block CRCs read so far (R261)
  fills : Nat := 0                   -- line fills of the load completed
  block : List Byte := []            -- bytes of the block being read
  readyAt : Nat := 0
  copyback : Bool := false
  copied : Bool := false             -- the copy-back is complete; the bank returns at the next tick
  heldByMidnight : Bool := false     -- run-ahead and late loads are held off (R272)
  holdOff : List (Nat × Nat) := []   -- bracket and TIME clock until which no automatic load of it starts (R283)
  measured : Int := 0                -- measured TFPA of the last frame read
  recValid : Bool := false
deriving DecidableEq, Repr

/-- The two shutter directions (R287). -/
inductive ShutterDir
  | close | open
deriving DecidableEq, Repr

/-- Who drives a shutter pulse (R288, R315). -/
inductive PulseSource
  | action | midnight | dawn | dusk
deriving DecidableEq, Repr

/-- A shutter pulse running or waiting. -/
structure ShutterPulse where
  dir : ShutterDir
  width : Nat                        -- ms, 0 for the width of CP_SHT_CTL
  source : PulseSource
  startedAt : Nat := 0
deriving DecidableEq, Repr

/-- The shutter bridge (R287 to R292). -/
structure Shutter where
  pulse : Option ShutterPulse := none
  braking : Bool := false
  brakeAt : Nat := 0                 -- TIME clock at which the last pulse ended
  waiting : List ShutterPulse := []
  check : Option ShutterPulse := none  -- the pulse whose SHPOS check is due (R291)
  onLog : List (Nat × Nat) := []     -- start and end TIME clocks of pulses
  aonPos : Nat := 0                  -- position kept in the AON block, coded as POS (R292)
deriving DecidableEq, Repr

/-- The Midnight cycle (R293 to R313). -/
structure Midnight where
  running : Bool := false
  step : Nat := 0                    -- 0 to 8 for M0 to M8 while running
  trigger : Nat := 0                 -- 0 timer, 1 drift, 2 host, 3 overlay
  dawn : Bool := false               -- a Dawn Midnight cycle (R313)
  held : Bool := false               -- the shadow is taken and the settings are read (M0)
  nAcc : Nat := 16                   -- N, SETTLE and RESID as read at M0
  settle : Nat := 2
  resid : Nat := 7
  settled : Nat := 0                 -- frames settled since the last pulse of the cycle
  frames : List AccFrame := []       -- frames accumulated in M4
  newOffsets : List (Nat × Int) := []  -- O′ by planar index
  newRow : List (Nat × Nat) := []    -- BREF_ROW′ by read row, 1/4 count
  newCol : List (Nat × Nat) := []    -- BREF_COL′ by read column, 1/4 count
  newShutRef : Option Nat := none
  newBad : List Nat := []            -- every pixel marked SHUT_BAD after M5
  newlyBad : List Nat := []          -- those newly marked in M5
  meanTfpa : Rat := 0                -- mean TFPA of the accumulated frames, 1/256 °C
  residual : Nat := 0                -- R of the last verify, 1/2 count
  verifyN : Option Nat := none       -- the verify frame of M7
  abortCause : Option Nat := none    -- an abort waits for the next step boundary
  closeStarted : Bool := false       -- the cycle's close pulse has started
  openIssued : Bool := false         -- the open pulse of M6 has been issued
  rollback : Bool := false           -- roll-back after an abort: its open pulse has not ended (R309, R743)
  pulseDone : Bool := false          -- the pulse of the step in progress ended, its position check passed
  netOffDue : Bool := false          -- the Safety net ends at the next tick
  failedAt : Option Nat := none      -- TIME clock at which the last failed or aborted cycle ended (R301)
  done : Bool := false               -- a cycle has succeeded
  lastDone : Option Nat := none      -- TIME clock of the last successful M8, or of D6 when none succeeded; none before D6 (R300)
  shutBadWork : Option (List Nat) := none  -- SHUT_BAD pixels read from the working area (R298)
deriving DecidableEq, Repr

/-! ## Zones and actions (chapters 10 and 11) -/

/-- The limit states of a zone (R327). -/
inductive LimitState
  | normal | high | low
deriving DecidableEq, Repr

/-- What the zone engine keeps for one zone from frame to frame (R303, R327, R336). -/
structure ZoneRun where
  s : LimitState := .normal
  p : LimitState := .normal
  deb : Nat := 0
  hist : List (Nat × ZoneStat) := []  -- measured frames, newest first, at most 8 (R303)
  good : Nat := 0                     -- measured frames since the history became invalid, at most 8 (R329, R346)
  cand : Option LimitState := none    -- the candidate of the last counted frame (R336)
deriving DecidableEq, Repr

/-- One published result (R350). -/
structure ZoneResult where
  state : Nat := 3
  limit : LimitState := .normal
  flags : Nat := 0
  deb : Nat := 0
  stat : Option ZoneStat := none      -- none: every statistic at its no-value code, NPIX 0
  frozen : Bool := false              -- PREDICTED under policy HOLD_ACTUATORS (R304)
deriving DecidableEq, Repr

/-- The zone engine (R317 to R347). -/
structure ZoneEngine where
  planned : List Nat := []             -- zones the budget plan of this tick admits, in admission order (R133)
  plannedShed : List Nat := []         -- and those it sheds
  plannedTotal : Nat := 0              -- the cost sum of the enabled zones
  resets : List (Nat × Bool) := []     -- resets of R329 for the frame of this tick
  zones : List (Nat × ZoneRun) := []   -- zones whose run differs from a fresh one
  results : List (Nat × ZoneResult) := []  -- published results of the zones that were enabled, and of those not at rest
  published : Bool := false            -- a frame was published since the reset (R345)
  loopsOn : Bool := false              -- loops update (R347)
  loopsWait : Bool := false            -- read-out has restarted: they wait for its first publication
  loopsDue : Bool := false             -- it has come: they update from the next tick on
  loopTick : Bool := false             -- this tick's update is still to come (R340)
  net : Bool := false                  -- the Safety net is in force
  netFrom : Nat := 0                   -- frame m of the Safety net
  fresh : Bool := false                -- the first frame of this read-out was not published: the next one starts the zones (R313, R346)
deriving DecidableEq, Repr

/-- The states of an armed-table entry (R381). -/
inductive EntryState
  | armed | held | leadin
deriving DecidableEq, Repr

/-- One armed-table entry in use (R380, R381). -/
structure ArmedEntry where
  index : Nat := 0                     -- its table index
  state : EntryState := .armed
  type : Nat                           -- 0 to 6 (R351)
  baseWp : Bool := false
  tentative : Bool := false
  unconf : Bool := false
  repArmed : Bool := false
  repFired : Bool := false
  tag : Nat := 0
  channel : Nat := 0
  profile : Nat := 0
  ring : Nat := 0                      -- response ring resolved at arming (R707)
  redirect : Bool := false
  k : Nat := 1
  on : Nat := 0
  tf : PT := 0#48
  zone : Nat := 0x3FF
  leadUs : Nat := 0
  width : Nat := 0
  note : List Byte := []               -- bytes 16 to 31 of a note entry
  confirms : Nat := 0
  seen : Bool := false                 -- the first confirmation came (R360)
  mid : Nat := 0                       -- source MID
  wpt : WP := 0#40
  seq : Nat := 0                       -- arming sequence
  binding : Bool := false              -- armed by a zone binding
  spent : Bool := false                -- another entry's pulse took its lead-in over (R403)
  leadDone : Bool := false             -- its lead-in was skipped and does not start (R401)
  frame : Option Nat := none           -- publishing frame of a binding-armed entry (R368)
  late : Bool := false
  rsp : Nat := 0                       -- RSP_RING as given
deriving DecidableEq, Repr

/-- The action scheduler (R351 to R378). -/
structure Scheduler where
  table : List (Nat × ArmedEntry) := []  -- entries in use by table index, ascending
  admitting : Bool := false
  dawnOnly : Bool := false             -- only SEQ SHUTTER entries of a Dawn cycle (R377)
  seq : Nat := 0                       -- next arming sequence
  peak : Nat := 0
  offer : Option ArmedEntry := none    -- SEQ SHUTTER entry to offer again (R372)
  ptK : PT := 0#48                     -- PT, WP and velocity captured at the last tick (R354)
  wpK : WP := 0#40
  vel : Int := 0
  resumeTick : Bool := false           -- admission resumes at the next tick (R378)
  visit : Nat := 0                     -- the ring that the drain visits next (R353)
  drainAt : Option Nat := none         -- TIME clock at which the drain took its last entry (R353)
  bindEnd : Nat := 0                   -- TIME clock in which the last binding entry of the last publication arrives (R38, R338)
deriving DecidableEq, Repr

/-! ## Valves and lamps (chapters 12 and 13) -/

/-- The phases of a valve channel (R385, VD_PHASE). -/
inductive ValvePhase
  | off | leadin | boost | hold | release | slowDecay
deriving DecidableEq, Repr

/-- A profile as read when an entry's first drive phase begins (R39, R428). -/
structure Profile where
  openMode : Bool := false
  prebias : Nat := 0
  boostI : Nat := 0
  boostT : Nat := 0
  holdI : Nat := 0
  holdDuty : Nat := 0
  chopF : Nat := 10
  ditherA : Nat := 0
  ditherF : Nat := 25
  dead : Nat := 20
  ocI : Nat := 0
  openI : Nat := 0
  openWin : Nat := 0
  tcmdMin : Nat := 0
  relI : Nat := 0
  relTMax : Nat := 10000
deriving DecidableEq, Repr

/-- What a channel does with its switches (R382). -/
inductive DriveState
  | off | lowSide | boost | on | freewheel | recovery | slowDecay
deriving DecidableEq, Repr

/-- One valve channel. -/
structure ValveChannel where
  phase : ValvePhase := .off
  drive : DriveState := .off
  was : DriveState := .off          -- the drive state before it, for the dead time between switches (R383)
  driveAt : Nat := 0                -- TIME clock at which the drive state was entered
  checking : Bool := false          -- the low-side check runs (R386)
  checkAt : Nat := 0                -- TIME clock at which it started
  next : ValvePhase := .off         -- the phase that follows the check
  owner : Nat := 0                  -- arming sequence of the entry that owns the phase
  profile : Profile := {}
  rshunt : Nat := 1
  shortI : Nat := 0
  policy : Nat := 0
  tmin : Nat := 200
  scale : Nat := 4095               -- hold setpoint scale, 0 to 4,095 (R396)
  level : Bool := false             -- a proportional hold
  boostAt : Nat := 0                -- TIME clock of the BOOST start
  cmdEnd : Option Nat := none       -- TIME clock at which the command ends
  holdAt : Nat := 0
  releaseAt : Nat := 0
  debt : Rat := 0                   -- 10 ns (R393)
  chopAt : Nat := 0                 -- TIME clock at which the chop period in progress started
  chopOn : Rat := 0                 -- its on-time, 10 ns: FREEWHEEL follows (R390, R391)
  fullOn : Nat := 0                 -- consecutive periods entirely in ON (R394)
  iMeas : Int := 0                  -- mA
  tripped : Bool := false           -- thermal trip (R416)
  cause : Nat := 0xFF
  temp : Rat := 0                   -- coil model temperature, °C (R415)
deriving DecidableEq, Repr

/-- A request that waits for its bank (R398). -/
structure BankRequest where
  entry : ArmedEntry
  due : Nat                         -- TIME clock at which it should have started
  leadin : Bool := false
deriving DecidableEq, Repr

/-- One valve bank. -/
structure Bank where
  owner : Option Nat := none        -- the logical channel that occupies it
  proportional : Bool := false      -- mode it started with (R397)
  paired : Bool := false            -- the logical channel is a pair
  pairs : Nat := 0                  -- the bank's two bits of PAIR as it was taken (R397)
  waiting : List BankRequest := []  -- in the order they came
  fallback : Bool := false          -- the last release used slow decay
deriving DecidableEq, Repr

/-- The boost converter (R409 to R412). -/
structure Boost where
  running : Bool := false
  ovStop : Bool := false
  uvArmed : Bool := false
  startedAt : Nat := 0
  vstart : Nat := 0                 -- VBAT at the start, from which the target ramps, 0.1 V (R411)
  pumping : Bool := false           -- BST_GATE switches: VBOOST is being raised to the target (R389, R409)
  vboost : Nat := 0                 -- 0.1 V
  vbat : Nat := 0
deriving DecidableEq, Repr

/-- The valve drive. -/
structure Valves where
  running : Bool := false
  chans : Vector ValveChannel 16
  banks : Vector Bank 4
  boost : Boost := {}
deriving DecidableEq, Repr

/-- The states of a lamp channel (R459). -/
inductive LampState
  | off | inrush | paused | on | fault
deriving DecidableEq, Repr

/-- One lamp channel. -/
structure LampChannel where
  state : LampState := .off
  req : Nat := 0                    -- request r in force
  fresh : Bool := false             -- no period has taken r up yet (R436)
  applied : Nat := 0
  onClocks : Nat := 0               -- on-time of the current period, LMP clocks
  periodAt : Option Nat := none     -- TIME clock at which the current period started
  gate : Bool := false
  inrushTime : Nat := 0             -- E in TIME clocks (R441)
  inrushMark : Nat := 0             -- TIME clock up to which E has advanced
  ceil : Nat := 4095                -- C
  pausedAt : Nat := 0
  debt : Rat := 0                   -- 10 ns
  res : Rat := 0                    -- RES, 10 mΩ
  resValid : Bool := false
  steady : Nat := 0                 -- ticks with a sample since the inrush ended (R448)
  samples : List (Nat × Nat) := []  -- VLMP in 0.1 V and current in mA since the last tick, while ON (R448)
  currents : List Nat := []         -- currents in mA since the last tick, in every state
  lowRes : Nat := 0                 -- consecutive ticks with RES below RMIN (R452)
  openCount : Nat := 0
  openSum : Nat := 0                -- sum of the currents counted, mA
  zeroSince : Option Nat := none    -- applied duty 0 since this TIME clock (R440)
  share : Rat := 0                  -- share at the last tick, A
  latchTicks : Nat := 0             -- ticks since the latch (R446)
  iMeas : Nat := 0                  -- mA
  cause : Nat := 0xFF
  limitCyc : Nat := 0
  refused : Nat := 0
  replaced : Nat := 0
deriving DecidableEq, Repr

/-- The lamp block. -/
structure Lamps where
  running : Bool := false
  startedAt : Nat := 0              -- TIME clock at which the PWM counter started
  chans : Vector LampChannel 8
  sum : Rat := 0                    -- S at the last tick, A
  sag : Bool := false               -- VLMP is below UV_PAUSE (R443)
  lowAt : Nat := 0                  -- TIME clock at which VLMP was last measured below UV_PAUSE (R444)
deriving DecidableEq, Repr

/-! ## Transactions and overlays (chapter 15) -/

/-- One entry of a journal (R491, R502): a register word, or bytes of a staged table; `raw` is an entry of a record whose
kind is neither, which a commit skips (R519). -/
inductive JournalEntry
  | register (idx : Nat) (value : Word)
  | table (addr : Nat) (bytes : List Byte)
  | raw (bytes : List Byte)
deriving DecidableEq, Repr

/-- When a pending commit is due (R493, R496). -/
inductive CommitTime
  | next
  | at (tick : Nat)
deriving DecidableEq, Repr

/-- The transaction machine (R490 to R508). -/
structure Txn where
  owner : Option Nat := none            -- MID of the owner, none while closed
  pending : Option CommitTime := none
  beganAt : Nat := 0                    -- TIME clock of BEGIN
  timeout : Nat := 0                    -- CFG_TIMEOUT.MS when the transaction began, in ms
  doomed : Bool := false
  journal : List JournalEntry := []     -- in the order accepted
  implicit : List (List JournalEntry) := []  -- implicit commits, one per frame, oldest first (R504)
deriving DecidableEq, Repr

/-- The overlay machine beside CFG_OVERLAY (R509 to R521). -/
structure Overlay where
  id : Nat := 0x7F                      -- the overlay being applied or armed
  want : Nat := 0x7F                    -- the overlay that the command at O0 names
  stop : Bool := false                  -- ARM_OVERLAY: the apply ends at O4
  tick : Option Nat := none             -- commit tick, none for the next window
  body : List JournalEntry := []        -- the body's writes
  flags : Nat := 0                      -- FLAGS of the record's header
  got : List Byte := []                 -- bytes of a flash record read so far
  undoRegs : List Nat := []             -- the undo list: registers the active overlay wrote
  undoBytes : List (Nat × Nat) := []    -- and byte ranges, address and length
  pair : List Byte := []                -- payload of the base Trapeze pair, as D1 read it (R509)
  baseRegs : Vector Word 256 := Vector.replicate 256 0#32   -- the base values (R515)
  baseMem : Mem := []
deriving DecidableEq, Repr

/-! ## The memory port (chapter 18) -/

/-- Who asked for a line fill (R600). -/
inductive FillFor
  | portA | portB | sequencer | bracket
deriving DecidableEq, Repr

/-- A line fill waiting for the wire or on it. -/
structure Fill where
  who : FillFor
  addr : Nat                            -- flash address of the line, select in bit 32
  askedAt : Nat                         -- TIME clock of the request
  dead : Bool := false                  -- its requester no longer wants it
deriving DecidableEq, Repr

/-- A write in the write path: a page program or an erase (R601, R602, R605). -/
inductive WriteOp
  | program (addr : Nat) (bytes : List Byte)
  | erase (sel addr size : Nat)
deriving DecidableEq, Repr

/-- A transfer on the wire. -/
inductive Transfer
  | fill (f : Fill)
  | enable (w : WriteOp)                -- the write enable of a program or erase
  | write (w : WriteOp)                 -- the program or erase itself
  | poll (sel : Nat)
  | command (op sel addr : Nat)
  | software (len tx : Nat)
deriving DecidableEq, Repr

/-- A write in progress in its device. -/
structure Writing where
  op : WriteOp
  startedAt : Nat                       -- TIME clock at which its transfer ended
  nextPoll : Nat                        -- TIME clock at which the next status poll is due
  firstPoll : Option Nat := none        -- TIME clock of its first poll
deriving DecidableEq, Repr

/-- The memory port. -/
structure MemPort where
  wire : Option Transfer := none
  wireEnd : Nat := 0                    -- TIME clock at which the transfer on the wire ends
  writing : Option Writing := none
  queued : Option WriteOp := none       -- the operation in progress, not yet sent
  enabled : Bool := false               -- its write enable was sent (R602)
  sent : List Byte := []                -- opcode, address and data bytes that MP_SDO sends in the last transfer (R591)
  waiting : Option WriteOp := none      -- the second place of the write path
  waitAt : Nat := 0                     -- TIME clock at which it was requested
  fills : List Fill := []
  command : Option (Nat × Nat × Nat) := none   -- a queued MP_CMD read: operation, select, address
  commandAt : Nat := 0
  commandMid : Nat := 0                 -- the MID that asked for it
  software : Option (Nat × Nat) := none        -- a queued software transfer: bits, data
  softwareAt : Nat := 0
  s2 : Bool := true                     -- levels of MP_S2_N and MP_S3_N
  s3 : Bool := true
  pollOnce : List Nat := []             -- selects to poll once after STUCK was cleared (R607)
deriving DecidableEq, Repr

/-! ## Thermal limits and the power model (chapter 20) -/

/-- Thermal limits, die sites and the package model. -/
structure Thermal where
  sites : List Int                      -- the last sample of the 12 die sites, 1/16 °C
  sampled : Bool := false               -- a sample was taken since reset
  excluded : List Nat := []             -- sites excluded by a site fault (R671)
  graceEnd : Option PT := none          -- PT at which the grace period ends
  enforced : Bool := false              -- enforcement sets the tick period, since a commit window (R27, R660, R662)
  fallback : Nat := 1000000             -- TH_FALLBACK.PERIOD as read in the last window (R31, R678)
  work : Nat × Nat := (1, 1)            -- work clock as a fraction of 400 MHz (R131)
  started : Bool := false               -- the model has its initial values
  modelAt : Nat := 0                    -- TIME clock up to which the model is integrated
  td : Rat := 0                         -- °C
  tc : Rat := 0
  ts : Rat := 0
  tb : Rat := 0
  power : List Rat := []                -- power samples, W, newest first, at most 16
  latched0 : Int := 0                   -- PRED_0 latched for the frame, 1/256 °C
  latchedH : Int := 0                   -- PRED_H latched
  dT : Int := 0                         -- ΔT latched, 1/256 °C
  driftRef : Int := 0                   -- DRIFT_REF, 1/256 °C
  mismatch : Nat := 0                   -- consecutive ticks with |TFPA − TS| above 2 °C (R673)
  hot : Bool := false                   -- SHUTDOWN was reached at the last sample (R655)
deriving DecidableEq, Repr

/-! ## Image and result output (chapter 21) -/

/-- One queued CSI-2 packet. -/
structure Packet where
  vc : Nat
  dt : Nat                              -- data type
  wc : Nat                              -- word count, or the data field of a short packet
  payload : List Byte := []
  frame : Nat := 0                      -- the frame it belongs to
deriving DecidableEq, Repr

/-- The output formatter. -/
structure Output where
  image : List Packet := []             -- image buffer, oldest first
  result : List Packet := []            -- result buffer
  started : Bool := false               -- output has started since it last stopped
  opened : List (Nat × Nat) := []       -- VCs with a frame start sent and no frame end, with the frame
  lost : Bool := false                  -- VDDPHY was lost and the next tick after its return has not come (R696)
  dropSeen : Bool := false              -- OUTPUT_DROP was written since VDDPHY was lost
  deskewDue : Bool := false             -- a deskew sequence goes before the next frame start (R681)
  deskewCount : Nat := 0                -- VC0 frame ends since the last deskew
  deskewed : Bool := false              -- the last burst held a deskew sequence
  lanes : List (List Byte) := []        -- the bytes of the last burst on each used data lane
deriving DecidableEq, Repr

/-- The test access port (R56, R66, R720). -/
structure Tap where
  instr : TapInstr := .idcode           -- the instruction selected; IDCODE in Test-Logic-Reset
  shifting : Bool := false              -- in Shift-IR or Shift-DR
  cells : List (Signal × Option Bool) := []  -- boundary cells: the level of an output, or none for an output left off
deriving DecidableEq, Repr

/-! ## The whole block -/

/-- Everything the RM4410 holds, but the nests of the interrupt targets. -/
structure Block where
  now : Nat := 0                        -- TIME clocks since power came
  free : Nat := 0                       -- the model's own counter of free values taken (log entry 3)
  undef : Option UndefCase := none      -- a case of the catalogue of undefined behaviour was entered (R6)
  regs : Vector Word 256                -- the stored word of each of the 256 direct registers
  mem : Mem := []                       -- coefficient, table and ring SRAM
  portA : PortState := {}
  portB : PortState := { mbCh := 1 }
  tap : Tap := {}
  rings : Vector Ring 32
  dbSeq : Word := 0#32                  -- SEQ's doorbell word (R542)
  dbA : Word := 0#32
  dbB : Word := 0#32
  mail : Mailbox
  seq : Sequencer := {}
  irq : Vector IrqSource 256
  nv : NvState := {}
  power : Power
  clock : Clock := {}
  img : Imager := {}
  brk : Brackets := {}
  shut : Shutter := {}
  night : Midnight := {}
  zones : ZoneEngine := {}
  sched : Scheduler := {}
  valves : Valves
  lamps : Lamps
  txn : Txn := {}
  overlay : Overlay := {}
  mp : MemPort := {}
  thermal : Thermal
  out : Output := {}
deriving DecidableEq, Repr

/-- The state of the model: the commands that wait, the nests of the interrupt targets, and the block. -/
structure State where
  pending : List Instr
  nests : Nests
  m : Block
deriving DecidableEq, Repr

/-- Why a step stops with a fault. -/
inductive Fault
  /-- Raised by every meaning but the resets once a case of the catalogue of undefined behaviour was entered: until the
  next reset the part does not keep the manual's requirements (R6, R718). Safe: the model stops where the hardware
  goes on in a way the manual does not give. -/
  | undefinedBehaviour (c : UndefCase)
deriving DecidableEq, Repr

/-- Why a command has no meaning. -/
inductive Refusal
  /-- Raised by an arm of `exec` whose command has no meaning yet. Safe. -/
  | notModelled (mnemonic : String)
deriving DecidableEq, Repr

/-- The default priority and target of each interrupt source (R587). -/
def irqReset : Vector IrqSource 256 := Vector.mk (List.toArray (
  (⟨0, 0, false⟩ :: List.replicate 15 ⟨8, 0, false⟩) ++ List.replicate 112 ⟨0, 0, false⟩ ++
  List.replicate 32 ⟨4, 0, false⟩ ++ List.replicate 32 ⟨4, 1, false⟩ ++ List.replicate 32 ⟨8, 2, false⟩ ++
  List.replicate 32 ⟨0, 0, false⟩)) (by decide +kernel)

/-- The booth table after reset (R546). -/
def boothReset : List BoothEntry :=
  [⟨0, 2, true⟩, ⟨1, 2, true⟩, ⟨3, 2, true⟩] ++ List.replicate 5 ({} : BoothEntry)

/-- The ring descriptors after reset (R541). -/
def ringsReset : Vector Ring 32 := Vector.mk (List.toArray (
  [{ base := 0, cfg := 0xAB#32 }, { base := 0x8000, cfg := 0x3088D#32 }, { base := 0xA000, cfg := 0x1089#32 },
   { base := 0xC000, cfg := 0x1989#32 }] ++ List.replicate 28 ({} : Ring))) (by decide +kernel)

/-- The lamp block with every channel off. -/
def lampsReset : Lamps := { chans := Vector.replicate 8 {} }

/-- The valve drive with every channel off. -/
def valvesReset : Valves := { chans := Vector.replicate 16 {}, banks := Vector.replicate 4 {} }

/-- The mailbox block after reset (R546). -/
def mailReset : Mailbox := { booth := boothReset, chans := Vector.replicate 8 {} }

/-- The register words after reset (R20, R746). -/
def regsReset : Vector Word 256 := ⟨(resetWords.map (BitVec.ofNat 32)).toArray, by decide +kernel⟩

/-- The payload of the base Trapeze pair as delivered: FORMAT 1, BASE_SRC 0, BASE_LEN 0, every SLOT SRC 2 (R509, R615). -/
def deliveredBase : List Byte :=
  leBytes 2 1 ++ List.replicate 14 0#8 ++ (List.replicate 64 (2#8 :: List.replicate 7 0#8)).flatten

/-- The seal of a Trapeze copy: SEQ, LEN and the CRC over payload, SEQ and LEN (R625). -/
def sealBytes (payload : List Byte) (seq : Nat) : List Byte :=
  let head := leBytes 4 seq ++ leBytes 2 payload.length
  head ++ leBytes 2 (crc16 (payload ++ head))

/-- The cells of the store as delivered: every byte of the user area 0xFF but copy A of the base pair, sealed with SEQ 1
(R615). -/
def deliveredCells : Mem :=
  Mem.writeBytes 0xFF#8 (Mem.writeBytes 0xFF#8 [] 0x4000 deliveredBase) (0x4000 + 64 * 64 - 8) (sealBytes deliveredBase 1)

/-- The identity deconvolution remap table, M[A] = A (R233). -/
def remapReset : Mem := (List.range 255).map (fun i => (0x00783001 + i, BitVec.ofNat 8 (i + 1)))

/-- The SRAM after reset: every byte 0 but the remap table and PHASE of lamp channels 1 to 7, 32 × k (R233, R459). -/
def memReset : Mem :=
  remapReset ++ (List.range 7).map (fun k => (0x00924006 + 256 * (k + 1), BitVec.ofNat 8 (32 * (k + 1))))

/-- The block right after the release of a power-on reset, with every rail valid: Dawn is at D0 (R78, R82). -/
def Block.reset : Block where
  regs := regsReset
  mem := memReset
  rings := ringsReset
  mail := mailReset
  irq := irqReset
  power := { valid := [.vcore, .vdda, .vddphy, .vddioA, .vddioB, .vddioC, .vaon, .vdrv, .vsht] }
  valves := valvesReset
  lamps := lampsReset
  nv := { cells := deliveredCells }
  thermal := { sites := List.replicate 12 0 }

/-- The machine right after reset: nothing waits and no source is acknowledged. -/
def State.reset : State := ⟨[], {}, Block.reset⟩

end Sys2Proof.Machine
end

