-- ==== Sys2Proof/Machine/Ops.lean ====
section
/-! DEFINITION. The named operations every meaning is written over: register fields, free values, rings and records,
doorbells, interrupt messages, the fault log, mailbox queues, replies and receiver resets, and the shape of a step. -/

namespace Sys2Proof.Machine

/-! ## Register fields -/

/-- The stored word of a direct register. -/
def Block.word (b : Block) (idx : Nat) : Word := b.regs.getD idx 0#32

/-- Store a whole direct register word. -/
def Block.setWord (b : Block) (idx : Nat) (w : Word) : Block := { b with regs := b.regs.setIfInBounds idx w }

/-- The stored value of a field. -/
def Block.get (b : Block) (f : RegField) : Nat := f.get (b.word f.idx)

/-- Whether a stored field is not 0. -/
def Block.flag (b : Block) (f : RegField) : Bool := b.get f != 0

/-- Store a field. -/
def Block.set (b : Block) (f : RegField) (v : Nat) : Block := b.setWord f.idx (f.put (b.word f.idx) v)

/-- Store a one-bit field. -/
def Block.setFlag (b : Block) (f : RegField) (v : Bool) : Block := b.set f (bit v)

/-- Add to a counter field, which saturates (R11). -/
def Block.add (b : Block) (f : RegField) (n : Nat) : Block := b.set f (min f.top (b.get f + n))

/-- Add 1 to a counter field, which saturates (R11). -/
def Block.inc (b : Block) (f : RegField) : Block := b.add f 1

/-- Set bit `i` of a field whose bits are separate flags. -/
def Block.setBit (b : Block) (f : RegField) (i : Nat) : Block := b.set f (orBit (b.get f) i)

/-- Clear bit `i` of a field whose bits are separate flags. -/
def Block.clearBit (b : Block) (f : RegField) (i : Nat) : Block := b.set f (clrBit (b.get f) i)

/-- Bit `i` of a field. -/
def Block.bitAt (b : Block) (f : RegField) (i : Nat) : Bool := bitOf (b.get f) i

/-- PW_STATUS.PHASE. -/
def Block.phase (b : Block) : Nat := b.get R.PW_STATUS.PHASE

/-- A field of the register words in force at a frame's first row (R29). -/
def Frame.get (fr : Frame) (f : RegField) : Nat := f.get (fr.regs.getD f.idx 0#32)

/-! ## Free values -/

/-- The next free number (log entry 3). -/
def Block.freeNat (b : Block) : Nat × Block := (Config.freeNat b.free, { b with free := b.free + 1 })

/-- `n` free bytes (log entry 3). -/
def Block.freeBytes (b : Block) (n : Nat) : List Byte × Block :=
  ((List.range n).map (fun i => Config.freeByte (b.free + i)), { b with free := b.free + n })

/-! ## Host ports -/

/-- A host port's own state. -/
def Block.port (b : Block) (p : Port) : PortState := match p with
  | .a => b.portA
  | .b => b.portB

/-- Change a host port's own state. -/
def Block.setPort (b : Block) (p : Port) (f : PortState → PortState) : Block := match p with
  | .a => { b with portA := f b.portA }
  | .b => { b with portB := f b.portB }

/-! ## Memory of the internal address map -/

/-- `n` bytes of SRAM at an internal address. -/
def Block.bytes (b : Block) (a n : Nat) : List Byte := Mem.readBytes 0#8 b.mem a n

/-- A little-endian number of `n` bytes of SRAM (R8). -/
def Block.le (b : Block) (a n : Nat) : Nat := Mem.readLe 0#8 b.mem a n

/-- Store bytes in SRAM. -/
def Block.store (b : Block) (a : Nat) (bs : List Byte) : Block := { b with mem := Mem.writeBytes 0#8 b.mem a bs }

/-! ## Time -/

/-- The PT counts of `dt` TIME clocks at the rate in force, with what remains of the last one (R144, R166). -/
def Clock.ptCounts (x : Clock) (dt : Nat) : Nat × Nat :=
  if x.ptDen = 1 ∧ x.ptNum = 1 then (dt, x.ptRem) else ((x.ptRem + dt * x.ptNum) / x.ptDen, (x.ptRem + dt * x.ptNum) % x.ptDen)

/-- Let `dt` TIME clocks pass; press time counts while it runs (R144, R166). -/
def Block.elapse (b : Block) (dt : Nat) : Block :=
  { b with now := b.now + dt,
           clock := { b.clock with
             pt := if b.clock.ptRun then b.clock.pt + BitVec.ofNat 48 (b.clock.ptCounts dt).1 else b.clock.pt,
             ptRem := if b.clock.ptRun then (b.clock.ptCounts dt).2 else b.clock.ptRem } }

/-- TIME clocks in one microsecond. -/
def usec (n : Nat) : Nat := 100 * n

/-- TIME clocks in one millisecond. -/
def msec (n : Nat) : Nat := 100000 * n

/-! ## The interrupt controller (chapter 17) -/

/-- A source number is written to the interrupt message address; messages are accepted from the end of D0 (R566, R567,
R588). -/
def Block.message (b : Block) (src : Nat) : Block :=
  match b.irq[src]? with
  | none => b
  | some s =>
    if src = 0 ∨ b.phase = 0 then b
    else if s.pending then b.inc R.IC_STAT.COALESCED
    else { b with irq := updAt b.irq src (fun x => { x with pending := true }) }

/-- The target a source is delivered to: 3 acts as 0 (R589). -/
def IrqSource.dest (s : IrqSource) : Nat := if s.target = 3 then 0 else s.target

/-- The better of two candidate sources: the greater priority, then the lower number (R569). -/
def betterSource (best : Option (Nat × Nat)) (n prio : Nat) : Option (Nat × Nat) :=
  match best with
  | none => some (n, prio)
  | some (_, p) => if p < prio then some (n, prio) else best

/-- The highest eligible source of a target whose running priority is `run`, with its priority (R569). -/
def Block.highest (b : Block) (target run : Nat) : Option (Nat × Nat) :=
  (b.irq.toList.zipIdx).foldl (fun best p =>
    if p.1.pending && p.1.dest == target && decide (run < p.1.prio) then betterSource best p.2 p.1.prio else best) none

/-- Clear a source's pending bit. -/
def Block.clearPending (b : Block) (src : Nat) : Block :=
  { b with irq := updAt b.irq src (fun x => { x with pending := false }) }

/-- The sequencer takes and ends one source (R578). -/
def Block.seqTake (b : Block) (src : Nat) : Block :=
  let b := b.clearPending src
  if 0xC0 ≤ src ∧ src ≤ 0xDF then { b with dbSeq := b.dbSeq &&& ~~~ BitVec.ofNat 32 (2 ^ (src - 0xC0)) }
  else b.inc R.IC_STAT.SEQ_DISCARD

/-- The sequencer takes each of its eligible sources, its running priority being 0 between handlers (R578, R581). -/
def Block.seqTakeSources (b : Block) : Block :=
  ((List.range 256).filter (fun n =>
    match b.irq[n]? with
    | some s => s.pending && s.dest == 2 && decide (0 < s.prio)
    | none => false)).foldl Block.seqTake b

/-! ## Doorbells (chapter 16) -/

/-- The mask of SEQ's doorbell: bits 26 to 0 (R542). -/
def seqMask : Nat := 0x07FFFFFF

/-- Set doorbell bit `i` of a MID and send its message when its mask bit is 1 (R543). -/
def Block.doorbell (b : Block) (mid i : Nat) : Block :=
  let one := BitVec.ofNat 32 (2 ^ i)
  match mid with
  | 0 => let b := { b with dbA := b.dbA ||| one }
         if bitOf b.portA.dbMask i then b.message (0x80 + i) else b
  | 1 => let b := { b with dbB := b.dbB ||| one }
         if bitOf b.portB.dbMask i then b.message (0xA0 + i) else b
  | 2 => let b := { b with dbSeq := b.dbSeq ||| one }
         if bitOf seqMask i then b.message (0xC0 + i) else b
  | _ => b

/-! ## Rings (chapter 16) -/

/-- The ring is enabled. -/
def Ring.en (r : Ring) : Bool := R.RG_CFG.EN.get r.cfg == 1
/-- ROLE: 0 ACTION_IN, 1 EVENT_OUT, 2 LOG_OUT. -/
def Ring.role (r : Ring) : Nat := R.RG_CFG.ROLE.get r.cfg
/-- The bytes of an entry (R523). -/
def Ring.esize (r : Ring) : Nat := if R.RG_CFG.ESIZE.get r.cfg = 1 then 32 else 16
/-- The slots of the ring (R523). -/
def Ring.depth (r : Ring) : Nat := 2 ^ R.RG_CFG.DEPTH_LOG2.get r.cfg
/-- The owner's MID. -/
def Ring.owner (r : Ring) : Nat := R.RG_CFG.OWNER.get r.cfg
/-- The doorbell bit. -/
def Ring.dbBit (r : Ring) : Nat := R.RG_CFG.DB_BIT.get r.cfg
/-- The RM4410 moves both indices of a ring whose owner is a block (R528). -/
def Ring.trace (r : Ring) : Bool := decide (3 ≤ r.owner)
/-- POLICY, as it acts: a trace ring overwrites (R528). -/
def Ring.overwrites (r : Ring) : Bool := r.trace || R.RG_CFG.POLICY.get r.cfg == 1
/-- The base in force: its low bits below the ring's size act as 0 (R523). -/
def Ring.start (r : Ring) : Nat := 0x00800000 + (r.base - r.base % (r.depth * r.esize))
/-- The entries held (R524). -/
def Ring.count (r : Ring) : Nat := (r.head + r.depth - r.tail) % r.depth
/-- The ring is full (R524). -/
def Ring.full (r : Ring) : Bool := r.count == r.depth - 1
/-- The address of slot `i`. -/
def Ring.slot (r : Ring) (i : Nat) : Nat := r.start + r.esize * i

/-- Ring `k`. -/
def Block.ring (b : Block) (k : Nat) : Ring := b.rings.getD k {}

/-- Replace ring `k`. -/
def Block.setRing (b : Block) (k : Nat) (r : Ring) : Block := { b with rings := b.rings.setIfInBounds k r }

/-- The 32 bytes of a record (R532). -/
def Record.long (r : Record) (seq : Nat) : List Byte :=
  leBytes 2 r.type ++ leBytes 2 r.source ++ leBytes 4 seq ++ leBytes 6 r.pt.toNat ++ leBytes 4 r.frame ++ padTo 14 0#8 r.payload

/-- A record as a ring of the given entry size holds it (R532, R533). -/
def Record.encode (r : Record) (seq esize : Nat) : List Byte :=
  if esize = 32 then r.long seq else (r.long seq).take 14 ++ leBytes 2 r.frame

/-- Ring `k`'s doorbell, as its role sets it after a record was written (R536, R542). -/
def Block.ringBell (b : Block) (k : Nat) : Block :=
  let r := b.ring k
  if r.trace || decide (24 ≤ r.dbBit) then b
  else if r.role = 2 ∧ r.count ≠ r.depth / 2 then b
  else b.doorbell r.owner r.dbBit

/-- Write one record at HEAD and move HEAD; the record carries `tag` in bytes 4 to 7 (R532, R534, R536). -/
def Block.ringAppend (b : Block) (k tag : Nat) (rec : Record) : Block :=
  let r := b.ring k
  let b := b.store (r.slot r.head) (rec.encode tag r.esize)
  let b := b.setRing k { r with head := (r.head + 1) % r.depth, seq := (r.seq + 1) % 2 ^ 32 }
  b.ringBell k

/-- Write the LOST record of an enabled ring that dropped records, when a slot is free (R525, R537, R708). -/
def Block.flushLost (b : Block) (k : Nat) : Block :=
  let r := b.ring k
  if !r.en ∨ r.pendLost = 0 ∨ r.full then b
  else
    let lost : Record := { type := 0x0B01, source := k, pt := r.firstPt, frame := r.firstFrame,
                           payload := leBytes 4 r.pendLost ++ leBytes 4 r.firstSeq }
    (b.setRing k { r with pendLost := 0 }).ringAppend k r.seq lost

/-- The loss of one record is counted (R537, R538). -/
def Ring.lose (r : Ring) : Ring := { r with lost := min 0xFFFFFFFF (r.lost + 1), dropped := true }

/-- A record is dropped: it consumes its number, and the first one is remembered (R534, R537, R708). -/
def Ring.drop (r : Ring) (tag : Nat) (rec : Record) : Ring :=
  let r := if r.pendLost = 0 then { r with firstSeq := tag, firstPt := rec.pt, firstFrame := rec.frame } else r
  { r.lose with pendLost := r.pendLost + 1, seq := (r.seq + 1) % 2 ^ 32 }

/-- A record reaches ring `k`; `tag` replaces the ring's number in bytes 4 to 7 when given (R534 to R539). -/
def Block.ringPut (b : Block) (k : Nat) (tag : Option Nat) (rec : Record) : Block :=
  let b := b.flushLost k
  let r := b.ring k
  let n := tag.getD r.seq
  if r.full then
    if r.overwrites then (b.setRing k { r.lose with tail := (r.tail + 1) % r.depth }).ringAppend k n rec
    else b.setRing k (r.drop n rec)
  else b.ringAppend k n rec

/-- Ring `k` is enabled as an EVENT_OUT ring, so that a record may go there (R525). -/
def Block.eventRing (b : Block) (k : Nat) : Bool := (b.ring k).en && (b.ring k).role == 1

/-! ## Events and the fault log (chapters 19 and 22) -/

/-- The interrupt source an event sends, 0 where its ring's doorbell alone signals it, for the events whose source is
fixed by their code (R717). -/
def eventSource (code : Nat) : Nat :=
  if code = 0x0101 then 0x01
  else if code = 0x0102 then 0x02
  else if code = 0x0103 then 0x03
  else if code ≤ 0x0106 then 0x04
  else if code ≤ 0x0108 then 0x05
  else if code = 0x0109 then 0x06
  else if code ≤ 0x010B then 0x07
  else if code ≤ 0x010D then 0x08
  else if code ≤ 0x0113 then 0x09
  else if code = 0x0114 then 0x0A
  else if code = 0x0115 then 0
  else if code ≤ 0x0207 then 0x11
  else if code ≤ 0x020B then 0x12
  else if code ≤ 0x020F then 0x13
  else if code ≤ 0x0214 then 0x14
  else if code ≤ 0x0217 then 0x15
  else if code = 0x0301 then 0x20
  else if code = 0x0302 then 0x21
  else if code ≤ 0x0304 then 0x22
  else if code = 0x0305 then 0x23
  else if code ≤ 0x0507 then 0
  else if code ≤ 0x0509 then 0x48
  else if code ≤ 0x0609 then 0
  else if code ≤ 0x0703 then 0x49
  else if code ≤ 0x0809 then 0x0F
  else if code ≤ 0x0905 then 0x0B
  else if code ≤ 0x0908 then 0x0C
  else if code ≤ 0x0A05 then 0
  else if code ≤ 0x0A13 then 0x0E
  else if code = 0x0B02 ∨ code = 0x0B03 ∨ code = 0x0B04 then 0x0D
  else 0

/-- The event codes that are copied into the fault log (R717). -/
def faultCodes : List Nat :=
  [0x0102, 0x0103, 0x0107, 0x0108, 0x0109, 0x010B, 0x010F, 0x0110, 0x0111, 0x0113, 0x0115] ++
  [0x0201, 0x0202, 0x0203, 0x0204, 0x0205, 0x0208, 0x020D, 0x0213, 0x0216, 0x0305] ++
  [0x0501, 0x0502, 0x0503, 0x0504, 0x0505, 0x0508, 0x0509, 0x0601, 0x0602, 0x0603, 0x0604] ++
  [0x0703, 0x0807, 0x0808, 0x0809, 0x0908, 0x0A02, 0x0A03, 0x0A05, 0x0A10, 0x0A11, 0x0A12, 0x0B02]

/-- A record joins the fault log, which keeps the newest 512 (R634). -/
def Block.logAppend (b : Block) (rec : Record) : Block :=
  let log := b.nv.log ++ [{ seq := b.nv.nextSeq, entry := rec }]
  { b with nv := { b.nv with log := log.drop (log.length - 512), nextSeq := (b.nv.nextSeq + 1) % 2 ^ 32 } }

/-- The enabled LOG_OUT rings, in ascending order. -/
def Block.logRings (b : Block) : List Nat := (List.range 32).filter (fun k => (b.ring k).en && (b.ring k).role == 2)

/-- Copy a record into the fault log and into every enabled LOG_OUT ring, with its fault-log sequence (R535, R634, R715). -/
def Block.logFault (b : Block) (rec : Record) : Block :=
  b.logRings.foldl (fun x k => x.ringPut k (some b.nv.nextSeq) rec) (b.logAppend rec)

/-- Write a record to a ring, copy it into the fault log where the event table says so, then send its source (R33, R715, R717). -/
def Block.emit (b : Block) (ring irq : Nat) (rec : Record) : Block :=
  let b := b.ringPut ring none rec
  let b := if faultCodes.contains rec.type then b.logFault rec else b
  if irq = 0 then b else b.message irq

/-- A record of now, with TB_FRAME as its frame number (R532). -/
def Block.record (b : Block) (code source : Nat) (payload : List Byte) : Record :=
  { type := code, source := source, pt := b.clock.pt, frame := b.get R.TB_FRAME.FRAME, payload := payload }

/-- Report an event in ring 0, with its interrupt source as its SOURCE field (R717, log entry 6). -/
def Block.event (b : Block) (code : Nat) (payload : List Byte) : Block :=
  b.emit 0 (eventSource code) (b.record code (eventSource code) payload)

/-- Report an event in ring 0 with the SOURCE field and the interrupt source given. -/
def Block.eventFrom (b : Block) (code source irq : Nat) (payload : List Byte) : Block :=
  b.emit 0 irq (b.record code source payload)

/-! ## Mailbox channels (chapter 16) -/

/-- A booth entry that binds its channel (R545). -/
def BoothEntry.bound (e : BoothEntry) : Bool := e.en && e.midA != e.midB && decide (e.midA < 4) && decide (e.midB < 4)

/-- The MID at the other end of the channel, for an end of it (R545). -/
def BoothEntry.other (e : BoothEntry) (mid : Nat) : Option Nat :=
  if !e.bound then none else if e.midA = mid then some e.midB else if e.midB = mid then some e.midA else none

/-- Channel `c`'s booth entry in force. -/
def Block.booth (b : Block) (c : Nat) : BoothEntry := b.mail.booth.getD c {}

/-- The MID at the other end of channel `c`. -/
def Block.otherEnd (b : Block) (c mid : Nat) : Option Nat := (b.booth c).other mid

/-- Channel `c`. -/
def Block.chan (b : Block) (c : Nat) : Channel := b.mail.chans.getD c {}

/-- Replace channel `c`. -/
def Block.setChan (b : Block) (c : Nat) (ch : Channel) : Block :=
  { b with mail := { b.mail with chans := b.mail.chans.setIfInBounds c ch } }

/-- The words queued on channel `c` toward a MID, oldest first. -/
def Block.toward (b : Block) (c mid : Nat) : List Word :=
  if (b.booth c).midB = mid then (b.chan c).aToB else (b.chan c).bToA

/-- Replace the queue on channel `c` toward a MID. -/
def Block.setToward (b : Block) (c mid : Nat) (ws : List Word) : Block :=
  if (b.booth c).midB = mid then b.setChan c { b.chan c with aToB := ws } else b.setChan c { b.chan c with bToA := ws }

/-- A MID whose doorbell exists: a host or SEQ. -/
def hasDoorbell (mid : Nat) : Bool := decide (mid < 3)

/-- Words enter the queue of channel `c` toward `mid`; the first into an empty queue rings MB_RX (R551). -/
def Block.enqueue (b : Block) (c mid : Nat) (ws : List Word) : Block :=
  let q := b.toward c mid
  let b := b.setToward c mid (q ++ ws)
  if q.isEmpty && !ws.isEmpty && hasDoorbell mid then b.doorbell mid 24 else b

/-- A queue that held `was` words has lost some: one that was full rings its sender's MB_SPACE (R551). -/
def Block.spaceBell (b : Block) (sender was : Nat) : Block :=
  if was = 8 ∧ hasDoorbell sender then b.doorbell sender 25 else b

/-- `n` words leave the queue of channel `c` toward `mid` (R550, R551). -/
def Block.dequeue (b : Block) (c mid n : Nat) : Block :=
  let q := b.toward c mid
  let b' := b.setToward c mid (q.drop n)
  match b.otherEnd c mid with
  | some sender => if 0 < n then b'.spaceBell sender q.length else b'
  | none => b'

/-- What an end sees of a channel. -/
def Channel.view (ch : Channel) (mid : Nat) : EndView :=
  match mid with
  | 0 => ch.viewA
  | 1 => ch.viewB
  | _ => ch.viewSeq

/-- Change what an end sees of a channel. -/
def Channel.setView (ch : Channel) (mid : Nat) (v : EndView) : Channel :=
  match mid with
  | 0 => { ch with viewA := v }
  | 1 => { ch with viewB := v }
  | 2 => { ch with viewSeq := v }
  | _ => ch

/-- The ABORTED notice to an end that is a host or SEQ (R553). -/
def Block.abortNotice (b : Block) (c mid n : Nat) : Block :=
  if hasDoorbell mid then
    let ch := b.chan c
    (b.setChan c (ch.setView mid { ch.view mid with aborted := true, discarded := n })).doorbell mid 26
  else b

/-- One channel's part of a receiver reset of `mid` (R551, R553). -/
def Block.resetChannel (mid : Nat) (b : Block) (c : Nat) : Block :=
  match b.otherEnd c mid with
  | none => b
  | some o => ((b.setToward c mid []).abortNotice c o (b.toward c mid).length).spaceBell o (b.toward c mid).length

/-- The words a receiver reset of `mid` discards. -/
def Block.wordsToward (b : Block) (mid : Nat) : Nat :=
  ((List.range 8).map (fun c => if (b.otherEnd c mid).isSome then (b.toward c mid).length else 0)).sum

/-- A receiver reset of `mid`: 0 SEQ restart, 1 SYNC_LOSS, 2 MB_PORT_RESET as the cause (R553, R562). -/
def Block.receiverReset (b : Block) (mid cause : Nat) : Block :=
  let n := b.wordsToward mid
  let b := (List.range 8).foldl (Block.resetChannel mid) b
  b.event 0x0B02 (leBytes 1 mid ++ leBytes 1 cause ++ leBytes 1 n)

/-! ## Replies of the sequencer (chapter 16) -/

/-- The header word of a reply (R556). -/
def replyHeader (status n tag : Nat) : Word := BitVec.ofNat 32 (status * 2 ^ 24 + n * 2 ^ 16 + tag % 2 ^ 16)

/-- The host end of a command channel. -/
def Block.hostEnd (b : Block) (c : Nat) : Option Nat :=
  match b.otherEnd c 2 with
  | some m => if m < 2 then some m else none
  | none => none

/-- Let the first waiting reply of channel `c` enter its queue when it has room (R558). -/
def Block.enterReply (b : Block) (c : Nat) : Block :=
  match b.seq.waiting.find? (fun p => p.1 == c), b.hostEnd c with
  | some (_, ws), some m =>
    if (b.toward c m).length + ws.length ≤ 8 then
      { b.enqueue c m ws with seq := { b.seq with waiting := b.seq.waiting.eraseP (fun p => p.1 == c) } }
    else b
  | some _, none => { b with seq := { b.seq with waiting := b.seq.waiting.eraseP (fun p => p.1 == c) } }
  | none, _ => b

/-- Send a reply: it enters its channel's queue, or waits behind the channel's earlier replies (R556, R558). -/
def Block.reply (b : Block) (dst : ReplyTo) (status : Nat) (ws : List Nat) : Block :=
  let words := replyHeader status ws.length dst.tag :: ws.map (BitVec.ofNat 32)
  let first := !(b.seq.waiting.any (fun p => p.1 == dst.ch))
  let b := { b with seq := { b.seq with waiting := b.seq.waiting ++ [(dst.ch, words)] } }
  if first then b.enterReply dst.ch else b

/-- Send a reply that may be owed to nobody. -/
def Block.replyOpt (b : Block) (dst : Option ReplyTo) (status : Nat) (ws : List Nat) : Block :=
  match dst with
  | some r => b.reply r status ws
  | none => b

/-! ## Outputs held off, and the shape of a step -/

/-- Every valve and lamp gate off and the shutter bridge off (R6). -/
def Block.gatesOff (b : Block) : Block :=
  { b with valves := { b.valves with chans := b.valves.chans.map (fun c => { c with phase := .off, drive := .off, checking := false }) },
           lamps := { b.lamps with chans := b.lamps.chans.map (fun c => { c with gate := false, state := .off }) },
           shut := { b.shut with pulse := none, braking := false, waiting := [] } }

/-- A case of the catalogue of undefined behaviour is entered (R6, R718). -/
def Block.enterUndef (b : Block) (c : UndefCase) : Block := { b.gatesOff with undef := some c }

/-- The outputs stay off from the entry of a case until the next reset, whatever the command that entered it did (R6). -/
def Block.offWhileUndef (b : Block) : Block := if b.undef.isSome then b.gatesOff else b

/-- Press time, configuration and stacks are lost in these states (R97, R587). -/
def PowerMode.lost : PowerMode → Bool
  | .off => true
  | .inReset => true
  | .deep => true
  | .run => false
  | .idle => false
  | .nap => false

/-- A reset or an entry of DEEP empties the stacks of the interrupt targets (R587, R588). -/
def Nests.after (n : Nests) (m : PowerMode) : Nests := if m.lost then {} else n

/-- The shape of a meaning: time passes, then the block changes; after a case of the catalogue of undefined behaviour the
model stops (R6). -/
def State.run (s : State) (dt : Nat) (f : Block → Block) : Host.Outcome State Fault Refusal :=
  match s.m.undef with
  | some c => .fault (.undefinedBehaviour c)
  | none =>
    let m := (f (s.m.elapse dt)).offWhileUndef
    .next { s with m := m, nests := s.nests.after m.power.mode }

/-- A meaning that changes the nests as well. -/
def State.runNests (s : State) (dt : Nat) (f : Nests → Block → Nests × Block) : Host.Outcome State Fault Refusal :=
  match s.m.undef with
  | some c => .fault (.undefinedBehaviour c)
  | none =>
    let r := f s.nests (s.m.elapse dt)
    .next { s with m := r.2.offWhileUndef, nests := r.1.after r.2.power.mode }

/-- The host ports answer: RUN or IDLE, from the end of D0, with VDDIO_A in use (R62, R75, R80, R485). -/
def Block.portsAnswer (b : Block) : Bool :=
  (b.power.mode == .run || b.power.mode == .idle) && b.phase != 0 && b.power.valid.contains .vddioA

/-- The frames in progress are not executed: the ports stopped answering (R62, R472). -/
def Block.dropFrames (b : Block) : Block :=
  let drop := fun (x : PortState) => { x with cs := x.cs.map (fun f => { f with answered := false }), sdo := [] }
  { b with portA := drop b.portA, portB := drop b.portB }

/-- What a frame leaves on its port beside its effect: the result, and the time of its rise (R467, R472, R485). -/
def portResult (p : Port) (r : HostResult × Block) : Block :=
  r.2.setPort p (fun x => { x with lastResult := r.1, frameErr := false, lastRise := some r.2.now })

/-- The shape of a command of a host port, a frame of its own, which is not executed while the ports do not answer (R472). -/
def State.runPort (s : State) (dt : Nat) (p : Port) (f : Block → HostResult × Block) : Host.Outcome State Fault Refusal :=
  s.run dt (fun b => if b.portsAnswer then portResult p (f b) else b)

/-- The shape of a reset: it also ends the aftermath of undefined behaviour (R6), and empties every stack (R587). -/
def State.runReset (s : State) (dt : Nat) (f : Block → Block) : Host.Outcome State Fault Refusal :=
  .next { s with m := f (s.m.elapse dt), nests := {} }

end Sys2Proof.Machine
end

