-- ==== Sys2Proof/Machine/Action.lean ====
section
/-! DEFINITION. The armed-action table: entries, their records, ring entries and templates as bytes (chapter 11). -/

namespace Sys2Proof.Machine

/-- An integer quotient rounded to the nearest, ties upwards (log entry 9). -/
def roundDiv (n d : Nat) : Nat := if d = 0 then 0 else (2 * n + d) / (2 * d)

/-- A quotient; with a divisor of 0 it is a value the manual leaves open (log entry 17). -/
def quotient (a d : Rat) : Rat := if d = 0 then Config.overZero a else a / d

/-- A mean rounded to the nearest, ties upwards. -/
def meanUp (l : List Nat) : Nat := (roundUp (quotient (l.sum : Nat) l.length)).toNat

/-- The armed-table entry at an index. -/
def Block.entry (b : Block) (i : Nat) : Option ArmedEntry := (b.sched.table.find? (fun p => p.1 == i)).map (·.2)

/-- Insert an entry, keeping the table ascending by index. -/
def insertEntry (i : Nat) (e : ArmedEntry) : List (Nat × ArmedEntry) → List (Nat × ArmedEntry)
  | [] => [(i, e)]
  | (j, x) :: rest => if i < j then (i, e) :: (j, x) :: rest else if i = j then (i, e) :: rest else (j, x) :: insertEntry i e rest

/-- Put an entry at an index. -/
def Block.setEntry (b : Block) (i : Nat) (e : ArmedEntry) : Block :=
  { b with sched := { b.sched with table := insertEntry i e b.sched.table } }

/-- Free an index. -/
def Block.freeEntry (b : Block) (i : Nat) : Block :=
  { b with sched := { b.sched with table := b.sched.table.filter (fun p => p.1 != i) } }

/-- The entry with an arming sequence number. -/
def Block.entryBySeq (b : Block) (seq : Nat) : Option (Nat × ArmedEntry) := b.sched.table.find? (fun p => p.2.seq == seq)

/-- Whether all 512 entries are in use (R370). -/
def Block.tableFull (b : Block) : Bool := decide (512 ≤ b.sched.table.length)

/-- The lowest free index. -/
def Block.freeIndex (b : Block) : Nat := ((List.range 513).find? (fun i => (b.entry i).isNone)).getD 512

/-! ## Records (R368) -/

/-- The 14 payload bytes of an entry's record. -/
def ArmedEntry.payload (e : ArmedEntry) (cause : Nat) (unconfirmed redirect : Bool) : List Byte :=
  leBytes 1 e.channel ++
  leBytes 1 (e.type + 8 * bit e.baseWp + 16 * bit e.tentative + 32 * bit unconfirmed + 64 * bit e.late + 128 * bit redirect) ++
  leBytes 6 (if e.state = .held then 0 else e.tf.toNat) ++ leBytes 1 cause ++ leBytes 1 e.confirms ++
  leBytes 4 (e.index % 1024 + 4096 * e.mid)

/-- Whether an entry's record must go to ring 0: its response ring was no EVENT_OUT ring at arming, or is no longer one (R368, R707). -/
def Block.redirected (b : Block) (e : ArmedEntry) : Bool := e.redirect || !b.eventRing e.ring

/-- The frame number of an entry's records (R368). -/
def Block.recordFrame (b : Block) (e : ArmedEntry) : Nat := e.frame.getD (b.get R.TB_FRAME.FRAME)

/-- Write an entry's record with a given UNCONFIRMED flag. -/
def Block.recordFlagged (b : Block) (code : Nat) (e : ArmedEntry) (cause : Nat) (unconfirmed : Bool) : Block :=
  let r := b.redirected e
  b.emit (if r then 0 else e.ring) 0
    { type := code, source := e.tag, pt := b.clock.pt, frame := b.recordFrame e, payload := e.payload cause unconfirmed r }

/-- Write an entry's record (R368). -/
def Block.recordEntry (b : Block) (code : Nat) (e : ArmedEntry) (cause : Nat) : Block := b.recordFlagged code e cause false

/-- Write a NOTE record, or NOTE_REDIRECTED in ring 0 (R368). -/
def Block.recordNote (b : Block) (e : ArmedEntry) : Block :=
  let r := b.redirected e
  b.emit (if r then 0 else e.ring) 0
    { type := if r then 0x040D else 0x040C, source := e.tag, pt := b.clock.pt, frame := b.recordFrame e,
      payload := e.note.take 14 }

/-! ## Entries from bytes (R380) -/

/-- Resolve the response ring of an entry at arming (R368, R707). -/
def Block.resolveRing (b : Block) (e : ArmedEntry) : ArmedEntry :=
  if b.eventRing e.rsp then { e with ring := e.rsp, redirect := false } else { e with ring := 0, redirect := true }

/-- A note type: HOST_NOTE or PEER_NOTE. -/
def isNote (type : Nat) : Bool := type == 5 || type == 6

/-- A valve type. -/
def isValve (type : Nat) : Bool := decide (type < 3)

/-- The fields that a ring entry and a template share. -/
def sharedFields (bs : List Byte) : ArmedEntry :=
  let t := leField bs 1 1
  { type := t % 8, baseWp := bitOf t 3, unconf := bitOf t 5, repArmed := bitOf t 6, repFired := bitOf t 7,
    channel := leField bs 4 1 % 32, profile := leField bs 5 1 % 32, rsp := leField bs 6 1 % 32,
    leadUs := if isNote (t % 8) then 0 else min 5000 (leField bs 16 2),
    width := if isNote (t % 8) then 0 else leField bs 20 4,
    note := if isNote (t % 8) then (bs.drop 16).take 16 else [] }

/-- The confirmation count that the K field of a ring entry gives (R360). -/
def ringK (k : Nat) : Nat := if k = 0 then 1 else if 8 < k then 8 else k

/-- A ring entry as an armed-table entry, not yet aimed (R380). -/
def ringEntry (owner : Nat) (bs : List Byte) : ArmedEntry :=
  let b7 := leField bs 7 1
  { sharedFields bs with
    tentative := bitOf (leField bs 1 1) 4, tag := leField bs 2 2, k := ringK (b7 % 16), on := b7 / 16 % 4,
    tf := BitVec.ofNat 48 (leField bs 8 6), wpt := BitVec.ofNat 40 (leField bs 8 5), zone := leField bs 14 2 % 1024, mid := owner }

/-- OP of a ring entry. -/
def ringOp (bs : List Byte) : Nat := leField bs 0 1 % 4

/-- ANY_SRC of a CANCEL entry. -/
def ringAnySrc (bs : List Byte) : Bool := bitOf (leField bs 0 1) 7

/-- Whether TYPE and CHANNEL are in range (R373). -/
def rangeOk (type channel : Nat) : Bool :=
  if type < 3 then decide (channel < 16) else if type = 3 then decide (channel < 8) else if type < 7 then channel == 0 else false

/-- Template `t`'s address (R380). -/
def templateAddr (t : Nat) : Nat := 0x00920000 + 32 * t

/-! ## Aiming (R356, R358) -/

/-- What an aim finds. -/
inductive Aim
  | reached
  | held
  | at (tf : PT)
deriving DecidableEq, Repr

/-- AS_CTL.VEL_MIN as it acts (R379). -/
def Block.velMin (b : Block) : Nat := max 1 (b.get R.AS_CTL.VEL_MIN)

/-- Aim a web target from a captured press time, web position and velocity in 1/16 counts per second (R356). -/
def Block.aim (b : Block) (wpt : WP) (pt : PT) (wp : WP) (vel : Int) : Aim :=
  let rem := (wpt - wp).toNat
  if 2 ^ 39 ≤ rem then .reached
  else if (16 * b.velMin : Nat) ≤ vel then .at (pt + BitVec.ofNat 48 (roundDiv (rem * 6250000) vel.toNat))
  else .held

/-- An entry with the outcome of an aim; a reached target executes at once with the LATE flag (R356). -/
def ArmedEntry.aimed (e : ArmedEntry) (a : Aim) (pt : PT) : ArmedEntry :=
  match a with
  | .reached => { e with tf := pt, late := true }
  | .held => { e with state := .held }
  | .at tf => { e with tf := tf }

/-- The check of R358 at the arming instant: none when the entry is rejected as late. A web target that the first aim finds
reached has a fire time too, and is checked like any other. -/
def Block.arrive (b : Block) (e : ArmedEntry) : Option ArmedEntry :=
  if e.state = .held then some e
  else
    let d := ptDiff e.tf b.clock.pt
    if 0 < d then some e
    else if -d ≤ (usec (b.get R.AS_CTL.LATE_GRACE) : Nat) then some { e with late := true } else none

/-- The channels of R359: each valve and each lamp, the shutter, and each note type. -/
def ArmedEntry.lane (e : ArmedEntry) : Nat × Nat := (if isValve e.type then 0 else e.type, e.channel)

/-- Entry `x` fires before entry `y` (R359). -/
def ArmedEntry.before (x y : ArmedEntry) : Bool :=
  let d := ptDiff x.tf y.tf
  decide (d < 0) || (d == 0 && decide (x.seq < y.seq))

/-- Whether an entry's fire time has come (R357). -/
def Block.due (b : Block) (e : ArmedEntry) : Bool := e.state != .held && ptReached b.clock.pt e.tf

/-- Entry `x` must fire before entry `y`: its fire time in force is earlier, or they share a channel and it was armed earlier
(R168, R359). -/
def ArmedEntry.ahead (x y : ArmedEntry) : Bool := if x.lane = y.lane then x.before y else decide (ptDiff x.tf y.tf < 0)

/-- The entry at an index, when it is next to fire and of the type given: entries whose fire time has come, at a step of PT
several at once, fire in fire-time order (R168, R357, R359). -/
def Block.fireable (b : Block) (i type : Nat) : Option ArmedEntry :=
  match b.entry i with
  | none => none
  | some e =>
    if e.type = type ∧ b.due e ∧ b.sched.table.all (fun p => !b.due p.2 || !p.2.ahead e) then some e
    else none

/-- Sort entries by fire time in force, then arming order; HELD entries last (R359, R374). -/
def fireOrder (l : List (Nat × ArmedEntry)) : List (Nat × ArmedEntry) :=
  sortBy (fun x y => if x.2.state = .held then y.2.state == .held && decide (x.2.seq < y.2.seq)
                     else y.2.state == .held || x.2.before y.2) l

end Sys2Proof.Machine
end

