-- ==== Sys2Proof/Machine/Drive.lean ====
section
/-! DEFINITION. The valve drive's own operations: profiles, channels, banks, phases, the boost converter and refusals (chapter 12). -/

namespace Sys2Proof.Machine

/-! ## Profiles and channel parameters -/

/-- Profile `p` in a memory (R428). -/
def readProfile (m : Mem) (p : Nat) : Profile :=
  let a := 0x00922000 + 128 * p
  let f := fun o n => Mem.readLe 0#8 m (a + o) n
  let relT := f 26 2
  { openMode := bitOf (f 0 1) 0, prebias := min 30 (f 1 1), boostI := f 2 2, boostT := f 4 2, holdI := f 6 2,
    holdDuty := f 8 2 % 4096, chopF := max 10 (min 50 (f 10 1)), ditherA := min 25 (f 11 1),
    ditherF := max 25 (min 400 (f 12 2)), dead := max 20 (min 1000 (f 14 2)), ocI := f 16 2, openI := f 18 2,
    openWin := f 20 2, tcmdMin := f 22 2, relI := f 24 2, relTMax := if relT = 0 then 10000 else relT }

/-- A field of channel `n`'s parameters (R429). -/
def Block.valveParam (b : Block) (n o size : Nat) : Nat := b.le (0x00923000 + 256 * n + o) size

/-- RSHUNT in 10 µΩ (R429). -/
def Block.rshunt (b : Block) (n : Nat) : Nat := max 1 (b.valveParam n 0 2)

/-- PROT, 1 THERMAL, 2 ON_TIME, 3 BOTH (R429). -/
def Block.prot (b : Block) (n : Nat) : Nat := let p := b.valveParam n 13 1 % 4; if p = 0 then 3 else p

/-- A parameter for which 0 acts as a default (R429). -/
def orDefault (v d : Nat) : Nat := if v = 0 then d else v

/-- MAX_ON in ms (R429). -/
def Block.maxOn (b : Block) (n : Nat) : Nat := min 10000 (orDefault (b.valveParam n 14 2) 10000)

/-- The sense code of a current in mA on a shunt in 10 µΩ (R429). -/
def senseCode (i rshunt : Nat) : Nat := min 2047 (roundDiv (i * rshunt) 12207)

/-! ## Channels and banks -/

/-- Valve channel `n`. -/
def Block.valve (b : Block) (n : Nat) : ValveChannel := b.valves.chans.getD n {}

/-- Change valve channel `n`. -/
def Block.setValve (b : Block) (n : Nat) (f : ValveChannel → ValveChannel) : Block :=
  { b with valves := { b.valves with chans := updAt b.valves.chans n f } }

/-- The bank of a channel (R382). -/
def bankOf (n : Nat) : Nat := n / 4

/-- Bank `x`. -/
def Block.bank (b : Block) (x : Nat) : Bank := b.valves.banks.getD x {}

/-- Change bank `x`. -/
def Block.setBank (b : Block) (x : Nat) (f : Bank → Bank) : Block :=
  { b with valves := { b.valves with banks := updAt b.valves.banks x f } }

/-- The channels of the logical channel `n` that occupies its bank (R384). -/
def Block.members (b : Block) (n : Nat) : List Nat :=
  if (b.bank (bankOf n)).paired && (b.bank (bankOf n)).owner == some n then [n, n + 1] else [n]

/-- The logical channel a channel belongs to while its bank is occupied by it. -/
def Block.logical (b : Block) (n : Nat) : Nat :=
  if (b.bank (bankOf n)).paired && (b.bank (bankOf n)).owner == some (n - n % 2) then n - n % 2 else n

/-- Change every channel of a logical channel. -/
def Block.setLogical (b : Block) (n : Nat) (f : ValveChannel → ValveChannel) : Block :=
  (b.members n).foldl (fun b k => b.setValve k f) b

/-- Change every channel of a logical channel, each with what is its own (R413). -/
def Block.setMembers (b : Block) (n : Nat) (f : Nat → ValveChannel → ValveChannel) : Block :=
  (b.members n).foldl (fun b k => b.setValve k (f k)) b

/-- Whether channels 2k and 2k + 1 act as a pair for a command to `n`: as the bank was taken while it is held, whatever channel
holds it, else as VD_CTL.PAIR says (R397, R413). -/
def Block.pairedNow (b : Block) (n : Nat) : Bool :=
  let x := b.bank (bankOf n)
  if x.owner.isSome then bitOf x.pairs (n / 2 % 2) else b.bitAt R.VD_CTL.PAIR (n / 2)

/-- Whether the bank of `n` is PROPORTIONAL: as it was taken while it is held, else as VD_CTL.MODE says (R397). -/
def Block.proportionalNow (b : Block) (n : Nat) : Bool :=
  let x := b.bank (bankOf n)
  if x.owner.isSome then x.proportional else b.bitAt R.VD_CTL.MODE (bankOf n)

/-- A channel is latched while its VD_FAULT.CH bit is 1 (R419, R421, log entry 12). -/
def Block.latched (b : Block) (n : Nat) : Bool := b.bitAt R.VD_FAULT.CH n

/-- A bank is latched while its bit of VD_FAULT.BOOTSTRAP_UV is 1, and every bank while BOOST_UV is (R418, R420, R421). -/
def Block.bankLatched (b : Block) (x : Nat) : Bool := b.bitAt R.VD_FAULT.BOOTSTRAP_UV x || b.flag R.VD_FAULT.BOOST_UV

/-- An action on channel `n` finds it, its bank or its pair partner latched (R413, R418). -/
def Block.faulted (b : Block) (n : Nat) : Bool :=
  b.latched n || b.bankLatched (bankOf n) || (b.pairedNow n && b.latched (n + 1))

/-! ## Switches (R382, R383, R386, R407) -/

/-- The four gates that act on a coil: its own low side, and the boost, supply and freewheel switches of its bank. -/
structure Gates where
  gl : Bool
  gb : Bool
  gh : Bool
  gf : Bool
deriving DecidableEq, Repr

/-- The gates of a drive state (R382); the low-side check has GLn alone on (R386), and slow decay GLn and GFx (R407). -/
def DriveState.gates (d : DriveState) : Gates :=
  match d with
  | .off => ⟨false, false, false, false⟩
  | .lowSide => ⟨true, false, false, false⟩
  | .boost => ⟨true, true, false, false⟩
  | .on => ⟨true, false, true, false⟩
  | .freewheel => ⟨true, false, false, true⟩
  | .recovery => ⟨false, false, false, false⟩
  | .slowDecay => ⟨true, false, false, true⟩

/-- The on-time of the chop period in progress has passed: FREEWHEEL has followed ON (R390, R391). -/
def ValveChannel.chopped (c : ValveChannel) (now : Nat) : Bool := c.drive == .on && decide ((c.chopAt : Rat) + c.chopOn ≤ now)

/-- The drive state at a TIME clock. -/
def ValveChannel.driveNow (c : ValveChannel) (now : Nat) : DriveState := if c.chopped now then .freewheel else c.drive

/-- A channel enters a drive state; what it was before this clock is kept for the dead time. -/
def ValveChannel.enter (c : ValveChannel) (now : Nat) (d : DriveState) : ValveChannel :=
  { c with was := if c.driveAt = now then c.was else c.driveNow now, driveAt := now, drive := d }

/-- DEAD in ns, rounded up to 5 ns (R383). -/
def Profile.deadNs (p : Profile) : Nat := (p.dead + 4) / 5 * 5

/-- The time in ns between the switches of one drive state going off and those of the next going on: DEAD between the supply and
the freewheel switch, the larger of 100 ns and DEAD between either and the boost switch (R383). -/
def deadTime (dead : Nat) (was now : DriveState) : Nat :=
  let x := was.gates
  let y := now.gates
  if (x.gb && (y.gh || y.gf)) || (y.gb && (x.gh || x.gf)) then max 100 dead
  else if (x.gh && y.gf) || (x.gf && y.gh) then dead
  else 0

/-- The gates of a channel at a TIME clock: those of its drive state, the bank's switches after the dead time (R382, R383). -/
def ValveChannel.gates (c : ValveChannel) (now : Nat) : Gates :=
  let s : DriveState × DriveState × Rat :=
    if c.chopped now then (.freewheel, .on, (c.chopAt : Rat) + c.chopOn) else (c.drive, c.was, (c.driveAt : Rat))
  let g := s.1.gates
  if (deadTime c.profile.deadNs s.2.1 s.1 : Rat) ≤ 10 * ((now : Rat) - s.2.2) then g else { g with gb := false, gh := false, gf := false }

/-! ## The boost converter (R407 to R412) -/

/-- VD_BST_CTL.SETPOINT as it acts, in 0.1 V (R427). -/
def Block.setpoint (b : Block) : Nat := max 300 (min 650 (b.get R.VD_BST_CTL.SETPOINT))

/-- VBOOST is above its setpoint by 10 %. -/
def Block.overVoltage (b : Block) (v : Nat) : Bool := decide (11 * b.setpoint < 10 * v)

/-- Change the boost converter's state. -/
def Block.setBoost (b : Block) (f : Boost → Boost) : Block := { b with valves := { b.valves with boost := f b.valves.boost } }

/-- The ramp of the target is still on its way: 10 ms from the start (R411). -/
def Block.softStart (b : Block) : Bool := b.valves.boost.running && decide (b.now < b.valves.boost.startedAt + msec 10)

/-- The target of the converter in 0.1 V: SETPOINT, or what the ramp from VBAT has come to (R411). -/
def Block.boostTarget (b : Block) : Rat :=
  let x := b.valves.boost
  if b.softStart then x.vstart + ((b.setpoint : Rat) - x.vstart) * (b.now - x.startedAt : Nat) / msec 10 else b.setpoint

/-- VD_BST_CTL.HYST in 0.1 V (R427). -/
def Block.boostHyst (b : Block) : Nat := 5 * b.get R.VD_BST_CTL.HYST

/-- A lead-in runs and asks for a top-up of VBOOST (R385, R389). -/
def Block.topUp (b : Block) : Bool := b.valves.chans.toList.any (fun c => c.phase == .leadin)

/-- The converter regulates on the VBOOST measured last: it switches from SETPOINT − HYST on until the target is reached, and
during a lead-in whenever VBOOST is below the target (R389, R409). -/
def Block.regulate (b : Block) : Block :=
  let x := b.valves.boost
  let below := decide ((x.vboost : Rat) < b.boostTarget)
  let low := decide ((x.vboost : Rat) ≤ b.boostTarget - b.boostHyst)
  b.setBoost (fun k => { k with pumping := x.running && below && (x.pumping || low || b.topUp) })

/-- How BST_GATE switches now: frequency in kHz and peak limit in mV across BST_CSP and BST_CSN, the full limit in a top-up too;
none while it does not switch (R389, R409, R427). -/
def Block.boostDrive (b : Block) : Option (Nat × Nat) :=
  if b.valves.boost.pumping then some (100 + 25 * b.get R.VD_BST_CTL.FREQ, max 1 (b.get R.VD_BST_CTL.ILIM)) else none

/-- Start or stop the converter as BST_EN and the drive blocks say (R409, R411). -/
def Block.boostSync (b : Block) : Block :=
  let want := b.valves.running && b.flag R.VD_CTL.BST_EN
  let x := b.valves.boost
  if want then
    if x.running || x.ovStop then b
    else (b.setBoost (fun x => { x with running := true, startedAt := b.now, vstart := x.vbat, uvArmed := false })).regulate
  else b.setBoost (fun x => { x with running := false, ovStop := false, uvArmed := false, pumping := false })

/-- VBOOST exceeds its setpoint by 10 % while the converter runs: it stops, with BOOST_OV, whatever else the excursion causes
(R407, R412). -/
def Block.boostOver (b : Block) : Block :=
  if b.valves.boost.running ∧ b.overVoltage b.valves.boost.vboost then
    (b.setBoost (fun k => { k with running := false, ovStop := true, pumping := false })).event 0x0508 (leBytes 2 b.valves.boost.vboost)
  else b

/-- A bank in RELEASE switches to slow decay; the event is one of the releasing channel (R407, R422, log entry 82). -/
def Block.fallback (b : Block) (x : Nat) : Block :=
  match (b.bank x).owner with
  | none => b
  | some n =>
    if (b.valve n).phase = .release then
      let b := b.setLogical n (fun c => { c.enter b.now .slowDecay with phase := .slowDecay })
      let b := b.setBank x (fun k => { k with fallback := true })
      b.eventFrom 0x0505 (0x30 + n) (0x30 + n) (leBytes 1 x ++ leBytes 2 b.valves.boost.vboost)
    else b

/-- VBOOST is measured as `v`, in 0.1 V: above the setpoint by 10 % the converter stops and every RELEASE falls back to slow
decay; below the setpoint one that had stopped restarts, where it left off; and it regulates on what it sees (R407, R409,
R412, log entry 185). -/
def Block.boostSense (b : Block) (v : Nat) : Block :=
  let b := (b.setBoost (fun k => { k with vboost := v })).boostOver
  let b := if b.overVoltage v then ([0, 1, 2, 3] : List Nat).foldl Block.fallback b else b
  let b := if b.valves.boost.ovStop ∧ v < b.setpoint then
      (b.setBoost (fun k => { k with ovStop := false, running := true })).event 0x0509 (leBytes 2 v)
    else b
  b.regulate

/-! ## Hold regulation (R390 to R394) -/

/-- The sense code of a current on a channel, with the shunt its phase began with (R429). -/
def ValveChannel.code (c : ValveChannel) (i : Nat) : Nat := senseCode i c.rshunt

/-- The hold setpoint in mA at the setpoint scale in force (R396). -/
def ValveChannel.holdSetpoint (c : ValveChannel) : Rat := (c.profile.holdI * c.scale : Nat) / 4095

/-- The dither's triangle wave at a TIME clock: 0 rising when HOLD begins (R392). -/
def ditherWave (ditherF elapsed : Nat) : Rat :=
  let p : Rat := (elapsed * ditherF % 100000000 : Nat) / 100000000
  if p < 1 / 4 then 4 * p else if p < 3 / 4 then 2 - 4 * p else 4 * p - 4

/-- The factor the dither puts on the setpoint or the duty in HOLD (R392). -/
def ValveChannel.dither (c : ValveChannel) (now : Nat) : Rat :=
  if c.profile.ditherA = 0 then 1 else 1 + (c.profile.ditherA : Rat) / 100 * ditherWave c.profile.ditherF (now - c.holdAt)

/-- The current that the chop regulates to, in mA (R390, R392, R396). -/
def ValveChannel.chopSetpoint (c : ValveChannel) (now : Nat) : Rat :=
  if c.phase = .leadin then (c.profile.holdI * c.profile.prebias : Nat) / 100 else c.holdSetpoint * c.dither now

/-- The sense code of the setpoint, as every mA threshold of the drive has one (R429). -/
def ValveChannel.setpointCode (c : ValveChannel) (now : Nat) : Nat :=
  (clampInt 0 2047 (roundUp (c.chopSetpoint now * c.rshunt / 12207))).toNat

/-- The chop period in units of 10 ns (R390). -/
def ValveChannel.chopPeriod (c : ValveChannel) : Rat := 100000 / (c.profile.chopF : Rat)

/-- Whether a chop period starts in FREEWHEEL because the current is above the setpoint (R390). -/
def ValveChannel.above (c : ValveChannel) (now current : Nat) : Bool := decide (c.setpointCode now < c.code current)

/-- The on-time of an OPEN period and the debt carried, from t_req = requested on-time + D (R393); times in 10 ns. -/
def openPeriod (policy : Nat) (period req debt dead tmin : Rat) : Rat × Rat :=
  let t := req + debt
  let clamp := fun (d : Rat) => max (-period) (min period d)
  if t < dead + tmin then
    if policy = 1 then (tmin, 0) else (0, if policy = 0 then clamp t else 0)
  else if period - t < tmin then (period, if policy = 0 then clamp (t - period) else 0)
  else (t, 0)

/-- A chop period starts with an on-time of `on`, FREEWHEEL following, or with none (R382). -/
def ValveChannel.startPeriod (c : ValveChannel) (now : Nat) (on : Rat) : ValveChannel :=
  { c.enter now (if on ≤ 0 then .freewheel else .on) with
    chopAt := now, chopOn := on, fullOn := if c.chopPeriod ≤ on then c.fullOn + 1 else 0 }

/-- 32 consecutive periods were entirely in ON: the next one has an off-time of TMIN (R394). -/
def ValveChannel.refreshDue (c : ValveChannel) : Bool := decide (32 ≤ c.fullOn)

/-- The off-time of the refresh is carried as debt under DEBT, within one period (R393, R394). -/
def ValveChannel.refreshDebt (c : ValveChannel) : ValveChannel :=
  { c with debt := if c.policy = 0 then max (-c.chopPeriod) (min c.chopPeriod (c.debt + c.tmin)) else c.debt }

/-- One chop period in OPEN hold (R391 to R394). -/
def ValveChannel.openChop (c : ValveChannel) (now : Nat) : ValveChannel :=
  if c.refreshDue then c.refreshDebt.startPeriod now (c.chopPeriod - c.tmin)
  else
    let req := (c.profile.holdDuty * c.scale : Nat) / (4095 * 4095 : Rat) * c.dither now * c.chopPeriod
    let r := openPeriod c.policy c.chopPeriod req c.debt ((c.profile.dead : Rat) / 10) c.tmin
    { c with debt := r.2 }.startPeriod now r.1

/-- One chop period regulated to the peak current: in FREEWHEEL when the current is above the setpoint at its start, else in ON
until the setpoint is reached, `reach` after the start (none: not in this period), the first 0.5 µs blanked (R390, R394). -/
def ValveChannel.peakChop (c : ValveChannel) (now current : Nat) (reach : Option Nat) : ValveChannel :=
  if c.above now current then c.startPeriod now 0
  else
    let cap := if c.refreshDue then c.chopPeriod - c.tmin else c.chopPeriod
    let on := match reach with
      | some t => min cap (max 50 t : Nat)
      | none => cap
    (if c.refreshDue then c.refreshDebt else c).startPeriod now on

/-- One chop period of a channel; a proportional hold at 0 spends it in FREEWHEEL (R390, R391, R396). -/
def ValveChannel.chop (c : ValveChannel) (now current : Nat) (reach : Option Nat) : ValveChannel :=
  if c.phase = .hold ∧ c.level ∧ c.scale = 0 then c.startPeriod now 0
  else if c.phase = .hold ∧ c.profile.openMode then c.openChop now
  else c.peakChop now current reach

/-- Another channel's chop period, for the channel that chops with it (R413). -/
def ValveChannel.takeChop (c x : ValveChannel) : ValveChannel :=
  { c with drive := x.drive, was := x.was, driveAt := x.driveAt, chopAt := x.chopAt, chopOn := x.chopOn, fullOn := x.fullOn, debt := x.debt }

/-- A chop period of the logical channel `n` starts: a pair chops as one, on the sum of its currents (R413). -/
def Block.chopLogical (b : Block) (n current : Nat) (reach : Option Nat) : Block :=
  let x := (b.valve n).chop b.now current reach
  b.setLogical n (fun c => c.takeChop x)

/-- The current of a logical channel, the sum of what its channels sense, in mA (R413). -/
def Block.sensed (b : Block) (n : Nat) : Nat := ((b.members n).map (fun k => (b.valve k).iMeas.toNat)).sum

/-- A current of the logical channel `n` is measured; the sum of a pair is no channel's own (log entry 186). -/
def Block.measured (b : Block) (n current : Nat) : Block :=
  if (b.members n).length = 1 then b.setValve n (fun c => { c with iMeas := current }) else b

/-- The switches of the phase in progress of the logical channel `n` turn on (R382, R386). -/
def Block.switchOn (b : Block) (n current : Nat) (reach : Option Nat) : Block :=
  if (b.valve n).phase = .boost then b.setLogical n (fun c => c.enter b.now .boost) else b.chopLogical n current reach

/-! ## Phases (R385 to R408) -/

/-- RELEASE starts on a logical channel: recovery, or slow decay while VBOOST is too high (R385, R406, R407). -/
def Block.startRelease (b : Block) (n : Nat) : Block :=
  let b := b.setLogical n (fun c =>
    { c.enter b.now .recovery with phase := .release, checking := false, cmdEnd := none, releaseAt := b.now, chopOn := 0 })
  let b := b.setBank (bankOf n) (fun k => { k with fallback := false })
  if b.overVoltage b.valves.boost.vboost then b.boostOver.fallback (bankOf n) else b

/-- The drive fields of channel `k` and a profile, read when a first drive phase of the logical channel `n` begins: each channel of
a pair has its own shunt and short limit, and the pair chops as one, as channel 2k says (R39, R413, R429). -/
def Block.readDrive (b : Block) (n k profile : Nat) (c : ValveChannel) : ValveChannel :=
  let pol := b.valveParam n 13 1 / 4 % 4
  { c with profile := readProfile b.mem profile, rshunt := b.rshunt k, shortI := b.valveParam k 18 2,
           policy := if pol = 3 then 0 else pol, tmin := max 50 (min 5000 (orDefault (b.valveParam n 16 2) 200)) }

/-- A logical channel takes its free bank (R397, R399). -/
def Block.takeBank (b : Block) (n : Nat) : Block :=
  b.setBank (bankOf n) (fun k => { k with
    owner := some n, proportional := b.bitAt R.VD_CTL.MODE (bankOf n), paired := n % 2 == 0 && b.bitAt R.VD_CTL.PAIR (n / 2),
    pairs := b.get R.VD_CTL.PAIR / 4 ^ bankOf n % 4 })

/-- The low-side check of a logical channel starts (R386). -/
def Block.startCheck (b : Block) (n : Nat) (next : ValvePhase) : Block :=
  b.setLogical n (fun c => { c.enter b.now .lowSide with phase := next, next := next, checking := true, checkAt := b.now })

/-- The phase that a command starts with: HOLD when the profile has no BOOST phase (R387). -/
def Profile.first (p : Profile) : ValvePhase := if p.boostT = 0 then .hold else .boost

/-- The command length of a pulse in µs, at least TCMD_MIN (R388). -/
def Profile.length (p : Profile) (width : Nat) : Nat := max width p.tcmdMin

/-- The command of an entry begins on a channel: its length, its owner and its setpoint (R385, R388, R396, R400, R417). -/
def beginCommand (now : Nat) (e : ArmedEntry) (c : ValveChannel) : ValveChannel :=
  let level := e.type == 1
  { c with owner := e.seq, boostAt := now, holdAt := now, debt := 0, fullOn := 0, level := level,
           scale := if level then e.width % 4096 else 4095,
           cmdEnd := if level then none else some (now + usec (c.profile.length e.width)) }

/-- A short pulse is extended: its record and its count (R388). -/
def Block.reportExtended (b : Block) (n : Nat) (e : ArmedEntry) : Block :=
  if e.type = 0 ∧ e.width < (b.valve n).profile.tcmdMin then (b.recordEntry 0x0507 e 0).inc R.VD_COUNT.EXTENDED else b

/-- A command starts from OFF on a bank it has just taken, with the low-side check (R385 to R387). -/
def Block.startCommand (b : Block) (n : Nat) (e : ArmedEntry) : Block :=
  let b := b.setMembers n (fun k c => beginCommand b.now e (b.readDrive n k e.profile c))
  (b.startCheck n (b.valve n).profile.first).reportExtended n e

/-- A command replaces what runs on its channel at once, with no RELEASE and no new check (R385, R402, R403); `fresh` says
that the entry reads its profile now. A HOLD that starts so takes the current measured last for its first period, which is in ON
throughout unless that is above the setpoint (log entry 187). -/
def Block.restartCommand (b : Block) (n : Nat) (e : ArmedEntry) (fresh : Bool) : Block :=
  let b := b.setMembers n (fun k c => beginCommand b.now e (if fresh then b.readDrive n k e.profile c else c))
  let b := b.setLogical n (fun c => { c with phase := c.profile.first, next := c.profile.first })
  let b := if (b.members n).any (fun k => (b.valve k).checking) then b else b.switchOn n (b.sensed n) none
  b.reportExtended n e

/-- A lead-in starts on a bank it has just taken, and asks for a top-up of VBOOST (R361, R385, R386, R389). -/
def Block.startLeadin (b : Block) (n : Nat) (e : ArmedEntry) : Block :=
  let b := b.setMembers n (fun k c =>
    { b.readDrive n k e.profile c with owner := e.seq, debt := 0, fullOn := 0, level := false, scale := 4095, cmdEnd := none })
  let b := (b.startCheck n .leadin).regulate
  match b.entryBySeq e.seq with
  | some (i, x) =>
    let x := { x with state := .leadin, spent := false }
    (b.setEntry i x).recordEntry 0x0406 x 0
  | none => b

/-! ## Refusals and bank arbitration (R398, R401, R418) -/

/-- Why the drive refuses a valve action, tested in the order DISABLED, FAULT, PAIRED, MODE, THERMAL; a pair is
THERMAL while either channel is tripped (R413, R416, R418, log entries 13 and 83). -/
def Block.refusal (b : Block) (e : ArmedEntry) : Option Nat :=
  let n := e.channel
  if !b.bitAt R.VD_CTL.BANK_EN (bankOf n) then some 22
  else if b.faulted n then some 21
  else if n % 2 == 1 && b.pairedNow n then some 19
  else if (e.type == 0 && b.proportionalNow n) || (e.type == 1 && !b.proportionalNow n) then some 18
  else if (b.valve n).tripped || (b.pairedNow n && (b.valve (n + 1)).tripped) then some 20
  else none

/-- A refused valve action: its record and its count (R418). -/
def Block.refuseValve (b : Block) (e : ArmedEntry) (cause : Nat) : Block :=
  (b.recordEntry 0x0506 e cause).inc R.VD_COUNT.REFUSED

/-- A lead-in that does not start: the entry stays armed (R401). -/
def Block.skipLeadin (b : Block) (e : ArmedEntry) : Block :=
  match b.entryBySeq e.seq with
  | some (i, x) => b.setEntry i { x with leadDone := true }
  | none => b

/-- The order of requests that wait on one bank (R398). -/
def BankRequest.before (x y : BankRequest) : Bool :=
  decide (x.due < y.due) || (x.due == y.due && x.entry.before y.entry)

/-- A request waits for its bank (R398). -/
def Block.waitBank (b : Block) (e : ArmedEntry) (leadin : Bool) : Block :=
  b.setBank (bankOf e.channel) (fun k =>
    { k with waiting := insertBy BankRequest.before { entry := e, due := b.now, leadin := leadin } k.waiting })

/-- Start what a request asks for, on a bank that is free. -/
def Block.startRequest (b : Block) (e : ArmedEntry) (leadin : Bool) : Block :=
  let b := b.takeBank e.channel
  if leadin then b.startLeadin e.channel e else b.startCommand e.channel e

/-- A request that finds its bank free takes it, or waits (R398). -/
def Block.request (b : Block) (e : ArmedEntry) (leadin : Bool) : Block :=
  let k := b.bank (bankOf e.channel)
  if k.owner.isNone && k.waiting.isEmpty then b.startRequest e leadin else b.waitBank e leadin

/-- Whether a waiting request may still start: its channel is not latched, tripped or disabled (R416, R418, R419). -/
def Block.grantRefusal (b : Block) (r : BankRequest) : Option Nat := b.refusal r.entry

/-- Grant a free bank to the oldest waiting requests in turn until one takes it (BANK_GRANT, R398). -/
def Block.grantAll : List BankRequest → Nat → Block → Block
  | [], _, b => b
  | r :: rest, x, b =>
    let b := b.setBank x (fun k => { k with waiting := rest })
    match b.grantRefusal r with
    | none => b.startRequest r.entry r.leadin
    | some c => Block.grantAll rest x (if r.leadin then b.skipLeadin r.entry else b.refuseValve r.entry c)

/-- Grant bank `x` when it is free and the drive runs. -/
def Block.grant (b : Block) (x : Nat) : Block :=
  if (b.bank x).owner.isNone && b.valves.running then Block.grantAll (b.bank x).waiting x b else b

/-- A bank is free: its logical channel is OFF (R399). -/
def Block.freeBank (b : Block) (n : Nat) : Block :=
  let b := b.setLogical n (fun c =>
    { c.enter b.now .off with phase := .off, checking := false, cmdEnd := none, chopOn := 0, iMeas := 0 })
  b.setBank (bankOf n) (fun k => { k with owner := none, paired := false, pairs := 0, proportional := false })

/-- Ramp a lead-in down in RELEASE, or withdraw one that still waits for its bank (R364, R371, R374, R408). -/
def Block.rampDown (b : Block) (e : ArmedEntry) : Block :=
  let x := bankOf e.channel
  let b := b.setBank x (fun k => { k with waiting := k.waiting.filter (fun r => !(r.leadin && r.entry.seq == e.seq)) })
  if e.state = .leadin ∧ !e.spent ∧ (b.valve e.channel).phase = .leadin ∧ (b.valve e.channel).owner = e.seq then
    b.startRelease e.channel
  else b

/-! ## Latching faults (R419, R420) -/

/-- A channel latches: every switch of it off, its bit and its cause set, its VALVE_FAULT record (R419, R422). -/
def Block.latchOne (cause current : Nat) (b : Block) (n : Nat) : Block :=
  if b.latched n then b
  else
    let own := (b.bank (bankOf n)).owner == some (b.logical n)
    let b := b.setValve n (fun c => { c.enter b.now (if c.phase = .off then c.drive else .recovery) with
      phase := .off, checking := false, cmdEnd := none, chopOn := 0, cause := cause, iMeas := current })
    let b := if own then b.setBank (bankOf n) (fun k => { k with owner := none, paired := false, pairs := 0, proportional := false }) else b
    let b := b.setBit R.VD_FAULT.CH n
    b.eventFrom 0x0501 (0x30 + n) (0x30 + n) (leBytes 1 n ++ leBytes 1 cause ++ leBytes 2 current)

/-- The requests of a latched channel that still wait are refused with cause FAULT (R419). -/
def Block.refuseWaiting (b : Block) (n : Nat) : Block :=
  let k := b.bank (bankOf n)
  let gone := k.waiting.filter (fun r => r.entry.channel == n && !r.leadin)
  let b := b.setBank (bankOf n) (fun k => { k with waiting := k.waiting.filter (fun r => !(r.entry.channel == n && !r.leadin)) })
  gone.foldl (fun b r => b.refuseValve r.entry 21) b

/-- The code of a channel's phase (R427): latched and tripped channels show 7 and 6. -/
def Block.phaseCode (b : Block) (n : Nat) : Nat :=
  if b.latched n then 7
  else match (b.valve n).phase with
    | .off => if (b.valve n).tripped then 6 else 0
    | .leadin => 1
    | .boost => 2
    | .hold => 3
    | .release => 4
    | .slowDecay => 5

/-- Stop the valve drive: every channel that drives goes to RELEASE, and the converter stops (R425). -/
def Block.stopValves (b : Block) : Block :=
  let b := { b with valves := { b.valves with running := false } }
  let b := ([0, 1, 2, 3] : List Nat).foldl (fun b x =>
    match (b.bank x).owner with
    | some n => if (b.valve n).phase = .release ∨ (b.valve n).phase = .slowDecay then b else b.startRelease n
    | none => b) b
  b.boostSync

/-- Start the valve drive (R424, R425). -/
def Block.startValves (b : Block) : Block := { b with valves := { b.valves with running := true } }.boostSync

end Sys2Proof.Machine
end

