-- ==== Sys2Proof/Machine/Sched.lean ====
section
/-! DEFINITION. The action scheduler: arming, confirming, cancelling, evicting, flushing, re-aiming, firing and draining,
and the meanings of ARM, CANCEL, CONFIRM, DRAIN_RESUME, HOST_NOTE and PEER_NOTE (chapter 11). -/

namespace Sys2Proof.Machine

/-! ## Ends of an entry -/

/-- A tentative entry is cancelled: any lead-in ramps down, and CANCEL or LEADIN_CANCEL is written and counted (R364). -/
def Block.cancelEntry (b : Block) (e : ArmedEntry) (cause : Nat) : Block :=
  let b := (b.rampDown e).freeEntry e.index
  if e.state = .leadin then (b.recordEntry 0x0407 e cause).inc R.AS_CANCEL_CNT.LEADIN_CANCELS
  else (b.recordEntry 0x0405 e cause).inc R.AS_CANCEL_CNT.CANCELS

/-- An entry is flushed (R374): cause 8 DUSK, 9 SLEEP or 10 CHANNEL_FAULT. -/
def Block.flushEntry (cause : Nat) (b : Block) (e : ArmedEntry) : Block :=
  ((b.rampDown e).freeEntry e.index).recordEntry 0x040A e cause

/-- Flush the entries that a test picks, in fire-time order (R374). -/
def Block.flushWhere (b : Block) (cause : Nat) (p : ArmedEntry → Bool) : Block :=
  ((fireOrder (b.sched.table.filter (fun x => p x.2))).map (·.2)).foldl (Block.flushEntry cause) b

/-- Flush the armed valve entries of a channel that latched a fault (R374, R419). -/
def Block.flushValve (b : Block) (n : Nat) : Block := b.flushWhere 10 (fun e => isValve e.type && e.channel == n)

/-- Admission stops and everything armed is flushed (Dusk step 1, sleep step S1; R374, R377). -/
def Block.closeAdmission (b : Block) (cause : Nat) : Block :=
  let b := { b with sched := { b.sched with admitting := false, dawnOnly := false, offer := none } }
  b.flushWhere cause (fun _ => true)

/-- The tentative entry with the latest fire time, ties to the latest armed; a HELD entry counts as latest (R371). -/
def Block.evictable (b : Block) : Option ArmedEntry :=
  ((fireOrder (b.sched.table.filter (fun x => x.2.tentative))).map (·.2)).getLast?

/-- An entry is evicted: its lead-in ramps down and EVICTED is written (R371). -/
def Block.evict (b : Block) (e : ArmedEntry) : Block :=
  (((b.rampDown e).freeEntry e.index).recordEntry 0x0408 e 0 |>.inc R.AS_DROP_CNT.EVICTED).setFlag R.AS_STATUS.EVICTED true

/-- A binding entry is dropped (R371). -/
def Block.dropEntry (b : Block) (e : ArmedEntry) : Block :=
  (b.recordEntry 0x0409 e 0 |>.inc R.AS_DROP_CNT.DROPPED).setFlag R.AS_STATUS.DROPPED true

/-! ## Arming -/

/-- Count one confirmation; the record is written when the count reaches K (R360). -/
def Block.confirmEntry (b : Block) (i : Nat) : Block :=
  match b.entry i with
  | none => b
  | some e =>
    let e := { e with confirms := min 255 (e.confirms + 1), seen := true }
    let b := b.setEntry i e
    if e.confirms = e.k then b.recordEntry 0x0403 e 0 else b

/-- Put an entry into a free place of the table and write its first record (R352, R368). -/
def Block.enterTable (b : Block) (e : ArmedEntry) : Block :=
  let i := b.freeIndex
  let e := { e with index := i, seq := b.sched.seq }
  let b := { b.setEntry i e with sched := { (b.setEntry i e).sched with
    seq := b.sched.seq + 1, peak := max b.sched.peak (b.sched.table.length + 1) } }
  if e.tentative then b.recordEntry 0x0402 e 0 else if e.repArmed then b.recordEntry 0x0401 e 0 else b

/-- A REJECTED record (R355, R358, R366, R375): cause 4 LATE, 5 RANGE, 6 NO_MATCH, 7 FULL. -/
def Block.reject (b : Block) (e : ArmedEntry) (cause : Nat) : Block := b.recordEntry 0x040B e cause

/-- Arm a host entry that the drain took, its table place being free (R356, R358, R360, R373). -/
def Block.armHost (b : Block) (op : Nat) (e : ArmedEntry) : Block :=
  let e := b.resolveRing e
  if op = 3 ∨ !rangeOk e.type e.channel ∨ (e.tentative ∧ e.zone ≠ 0x3FF ∧ e.on = 0) then b.reject e 5
  else
    let e := if e.baseWp then e.aimed (b.aim e.wpt b.sched.ptK b.sched.wpK b.sched.vel) b.sched.ptK else e
    match b.arrive e with
    | none => b.reject e 4
    | some e => b.enterTable e

/-- Arm a binding's or the sequencer's entry, evicting or dropping when the table is full (R371). -/
def Block.armBinding (b : Block) (e : ArmedEntry) : Block :=
  match b.arrive e with
  | none => b.reject e 4
  | some e =>
    if !b.tableFull then b.enterTable e
    else if e.tentative then b.dropEntry e
    else match b.evictable with
      | some v => (b.evict v).enterTable e
      | none => b.dropEntry e

/-- The sequencer's SHUTTER entry enters, evicts, or is kept to be offered at the next tick (R371, R372, R377). -/
def Block.offerShutter (b : Block) (e : ArmedEntry) : Block :=
  if !(b.sched.admitting || b.sched.dawnOnly) then { b with sched := { b.sched with offer := some e } }
  else
    let b := { b with sched := { b.sched with offer := none } }
    if !b.tableFull then b.enterTable e
    else match b.evictable with
      | some v => (b.evict v).enterTable e
      | none => { b with sched := { b.sched with offer := some e } }

/-- A shutter pulse of the sequencer, for now: MID 2, TAG 0, its records to ring 0 (R36, R352, log entry 14). -/
def Block.seqShutter (b : Block) (width : Nat) : Block :=
  b.offerShutter (b.resolveRing { type := 4, width := width, tf := b.clock.pt, mid := 2 })

/-! ## Re-aim at a tick (R356, R365, R372) -/

/-- Re-aim one armed WP entry. -/
def Block.reaimEntry (b : Block) (p : Nat × ArmedEntry) : Block :=
  match b.entry p.1 with
  | none => b
  | some e =>
    if !e.baseWp then b
    else match b.aim e.wpt b.sched.ptK b.sched.wpK b.sched.vel with
      | .held =>
        let led := e.state == .leadin && !e.spent
        let b := (b.rampDown e).setEntry p.1 { e with state := .held }
        if led then (b.recordEntry 0x0407 { e with state := .held } 3).inc R.AS_CANCEL_CNT.LEADIN_CANCELS else b
      | .reached => b.setEntry p.1 { e with tf := b.sched.ptK, late := true, state := if e.state = .held then .armed else e.state }
      | .at tf => b.setEntry p.1 { e with tf := tf, state := if e.state = .held then .armed else e.state }

/-- Re-aim every armed WP entry from the values captured at the tick, and offer a waiting SHUTTER entry again. -/
def Block.reaim (b : Block) : Block :=
  let b := b.sched.table.foldl Block.reaimEntry b
  match b.sched.offer with
  | some e => b.offerShutter e
  | none => b

/-! ## Firing (R357 to R364) -/

/-- The entry is freed and its FIRED record written where one is due (R368). -/
def Block.fired (b : Block) (e : ArmedEntry) : Block :=
  let unconfirmed := e.tentative && decide (e.confirms < e.k)
  let b := b.freeEntry e.index
  if e.repFired || unconfirmed || e.late then b.recordFlagged 0x0404 e 0 unconfirmed else b

/-- At its fire time the entry at index `i` fires, and `f` is what its block does with it; or it is cancelled unconfirmed (R363). -/
def Block.fireWith (b : Block) (i type : Nat) (f : ArmedEntry → Block → Block) : Block :=
  match b.fireable i type with
  | none => b
  | some e =>
    if e.tentative && decide (e.confirms < e.k) && !e.unconf then b.cancelEntry e 2 else f e (b.fired e)

/-! ## The drain (R353, R366, R370) -/

/-- Ring `k` is drained and holds an entry (R353). -/
def Block.drainOffers (b : Block) (k : Nat) : Bool :=
  let r := b.ring k
  b.bitAt R.AS_DRAIN.MASK k && r.en && r.role == 0 && r.esize == 32 && r.count != 0

/-- The ring that the drain takes its next entry from: the rings are visited in ascending number, one entry per visit (R353, log
entry 182). -/
def Block.drainRing (b : Block) : Option Nat := ((List.range 32).map (fun i => (b.sched.visit + i) % 32)).find? b.drainOffers

/-- The oldest frame in flight must be published in this clock: 40 µs have passed since the later of its zone close and the tick
after its own (R128). -/
def Block.publicationDue (b : Block) : Bool :=
  match b.img.frames with
  | [] => false
  | fr :: _ =>
    let next := b.get R.TB_FRAME.FRAME == (fr.n + 1) % 2 ^ 32
    fr.closed && fr.published && b.get R.TB_FRAME.FRAME != fr.n &&
    decide ((if next then max fr.closedAt b.clock.lastTick else fr.closedAt) + usec 40 ≤ b.now)

/-- Zone bindings offer entries in this clock, those of a publication that is due or of one that was made, one per CORE clock of a
quarter TIME clock: they go first (R38, R338, R353, log entry 183). -/
def Block.bindingsOffer (b : Block) : Bool := b.publicationDue || decide (b.now < b.sched.bindEnd)

/-- 250 ns have passed since the drain took its last entry (R353). -/
def Block.drainPaced (b : Block) : Bool := match b.sched.drainAt with
  | some t => decide (t + 25 ≤ b.now)
  | none => true

/-- The drain may take the entry at the TAIL of ring `k` (R38, R353, R370, R377). -/
def Block.drainable (b : Block) (k : Nat) : Bool :=
  b.flag R.AS_CTL.DRAIN_EN && b.drainRing == some k && b.drainPaced && b.sched.admitting && !b.tableFull && !b.bindingsOffer

/-- The entry at the TAIL of a ring, as it stands in ring SRAM (R531). -/
def Block.ringTailEntry (b : Block) (k : Nat) : List Byte := b.bytes ((b.ring k).slot (b.ring k).tail) 32

/-- The drain advances the ring's read index, rings its doorbell when it leaves it empty, and goes on to the next ring (R353,
R536). -/
def Block.advanceTail (b : Block) (k : Nat) : Block :=
  let r := b.ring k
  let r := { r with tail := (r.tail + 1) % r.depth }
  let b := { b with sched := { b.sched with visit := (k + 1) % 32, drainAt := some b.now } }.setRing k r
  if r.count = 0 ∧ r.dbBit < 24 then b.doorbell r.owner r.dbBit else b

/-- Take the entry at the TAIL of ring `k` when its OP is one of those given, and apply it. -/
def Block.drainWith (b : Block) (k : Nat) (ops : List Nat) (f : List Byte → Block → Block) : Block :=
  let bs := b.ringTailEntry k
  if b.drainable k && ops.contains (ringOp bs) then (f bs b).advanceTail k else b

/-- Apply a CANCEL entry to the entries whose fire time is still to come (R364, R366). -/
def Block.applyCancel (owner : Nat) (bs : List Byte) (b : Block) : Block :=
  let c := ringEntry owner bs
  let hit := b.sched.table.filter (fun p => p.2.tag == c.tag && (ringAnySrc bs || p.2.mid == owner) && !b.due p.2)
  if hit.isEmpty then b.reject (b.resolveRing c) 6
  else ((fireOrder hit).map (·.2)).foldl (fun b e => b.cancelEntry e 0) b

/-- Apply a CONFIRM entry to the entries whose fire time is still to come (R360, R363, R366). -/
def Block.applyConfirm (owner : Nat) (bs : List Byte) (b : Block) : Block :=
  let c := ringEntry owner bs
  let hit := b.sched.table.filter (fun p =>
    p.2.tag == c.tag && p.2.mid == owner && p.2.tentative && p.2.zone == 0x3FF && !p.2.binding && !b.due p.2)
  if hit.isEmpty then b.reject (b.resolveRing c) 6 else (hit.map (·.1)).foldl Block.confirmEntry b

/-- ARM: the drain takes an ARM entry; OP 3 is rejected as an ARM entry with cause RANGE (R358, R380). -/
def Block.stepArm (b : Block) (k : Nat) : Block :=
  b.drainWith k [0, 3] (fun bs b => b.armHost (ringOp bs) (ringEntry (b.ring k).owner bs))

/-- CANCEL (R366). -/
def Block.stepCancel (b : Block) (k : Nat) : Block := b.drainWith k [1] (Block.applyCancel (b.ring k).owner)

/-- CONFIRM (R360). -/
def Block.stepConfirm (b : Block) (k : Nat) : Block := b.drainWith k [2] (Block.applyConfirm (b.ring k).owner)

/-- Take whatever entry stands at the TAIL of ring `k`. -/
def Block.stepDrain (b : Block) (k : Nat) : Block :=
  match ringOp (b.ringTailEntry k) with
  | 1 => b.stepCancel k
  | 2 => b.stepConfirm k
  | _ => b.stepArm k

/-! ## Notes -/

/-- HOST_NOTE: a NOTE record with the note bytes (R351, R368). -/
def Block.stepHostNote (b : Block) (i : Nat) : Block := b.fireWith i 5 (fun e b => b.recordNote e)

/-- The slot of a PEER_NOTE: its destination, a sequence byte, and 14 bytes of payload (R162, R380). -/
def peerSlot (e : ArmedEntry) (seq : Nat) : List Byte :=
  padTo 16 0#8 ((e.note.take 1) ++ leBytes 1 seq ++ (e.note.drop 1).take 14)

/-- Queue a peer slot for the sync bus (R179). -/
def Block.queuePeer (b : Block) (slot : List Byte) : Block :=
  { b with clock := { b.clock with sync := { b.clock.sync with queue := b.clock.sync.queue ++ [slot] } } }

/-- The outbound peer queue has room (R179). -/
def Block.peerRoom (b : Block) : Bool := decide (b.clock.sync.queue.length < 4)

/-- PEER_NOTE: its slot is queued, or it is rejected with cause FULL (R375). -/
def Block.stepPeerNote (b : Block) (i : Nat) : Block :=
  match b.fireable i 6 with
  | none => b
  | some e =>
    if e.tentative && decide (e.confirms < e.k) && !e.unconf then b.cancelEntry e 2
    else if !b.peerRoom then (b.freeEntry i).reject e 7
    else
      let n := b.clock.sync.peerSeq
      let b := (b.fired e).queuePeer (peerSlot e n)
      { b with clock := { b.clock with sync := { b.clock.sync with peerSeq := (n + 1) % 256 } } }

/-! ## Meanings -/

/-- ARM (R358). -/
def execArm (dt ring : Nat) (s : State) : Host.Outcome State Fault Refusal := s.run dt (fun b => b.stepArm ring)

/-- CANCEL (R366). -/
def execCancel (dt ring : Nat) (s : State) : Host.Outcome State Fault Refusal := s.run dt (fun b => b.stepCancel ring)

/-- CONFIRM (R360). -/
def execConfirm (dt ring : Nat) (s : State) : Host.Outcome State Fault Refusal := s.run dt (fun b => b.stepConfirm ring)

/-- DRAIN_RESUME: the drain takes the next entry once a table entry has freed (R370). -/
def execDrainResume (dt ring : Nat) (s : State) : Host.Outcome State Fault Refusal := s.run dt (fun b => b.stepDrain ring)

/-- HOST_NOTE (R368). -/
def execHostNote (dt entry : Nat) (s : State) : Host.Outcome State Fault Refusal := s.run dt (fun b => b.stepHostNote entry)

/-- PEER_NOTE (R375). -/
def execPeerNote (dt entry : Nat) (s : State) : Host.Outcome State Fault Refusal := s.run dt (fun b => b.stepPeerNote entry)

end Sys2Proof.Machine
end

