-- ==== Sys2Proof/Machine/Valve.lean ====
section
/-! DEFINITION. The valve drive: what each action and each event does to a channel and its bank, and the meanings of the
valve commands (chapter 12). -/

namespace Sys2Proof.Machine

/-! ## Latching -/

/-- Latch channels with one cause: the records first, then each channel's flushes and waiting requests, then the freed banks (R419 to R423). -/
def Block.latchAll (b : Block) (ns : List Nat) (cause : Nat) (current : Nat → Nat) : Block :=
  let new := ns.filter (fun n => !b.latched n)
  let b := new.foldl (fun b n => Block.latchOne cause (current n) b n) b
  let b := if cause = 4 then b.message 0x48 else b
  let b := new.foldl (fun b n => (b.flushValve n).refuseWaiting n) b
  ([0, 1, 2, 3] : List Nat).foldl (fun b x => if new.any (fun n => bankOf n == x) then b.grant x else b) b

/-- The channels that latch together with channel `n` (R413). -/
def Block.latchGroup (b : Block) (n : Nat) : List Nat := b.members (b.logical n)

/-- The sense code of a threshold for one channel's own check: of half the value for a channel of a pair (R413, R429). -/
def Block.ownCode (b : Block) (n i : Nat) : Nat :=
  min 2047 (roundDiv (i * (b.valve n).rshunt) (12207 * (b.members (b.logical n)).length))

/-! ## Actions (R395 to R405) -/

/-- A lead-in of this entry still waits for its bank: it never started and is reported as skipped (R401, log entry 15). -/
def Block.dropWaitingLeadin (b : Block) (e : ArmedEntry) : Block :=
  let k := b.bank (bankOf e.channel)
  if k.waiting.any (fun r => r.leadin && r.entry.seq == e.seq) then
    (b.setBank (bankOf e.channel) (fun k => { k with waiting := k.waiting.filter (fun r => !(r.leadin && r.entry.seq == e.seq)) })).refuseValve e 17
  else b

/-- Another entry's lead-in on the channel counts as spent (R403). -/
def Block.spendLeadin (b : Block) (seq : Nat) : Block :=
  match b.entryBySeq seq with
  | some (i, x) => b.setEntry i { x with spent := true }
  | none => b

/-- VALVE_PULSE handed to the drive (R385, R402 to R404). -/
def Block.valvePulse (e : ArmedEntry) (b : Block) : Block :=
  if !b.valves.running then b
  else
    let b := b.dropWaitingLeadin e
    match b.refusal e with
    | some c => b.refuseValve e c
    | none =>
      let n := e.channel
      match (b.valve n).phase with
      | .leadin =>
        if (b.valve n).owner = e.seq then b.restartCommand n e false
        else (b.spendLeadin (b.valve n).owner).restartCommand n e true
      | .boost => b.restartCommand n e true
      | .hold => b.restartCommand n e true
      | .release => b.waitBank e false
      | .slowDecay => b.waitBank e false
      | .off => b.request e false

/-- VALVE_LEVEL handed to the drive (R396). -/
def Block.valveLevel (e : ArmedEntry) (b : Block) : Block :=
  if !b.valves.running then b
  else match b.refusal e with
  | some c => b.refuseValve e c
  | none =>
    let n := e.channel
    match (b.valve n).phase with
    | .boost => b.setLogical n (fun c => { c with scale := e.width % 4096 })
    | .hold => b.setLogical n (fun c => { c with scale := e.width % 4096 })
    | .off => b.request e false
    | .leadin => b.waitBank e false
    | .release => b.waitBank e false
    | .slowDecay => b.waitBank e false

/-- VALVE_RELEASE handed to the drive (R405). -/
def Block.valveRelease (e : ArmedEntry) (b : Block) : Block :=
  if !b.valves.running then b
  else match b.refusal e with
  | some c => b.refuseValve e c
  | none =>
    match (b.valve e.channel).phase with
    | .boost => b.startRelease e.channel
    | .hold => b.startRelease e.channel
    | .off => b
    | .leadin => b
    | .release => b
    | .slowDecay => b

/-- VALVE_PULSE: at Tf the entry commits or cancels, then its profile runs (R363, R385). -/
def Block.stepValvePulse (b : Block) (i : Nat) : Block := b.fireWith i 0 Block.valvePulse

/-- VALVE_LEVEL (R396). -/
def Block.stepValveLevel (b : Block) (i : Nat) : Block := b.fireWith i 1 Block.valveLevel

/-- VALVE_RELEASE (R405). -/
def Block.stepValveRelease (b : Block) (i : Nat) : Block := b.fireWith i 2 Block.valveRelease

/-- A lead-in may start: an armed VALVE_PULSE with L above 0 whose Tf − L has come (R361). -/
def Block.leadinDue (b : Block) (i : Nat) : Option ArmedEntry :=
  match b.entry i with
  | none => none
  | some e =>
    if e.type = 0 ∧ 0 < e.leadUs ∧ e.state = .armed ∧ !e.leadDone ∧
       ptReached b.clock.pt (e.tf - BitVec.ofNat 48 (usec e.leadUs)) ∧
       !((b.bank (bankOf e.channel)).waiting.any (fun r => r.leadin && r.entry.seq == e.seq)) then some e
    else none

/-- LEADIN_START: the lead-in takes its bank or waits for it; a channel that would refuse the pulse runs none (R361, R398, log entry 16). -/
def Block.stepLeadinStart (b : Block) (i : Nat) : Block :=
  match b.leadinDue i with
  | none => b
  | some e =>
    if !b.valves.running ∨ (b.refusal e).isSome then b.skipLeadin e
    else if (b.valve e.channel).phase = .off then b.request e true else b.waitBank e true

/-! ## Events of a running channel -/

/-- LOWSIDE_CHECK_END: SHORT_VBAT latches, or after 2 µs the check of the channel is passed, and once that of every channel of its
logical channel is the phase's switches turn on (R386, R413, R419). -/
def Block.stepLowside (b : Block) (n current : Nat) (reach : Option Nat) : Block :=
  let c := b.valve n
  if !c.checking then b
  else if b.ownCode n c.shortI < c.code current then b.latchAll (b.latchGroup n) 1 (fun _ => current)
  else if b.now < c.checkAt + usec 2 then b
  else
    let b := b.setValve n (fun c => { c with checking := false, iMeas := current })
    let m := b.logical n
    if (b.members m).any (fun k => (b.valve k).checking) then b else b.switchOn m (b.sensed m) reach

/-- BOOST_END: BOOST ends on BOOST_I or BOOST_T, and HOLD begins with a chop period (R385, R390, R391). -/
def Block.stepBoostEnd (b : Block) (n current : Nat) (reach : Option Nat) : Block :=
  let m := b.logical n
  let c := b.valve m
  if c.phase = .boost ∧ !c.checking ∧ (c.code c.profile.boostI ≤ c.code current ∨ c.boostAt + usec c.profile.boostT ≤ b.now) then
    let b := b.setLogical m (fun c => { c with phase := .hold, next := .hold, holdAt := b.now, debt := 0, fullOn := 0 })
    (b.measured m current).chopLogical m current reach
  else b

/-- COMMAND_END: the command length expires and the channel goes to RELEASE (R385). -/
def Block.stepCommandEnd (b : Block) (n : Nat) : Block :=
  let c := b.valve n
  if c.phase = .boost ∨ c.phase = .hold then
    match c.cmdEnd with
    | some t => if t ≤ b.now then b.startRelease (b.logical n) else b
    | none => b
  else b

/-- The bound on a RELEASE in TIME clocks: REL_T_MAX, and 20 times that in slow decay (R385, R407). -/
def ValveChannel.releaseBound (c : ValveChannel) : Nat :=
  usec (if c.phase = .slowDecay then 20 * c.profile.relTMax else c.profile.relTMax)

/-- RELEASE_END: the channel is OFF, its bank is free and the oldest waiting request takes it (R385, R398, R413). -/
def Block.stepReleaseEnd (b : Block) (n current : Nat) : Block :=
  let c := b.valve (b.logical n)
  if (c.phase = .release ∨ c.phase = .slowDecay) ∧ (c.code current < c.code c.profile.relI ∨ c.releaseAt + c.releaseBound ≤ b.now) then
    (b.freeBank (b.logical n)).grant (bankOf n)
  else b

/-- The wait bound of a bank in TIME clocks: 2 µs steps, above 250 acts as 250 (R427). -/
def Block.bankWait (b : Block) (x : Nat) : Nat :=
  usec (2 * min 250 (b.get (match x with
    | 0 => R.VD_BANK_WAIT.WAIT_A
    | 1 => R.VD_BANK_WAIT.WAIT_B
    | 2 => R.VD_BANK_WAIT.WAIT_C
    | _ => R.VD_BANK_WAIT.WAIT_D)))

/-- One waiting request at the end of its time is refused with cause BANK_BUSY, or its lead-in is skipped (R398, R401). -/
def Block.expire (b : Block) (r : BankRequest) : Block :=
  if r.leadin then (b.skipLeadin r.entry).refuseValve r.entry 17 else b.refuseValve r.entry 16

/-- BANK_WAIT_TIMEOUT: every request of the bank that has waited its time (R398). -/
def Block.stepBankWait (b : Block) (x : Nat) : Block :=
  let lapsed := fun (r : BankRequest) => decide (r.due + b.bankWait x ≤ b.now)
  let gone := (b.bank x).waiting.filter lapsed
  let b' := b.setBank x (fun k => { k with waiting := k.waiting.filter (fun r => !lapsed r) })
  (gone.foldl Block.expire b').grant x

/-- CHOP_PERIOD: a chop period of HOLD or of a LEAD-IN starts (R390). -/
def Block.stepChop (b : Block) (n current : Nat) (reach : Option Nat) : Block :=
  let m := b.logical n
  if ((b.valve m).phase = .hold ∨ (b.valve m).phase = .leadin) ∧ !(b.members m).any (fun k => (b.valve k).checking) then
    (b.measured m current).chopLogical m current reach
  else b

/-- OPEN_COIL: the current has not reached OPEN_I within OPEN_WIN; `current` is the highest since the start (R419). -/
def Block.stepOpenCoil (b : Block) (n current : Nat) : Block :=
  let c := b.valve n
  if (c.phase = .boost ∨ c.phase = .hold) ∧ c.profile.openWin ≠ 0 ∧ c.boostAt + usec c.profile.openWin ≤ b.now ∧
     c.code current < b.ownCode n c.profile.openI then
    b.latchAll (b.latchGroup n) 2 (fun _ => current)
  else b

/-- VALVE_OVERCURRENT: after blanking, the current exceeds OC_I for 1 µs (R419). -/
def Block.stepOvercurrent (b : Block) (n current : Nat) : Block :=
  let c := b.valve n
  if c.phase ≠ .off ∧ !c.checking ∧ b.ownCode n c.profile.ocI < c.code current then
    b.latchAll (b.latchGroup n) 0 (fun _ => current)
  else b

/-- The current of channel `n` at a detection: what was sensed on it, and 0 on a channel that is off (R382, R422). -/
def Block.detected (b : Block) (currents : List Nat) (first n : Nat) : Nat :=
  if (b.valve n).drive = .off then 0 else currents.getD (n - first) 0

/-- BOOTSTRAP_UV: the bootstrap supply of bank `x` is low while GBx or GHx is on; `currents` are those of its four channels (R420,
R422). -/
def Block.stepBootstrapUv (b : Block) (x : Nat) (currents : List Nat) : Block :=
  match (b.bank x).owner with
  | none => b
  | some n =>
    let d := (b.valve n).driveNow b.now
    if d = .boost ∨ d = .on then
      (b.setBit R.VD_FAULT.BOOTSTRAP_UV x).latchAll [4 * x, 4 * x + 1, 4 * x + 2, 4 * x + 3] 3 (b.detected currents (4 * x))
    else b

/-- BOOST_UV: VBOOST stays below 85 % of SETPOINT while the check is armed; `currents` are those of the 16 channels (R420, R422). -/
def Block.stepBoostUv (b : Block) (v : Nat) (currents : List Nat) : Block :=
  let b := b.boostSense v
  if b.valves.boost.uvArmed ∧ 100 * v < 85 * b.setpoint then
    (b.setFlag R.VD_FAULT.BOOST_UV true).latchAll (List.range 16) 4 (b.detected currents 0)
  else b

/-- BOOST_UV_ARM: the undervoltage check arms at SETPOINT − HYST, or 50 ms after the start (R411). -/
def Block.stepBoostUvArm (b : Block) (v : Nat) : Block :=
  let b := b.boostSense v
  if b.valves.boost.running ∧ (b.setpoint ≤ v + b.boostHyst ∨ b.valves.boost.startedAt + msec 50 ≤ b.now) then
    b.setBoost (fun k => { k with uvArmed := true })
  else b

/-- BOOST_OV: VBOOST above its setpoint by 10 % stops the converter, and every RELEASE falls back to slow decay (R407, R412). -/
def Block.stepBoostOv (b : Block) (v : Nat) : Block := b.boostSense v

/-- BOOST_RESTORED: VBOOST falls below its setpoint and the converter restarts (R407, R412). -/
def Block.stepBoostRestored (b : Block) (v : Nat) : Block := b.boostSense v

/-! ## Coil protection (R415 to R417) -/

/-- The heat that leaves a coil, W: (T − TAMB) / RTH, and an open value where RTH is 0 (R415, log entry 17). -/
def coilLoss (t tamb : Rat) (rth : Nat) : Rat := quotient (t - tamb) ((rth : Rat) / 100)

/-- TAMB of a channel, °C (R429). -/
def Block.tamb (b : Block) (n : Nat) : Int := signed 8 (b.valveParam n 12 1)

/-- The model temperature of a channel after 100 µs with a mean of I² in mA² (R415). -/
def Block.coilStep (b : Block) (n : Nat) (meanSq : Rat) : Rat :=
  let t := (b.valve n).temp
  let p := meanSq / 1000000 * ((b.valveParam n 2 2 : Rat) / 100) *
    (1 + (orDefault (b.valveParam n 4 2) 3930 : Nat) / (1000000 : Rat) * (t - 20))
  t + (p - coilLoss t (b.tamb n) (b.valveParam n 6 2)) * (1 / 10000) / ((orDefault (b.valveParam n 8 2) 1 : Nat) / (100 : Rat))

/-- TCOIL_MAX in °C (R429). -/
def Block.coilMax (b : Block) (n : Nat) : Nat := orDefault (b.valveParam n 10 1) 155

/-- THYST in °C (R429). -/
def Block.coilHyst (b : Block) (n : Nat) : Nat := max 2 (min 50 (b.valveParam n 11 1))

/-- The model temperature in 1/16 °C (log entry 4). -/
def tempCode (t : Rat) : Nat := unsigned 16 (Config.quantise (16 * t))

/-- One channel's model update, with its trip or its resume; a mean of 0 says that no current flowed (R415, R416, R429). -/
def Block.coilChannel (b : Block) (p : Nat × Rat) : Block :=
  let n := p.1
  let t := b.coilStep n p.2
  let b := b.setValve n (fun c => { c with temp := t, iMeas := if p.2 = 0 then 0 else c.iMeas })
  if !(b.valve n).tripped && bitOf (b.prot n) 0 && decide ((b.coilMax n : Rat) ≤ t) then
    let b := (b.setValve n (fun c => { c with tripped := true })).eventFrom 0x0502 (0x30 + n) (0x30 + n) (leBytes 1 n ++ leBytes 2 (tempCode t))
    let m := b.logical n
    match (b.valve m).phase with
    | .leadin => b.startRelease m
    | .boost => b.startRelease m
    | .hold => b.startRelease m
    | .off => b
    | .release => b
    | .slowDecay => b
  else if (b.valve n).tripped && decide (t ≤ (b.coilMax n : Rat) - (b.coilHyst n : Rat)) then
    (b.setValve n (fun c => { c with tripped := false })).eventFrom 0x0503 (0x30 + n) (0x30 + n) (leBytes 1 n ++ leBytes 2 (tempCode t))
  else b

/-- COIL_MODEL_UPDATE: each channel's model takes the mean of I² of the last 100 µs, in mA² (R415). -/
def Block.stepCoilModel (b : Block) (meanSq : List Rat) : Block :=
  ((List.range 16).map (fun n => (n, meanSq.getD n 0))).foldl Block.coilChannel b

/-- ONTIME_TRIP: a channel energised for MAX_ON from its BOOST start goes to RELEASE (R417). -/
def Block.stepOntimeTrip (b : Block) (n : Nat) : Block :=
  let c := b.valve n
  if (c.phase = .boost ∨ c.phase = .hold) ∧ bitOf (b.prot n) 1 ∧ c.boostAt + msec (b.maxOn n) ≤ b.now then
    let b := b.startRelease (b.logical n)
    (b.setBit R.VD_TRIP.ONTIME_SEEN n).eventFrom 0x0504 (0x30 + n) (0x30 + n) (leBytes 1 n ++ leBytes 2 ((b.now - c.boostAt) / msec 1))
  else b

/-- Every coil model starts from TAMB (R415, R426). -/
def Block.coilReset (b : Block) : Block :=
  (List.range 16).foldl (fun b n => b.setValve n (fun c => { c with temp := (b.tamb n : Rat) })) b

/-! ## Meanings -/

/-- LEADIN_START (R361). -/
def execLeadinStart (dt entry : Nat) (s : State) : Host.Outcome State Fault Refusal := s.run dt (fun b => b.stepLeadinStart entry)
/-- VALVE_PULSE (R385). -/
def execValvePulse (dt entry : Nat) (s : State) : Host.Outcome State Fault Refusal := s.run dt (fun b => b.stepValvePulse entry)
/-- VALVE_LEVEL (R396). -/
def execValveLevel (dt entry : Nat) (s : State) : Host.Outcome State Fault Refusal := s.run dt (fun b => b.stepValveLevel entry)
/-- VALVE_RELEASE (R405). -/
def execValveRelease (dt entry : Nat) (s : State) : Host.Outcome State Fault Refusal := s.run dt (fun b => b.stepValveRelease entry)
/-- LOWSIDE_CHECK_END (R386). -/
def execLowsideCheckEnd (dt channel current : Nat) (reach : Option Nat) (s : State) : Host.Outcome State Fault Refusal :=
  s.run dt (fun b => b.stepLowside channel current reach)
/-- BOOST_END (R385). -/
def execBoostEnd (dt channel current : Nat) (reach : Option Nat) (s : State) : Host.Outcome State Fault Refusal :=
  s.run dt (fun b => b.stepBoostEnd channel current reach)
/-- COMMAND_END (R385). -/
def execCommandEnd (dt channel : Nat) (s : State) : Host.Outcome State Fault Refusal := s.run dt (fun b => b.stepCommandEnd channel)
/-- RELEASE_END (R385). -/
def execReleaseEnd (dt channel current : Nat) (s : State) : Host.Outcome State Fault Refusal := s.run dt (fun b => b.stepReleaseEnd channel current)
/-- BANK_WAIT_TIMEOUT (R398). -/
def execBankWaitTimeout (dt bank : Nat) (s : State) : Host.Outcome State Fault Refusal := s.run dt (fun b => b.stepBankWait bank)
/-- CHOP_PERIOD (R390). -/
def execChopPeriod (dt channel current : Nat) (reach : Option Nat) (s : State) : Host.Outcome State Fault Refusal :=
  s.run dt (fun b => b.stepChop channel current reach)
/-- COIL_MODEL_UPDATE (R415). -/
def execCoilModelUpdate (dt : Nat) (meanSq : List Rat) (s : State) : Host.Outcome State Fault Refusal := s.run dt (fun b => b.stepCoilModel meanSq)
/-- ONTIME_TRIP (R417). -/
def execOntimeTrip (dt channel : Nat) (s : State) : Host.Outcome State Fault Refusal := s.run dt (fun b => b.stepOntimeTrip channel)
/-- VALVE_OVERCURRENT (R419). -/
def execValveOvercurrent (dt channel current : Nat) (s : State) : Host.Outcome State Fault Refusal := s.run dt (fun b => b.stepOvercurrent channel current)
/-- OPEN_COIL (R419). -/
def execOpenCoil (dt channel current : Nat) (s : State) : Host.Outcome State Fault Refusal := s.run dt (fun b => b.stepOpenCoil channel current)
/-- BOOTSTRAP_UV (R420). -/
def execBootstrapUv (dt bank : Nat) (currents : List Nat) (s : State) : Host.Outcome State Fault Refusal :=
  s.run dt (fun b => b.stepBootstrapUv bank currents)
/-- BOOST_UV (R420). -/
def execBoostUv (dt vboost : Nat) (currents : List Nat) (s : State) : Host.Outcome State Fault Refusal :=
  s.run dt (fun b => b.stepBoostUv vboost currents)
/-- BOOST_UV_ARM (R411). -/
def execBoostUvArm (dt vboost : Nat) (s : State) : Host.Outcome State Fault Refusal := s.run dt (fun b => b.stepBoostUvArm vboost)
/-- BOOST_OV (R412). -/
def execBoostOv (dt vboost : Nat) (s : State) : Host.Outcome State Fault Refusal := s.run dt (fun b => b.stepBoostOv vboost)
/-- BOOST_RESTORED (R412). -/
def execBoostRestored (dt vboost : Nat) (s : State) : Host.Outcome State Fault Refusal := s.run dt (fun b => b.stepBoostRestored vboost)

end Sys2Proof.Machine
end

