-- ==== Sys2Proof/Machine/Lamp.lean ====
section
/-! DEFINITION. The lamp channels: requests, periods, inrush, sag pause, group budget, resistance and faults, and the meanings
of the lamp commands (chapter 13). -/

namespace Sys2Proof.Machine

/-! ## Parameters and channels -/

/-- A field of lamp channel `k`'s parameters (R459). -/
def Block.lampParam (b : Block) (k o size : Nat) : Nat := b.le (0x00924000 + 256 * k + o) size

/-- Lamp channel `k`. -/
def Block.lamp (b : Block) (k : Nat) : LampChannel := b.lamps.chans.getD k {}

/-- Change lamp channel `k`. -/
def Block.setLamp (b : Block) (k : Nat) (f : LampChannel → LampChannel) : Block :=
  { b with lamps := { b.lamps with chans := updAt b.lamps.chans k f } }

/-- Channel `k` is enabled (R458). -/
def Block.lampOn (b : Block) (k : Nat) : Bool := b.bitAt R.LD_CTL.CH_EN k

/-- Channel `k` is latched (R452). -/
def Block.lampLatched (b : Block) (k : Nat) : Bool := b.bitAt R.LD_FAULT.CH k

/-- Loop `k` runs (R437). -/
def Block.loopRuns (b : Block) (k : Nat) : Bool := b.bitAt R.ZN_LOOP_EN.EN k

/-- The sense code of a current in mA on lamp `k`'s shunt (R430). -/
def Block.lampCode (b : Block) (k i : Nat) : Nat := senseCode i (max 1 (b.lampParam k 0 2))

/-- The PWM period T in LMP clocks of 5 ns (R432). -/
def Block.pwmPeriod (b : Block) : Nat := max 8000 (min 1000000 (b.get R.LD_PWM.PERIOD))

/-- RAMP_MS in TIME clocks (R441, R459). -/
def Block.rampTime (b : Block) (k : Nat) : Nat := msec (max 1 (min 2000 (b.lampParam k 10 2)))

/-- The minimum-pulse policy of a lamp: 0 DEBT, 1 STRETCH, 2 ZERO (R459). -/
def Block.lampPolicy (b : Block) (k : Nat) : Nat := let p := b.lampParam k 7 1 % 4; if p = 3 then 0 else p

/-- TMIN of a lamp in 10 ns (R459). -/
def Block.lampTmin (b : Block) (k : Nat) : Nat := max 50 (min 5000 (orDefault (b.lampParam k 8 2) 200))

/-- VLMP is measured, in 0.1 V: below UV_PAUSE it breaks the wait of paused channels (R431, R444). -/
def Block.lampSupply (b : Block) (vlmp : Nat) : Block :=
  let b := b.set R.LD_SUPPLY.VLMP vlmp
  if vlmp < b.get R.LD_SUPPLY.UV_PAUSE then { b with lamps := { b.lamps with lowAt := b.now } } else b

/-- The total lamp current in mA, of a code of the 12-bit converter on its 1.200 V full scale and RSHUNT_LTOT in 10 µΩ (R431,
R458). -/
def Block.totalCurrent (b : Block) (code : Nat) : Rat := (120000000 * code : Nat) / (4096 * max 1 (b.get R.LD_TOTAL.RSHUNT_T) : Nat)

/-- The total current in 0.1 A (log entry 4). -/
def tenthAmps (i : Rat) : Nat := unsigned 16 (Config.quantise (i / 100))

/-- ILMP_P/ILMP_N is measured: ITOTAL (R431, R458). -/
def Block.lampTotal (b : Block) (code : Nat) : Block := b.set R.LD_TOTAL.ITOTAL (tenthAmps (b.totalCurrent code))

/-! ## Requests (R436, R437) -/

/-- A request replaces the one before it; one that no period took up is counted as replaced (R436). -/
def LampChannel.request (c : LampChannel) (r : Nat) : LampChannel :=
  { c with req := r % 4096, fresh := true, replaced := if c.fresh then min 65535 (c.replaced + 1) else c.replaced }

/-- Write channel `k`'s request. -/
def Block.lampRequest (b : Block) (k r : Nat) : Block := b.setLamp k (fun c => c.request r)

/-- LAMP_SET handed to the lamp drive: the request, or a refusal as LOOP, DISABLED or FAULT (R437). -/
def Block.lampSet (e : ArmedEntry) (b : Block) : Block :=
  let k := e.channel
  let refuse := fun (cause : Nat) =>
    (b.recordEntry 0x0609 e cause).setLamp k (fun c => { c with refused := min 65535 (c.refused + 1) })
  if b.loopRuns k then refuse 24
  else if !b.lampOn k then refuse 25
  else if b.lampLatched k then refuse 26
  else b.lampRequest k e.width

/-- LAMP_SET (R437). -/
def Block.stepLampSet (b : Block) (i : Nat) : Block := b.fireWith i 3 Block.lampSet

/-! ## Latches (R452) -/

/-- A channel latches: gate off, bit and cause set, request cleared (R452). -/
def Block.lampOff (b : Block) (k cause : Nat) : Block :=
  (b.setLamp k (fun c => { c with
    state := .fault, gate := false, req := 0, fresh := false, cause := cause, latchTicks := 0, openCount := 0, openSum := 0,
    lowRes := 0, ceil := 4095, iMeas := 0 })).setBit R.LD_FAULT.CH k

/-- A channel latches and reports its event with its own source (R452, R454). -/
def Block.lampLatch (b : Block) (k code cause : Nat) (payload : List Byte) : Block :=
  (b.lampOff k cause).eventFrom code (0x40 + k) (0x40 + k) payload

/-! ## Inrush (R440 to R444) -/

/-- The inrush time E in TIME clocks (R441). -/
def LampChannel.elapsed (c : LampChannel) (now : Nat) : Nat :=
  if c.state = .inrush then c.inrushTime + (now - c.inrushMark) else c.inrushTime

/-- The inrush ceiling for an inrush time (R441). -/
def ceiling (e ramp : Nat) : Nat := min 4095 (4095 * e / ramp)

/-- Inrush ends and the channel is ON (R441). -/
def LampChannel.endInrush (c : LampChannel) : LampChannel := { c with state := .on, ceil := 4095, steady := 0 }

/-- Inrush is entered: E and C are 0 and RES_VALID is cleared; under a sag it is entered paused (R440, R443). -/
def LampChannel.enterInrush (c : LampChannel) (now : Nat) (sag : Bool) : LampChannel :=
  { c with state := if sag then .paused else .inrush, inrushTime := 0, inrushMark := now, ceil := 0, resValid := false,
           pausedAt := now, debt := if c.state = .off then 0 else c.debt, zeroSince := none }

/-- Whether a channel enters inrush at this period start: from OFF, or with its applied duty 0 for COLD_MS, in an inrush too
(R440). -/
def LampChannel.cold (c : LampChannel) (now coldMs : Nat) : Bool :=
  c.req != 0 && (c.state == .off || (c.state != .fault && coldMs != 0 &&
    (match c.zeroSince with
     | some t => decide (t + msec coldMs ≤ now)
     | none => false)))

/-- The inrush time has reached RAMP_MS at a period start (R441). -/
def Block.rampEnd (b : Block) (k : Nat) : Block :=
  if (b.lamp k).state = .inrush ∧ b.rampTime k ≤ (b.lamp k).elapsed b.now then b.setLamp k LampChannel.endInrush else b

/-- LGk is on: the on-time of the period runs (R430, R433). -/
def LampChannel.conducts (c : LampChannel) (now period : Nat) : Bool :=
  c.gate && (match c.periodAt with
    | some t => decide (period ≤ c.onClocks) || decide (2 * (now - t) < c.onClocks)
    | none => false)

/-- LGk of channel `k` is on now. -/
def Block.lampGate (b : Block) (k : Nat) : Bool := (b.lamp k).conducts b.now b.pwmPeriod

/-- The leading-edge blanking of 1 µs is over (R442). -/
def LampChannel.unblanked (c : LampChannel) (now : Nat) : Bool := match c.periodAt with
  | some t => decide (t + usec 1 ≤ now)
  | none => false

/-- The sense crosses ISHORT while the gate is on (R449, R452). -/
def Block.shorted (b : Block) (k current : Nat) : Bool := b.lampGate k && decide (b.lampCode k (b.lampParam k 16 2) ≤ b.lampCode k current)

/-- LAMP_SHORT: the sense crosses ISHORT while the gate is on (R449, R452). -/
def Block.stepLampShort (b : Block) (k current : Nat) : Block :=
  if b.shorted k current then b.lampLatch k 0x0601 0 (leBytes 1 k ++ leBytes 2 (current / 100)) else b

/-- The cycle-by-cycle limit acts: in inrush, after blanking, with the sensed current above ILIM_INRUSH (R442). -/
def Block.overLimit (b : Block) (k current : Nat) : Bool :=
  ((b.lamp k).state == .inrush || (b.lamp k).state == .paused) && b.lampGate k && (b.lamp k).unblanked b.now &&
  decide (b.lampCode k (b.lampParam k 14 2) < b.lampCode k current)

/-- INRUSH_CURRENT_LIMIT: a current above ILIM_INRUSH ends the on-time of this period; one that reaches ISHORT latches SHORT
before the limit acts (R442, R450). -/
def Block.stepInrushLimit (b : Block) (k current : Nat) : Block :=
  if b.shorted k current then b.stepLampShort k current
  else if b.overLimit k current then b.setLamp k (fun c => { c with gate := false, limitCyc := min 65535 (c.limitCyc + 1) })
  else b

/-- One channel in inrush pauses (R443). -/
def Block.pauseLamp (vlmp : Nat) (b : Block) (k : Nat) : Block :=
  if (b.lamp k).state = .inrush then
    let e := (b.lamp k).elapsed b.now
    let c := ceiling e (b.rampTime k)
    (b.setLamp k (fun x => { x with state := .paused, inrushTime := e, ceil := c, pausedAt := b.now })).eventFrom 0x0605
      (0x40 + k) (0x40 + k) (leBytes 1 k ++ leBytes 2 c ++ leBytes 2 vlmp)
  else b

/-- INRUSH_PAUSE: VLMP has stayed below UV_PAUSE for 2 µs (R443). -/
def Block.stepInrushPause (b : Block) (vlmp : Nat) : Block :=
  if b.lamps.running ∧ vlmp < b.get R.LD_SUPPLY.UV_PAUSE then
    let b := b.lampSupply vlmp
    let b := { b with lamps := { b.lamps with sag := true } }
    (List.range 8).foldl (Block.pauseLamp vlmp) b
  else b

/-- One paused channel resumes (R444). -/
def Block.resumeLamp (b : Block) (k : Nat) : Block :=
  if (b.lamp k).state = .paused then
    (b.setLamp k (fun x => { x with state := .inrush, inrushMark := b.now })).eventFrom 0x0606 (0x40 + k) (0x40 + k)
      (leBytes 1 k ++ leBytes 4 ((b.now - (b.lamp k).pausedAt) / usec 1))
  else b

/-- Paused channels may resume: one full period has passed since VLMP was last measured below UV_PAUSE (R444). -/
def Block.sagOver (b : Block) (vlmp : Nat) : Bool :=
  b.lamps.sag && decide (b.get R.LD_SUPPLY.UV_PAUSE ≤ vlmp) && decide (b.pwmPeriod ≤ 2 * (b.now - b.lamps.lowAt))

/-- INRUSH_RESUME: VLMP has stayed at or above UV_PAUSE for one full period (R444). -/
def Block.stepInrushResume (b : Block) (vlmp : Nat) : Block :=
  if b.sagOver vlmp then
    let b := b.lampSupply vlmp
    let b := { b with lamps := { b.lamps with sag := false } }
    (List.range 8).foldl Block.resumeLamp b
  else b

/-! ## Periods (R433 to R441) -/

/-- The on-time of the period that ended was at least 10 µs (R448, R452). -/
def LampChannel.longOn (c : LampChannel) : Bool := decide (2000 ≤ c.onClocks)

/-- The sample of the period that ended: for RES, and for the OPEN check (R448, R452). -/
def LampChannel.sampled (c : LampChannel) (vlmp current : Nat) (openCode : Bool) : LampChannel :=
  if !c.longOn then c
  else
    let c := { c with currents := current :: c.currents,
                      samples := if c.state == LampState.on then (vlmp, current) :: c.samples else c.samples }
    if openCode then { c with openCount := c.openCount + 1, openSum := c.openSum + current } else { c with openCount := 0, openSum := 0 }

/-- The on-time, debt and duty of a period that starts (R433, R438, R439). -/
def Block.lampDuty (b : Block) (k : Nat) (c : LampChannel) : LampChannel :=
  let d := min c.req c.ceil * b.get R.LD_FACTOR.F / 65536
  let t := b.pwmPeriod
  let r := openPeriod (b.lampPolicy k) ((t : Rat) / 2) ((t * d / 4095 : Nat) / (2 : Rat)) c.debt 0 (b.lampTmin k)
  let on := (ratFloor (2 * r.1)).toNat
  { c with applied := d, onClocks := on, periodAt := some b.now, debt := r.2, gate := decide (0 < on), fresh := false,
           zeroSince := if d = 0 then some (c.zeroSince.getD b.now) else none }

/-- The period start of an enabled channel that is not latched (R438 to R441). -/
def Block.lampPeriod (b : Block) (k : Nat) : Block :=
  let b := b.rampEnd k
  let c := b.lamp k
  let c := if c.cold b.now (b.lampParam k 12 2) then c.enterInrush b.now b.lamps.sag else c
  let c := match c.state with
    | .inrush => { c with ceil := ceiling (c.elapsed b.now) (b.rampTime k) }
    | .off => c
    | .paused => c
    | .on => c
    | .fault => c
  b.setLamp k (fun _ => if c.state = .off then { c with applied := 0, onClocks := 0, periodAt := some b.now, gate := false, fresh := false } else b.lampDuty k c)

/-- The period in progress of channel `k` has ended as planned, one T after its start in LMP clocks (R435). -/
def Block.periodOver (b : Block) (k : Nat) : Bool := match (b.lamp k).periodAt with
  | some t => decide (b.pwmPeriod ≤ 2 * (b.now - t) + 1)
  | none => true

/-- The PWM counter stands at channel `k`'s phase point, and the period in progress has ended (R432, R433, R435). -/
def Block.periodDue (b : Block) (k : Nat) : Bool :=
  let t := b.pwmPeriod
  let phase := b.lampParam k 6 1 * t / 256
  b.lamps.running && decide ((2 * (b.now - b.lamps.startedAt) + t - phase) % t < 2) && b.periodOver k

/-- INRUSH_END: the inrush time has reached RAMP_MS where a period of the channel starts (R441). -/
def Block.stepInrushEnd (b : Block) (k : Nat) : Block := if b.periodDue k then b.rampEnd k else b

/-- LAMP_PERIOD_START: the samples of the period that ended act, then the new period starts (R433, R438, R448, R452). -/
def Block.stepLampPeriod (b : Block) (k : Nat) (inp : LampSample) : Block :=
  if !b.periodDue k ∨ !b.lampOn k ∨ b.lampLatched k then b
  else
    let n := b.lampParam k 20 1
    let low := decide (b.lampCode k inp.current < b.lampCode k (b.lampParam k 18 2))
    let b := (b.lampSupply inp.vlmp).setLamp k (fun c => c.sampled inp.vlmp inp.current low)
    let c := b.lamp k
    if n ≠ 0 ∧ n ≤ c.openCount then
      b.lampLatch k 0x0602 1 (leBytes 1 k ++ leBytes 2 (c.openSum / c.openCount))
    else b.lampPeriod k

/-! ## Faults (R452) -/

/-- RES as a register shows it, in 10 mΩ (log entry 4). -/
def LampChannel.resCode (c : LampChannel) : Nat := unsigned 16 (Config.quantise c.res)

/-- LAMP_SOFT_SHORT: RES has been below RMIN at 16 consecutive ticks (R452). -/
def Block.stepSoftShort (b : Block) (k : Nat) : Block :=
  if (b.lamp k).state = .on ∧ 16 ≤ (b.lamp k).lowRes then
    b.lampLatch k 0x0603 2 (leBytes 1 k ++ leBytes 2 (b.lamp k).resCode)
  else b

/-- LAMP_GROUP_OC: the total current stays above I_TRIP, and every enabled channel latches; `code` is that of ILMP_P/ILMP_N (R431,
R452, R454). -/
def Block.stepGroupOc (b : Block) (code : Nat) : Block :=
  let trip := b.get R.LD_BUDGET.I_TRIP
  let total := b.totalCurrent code
  let b := b.lampTotal code
  if b.lamps.running ∧ trip ≠ 0 ∧ (10 * trip : Nat) < total then
    let ks := (List.range 8).filter (fun k => b.lampOn k && !b.lampLatched k)
    let b := (ks.foldl (fun b k => b.lampOff k 3) b).setFlag R.LD_FAULT.GROUP_OC true
    let map := (ks.map (2 ^ ·)).sum
    let first := 0x40 + ks.headD 0
    let b := b.eventFrom 0x0604 first 0 (leBytes 2 (tenthAmps total) ++ leBytes 1 map)
    ks.foldl (fun b k => b.message (0x40 + k)) b
  else b

/-! ## What a tick does (R445 to R448) -/

/-- RES after a tick (R448), and the mean of the currents sampled since the last one (R459, log entry 189). -/
def LampChannel.trackRes (c : LampChannel) (rmin : Nat) : LampChannel :=
  let c :=
    if c.state = .on ∧ !c.samples.isEmpty then
      let v : Rat := ((c.samples.map (·.1)).sum : Nat)
      let i : Rat := ((c.samples.map (·.2)).sum : Nat)
      let rm := quotient (v * 10000) i
      { c with res := c.res + (rm - c.res) / 8, steady := c.steady + 1, resValid := c.resValid || decide (16 ≤ c.steady + 1) }
    else c
  { c with samples := [], currents := [], iMeas := if c.currents.isEmpty then c.iMeas else meanUp c.currents, lowRes := if c.state = .on ∧ c.resValid ∧ rmin ≠ 0 ∧ c.res < (rmin : Rat) then c.lowRes + 1 else 0 }

/-- A channel's share at a tick, in A; a latched channel keeps its last share for one tick (R445, R446). -/
def Block.tickShare (b : Block) (k vlmp : Nat) (c : LampChannel) : LampChannel :=
  if b.lampLatched k then { c with share := if c.latchTicks = 0 then c.share else 0, latchTicks := c.latchTicks + 1 }
  else if b.lampOn k then
    let r : Rat := if c.resValid then c.res else (orDefault (b.lampParam k 2 2) 1 : Nat)
    { c with share := quotient ((c.req * vlmp * 10 : Nat) / (4095 : Rat)) r }
  else { c with share := 0 }

/-- LAMP_BUDGET at a tick: RES tracking, the shares, the factor and its events. It comes before the tick's commit window, so a
channel that the window enables counts from the next tick on (R445, R447, R448). -/
def Block.lampTick (b : Block) (vlmp ilmp : Nat) : Block :=
  let b := (b.lampSupply vlmp).lampTotal ilmp
  if !b.lamps.running then b
  else
    let b := (List.range 8).foldl (fun b k => b.setLamp k (fun c => c.trackRes (b.lampParam k 22 2))) b
    let b := (List.range 8).foldl (fun b k => b.setLamp k (fun c => b.tickShare k vlmp c)) b
    let s := (b.lamps.chans.toList.map (·.share)).sum
    let iMax : Rat := (b.get R.LD_BUDGET.I_MAX : Nat) / 100
    let f := if s ≤ iMax then 65536 else (ratFloor (65536 * iMax / s)).toNat
    let old := b.get R.LD_FACTOR.F
    let b := { b.set R.LD_FACTOR.F f with lamps := { b.lamps with sum := s } }
    let tenth := unsigned 16 (Config.quantise (10 * s))
    if f < 65536 ∧ old = 65536 then b.eventFrom 0x0607 0 0 (leBytes 4 f ++ leBytes 2 tenth)
    else if f = 65536 ∧ old < 65536 then b.eventFrom 0x0608 0 0 (leBytes 2 tenth)
    else b

/-! ## Start, stop and commits (R455, R456) -/

/-- The lamp block starts to run; one that never stopped goes on (R109, R432, R456). -/
def Block.startLamps (b : Block) : Block :=
  if b.lamps.running then b
  else
    let b := { b with lamps := { b.lamps with running := true, startedAt := b.now } }
    (List.range 8).foldl (fun b k => if b.lampOn k && !b.loopRuns k then b.lampRequest k (b.lampParam k 4 2) else b) b

/-- A channel with its gate off and no request; a latched one stays latched. -/
def LampChannel.halt (c : LampChannel) : LampChannel :=
  { c with gate := false, req := 0, fresh := false, applied := 0, onClocks := 0, state := if c.state = .fault then .fault else .off,
           openCount := 0, openSum := 0, samples := [], currents := [], zeroSince := none, periodAt := none, ceil := 4095, iMeas := 0 }

/-- The lamp block stops: every gate off with no ramp (R455). -/
def Block.stopLamps (b : Block) : Block :=
  { b with lamps := { b.lamps with running := false, sag := false, chans := b.lamps.chans.map LampChannel.halt } }

/-- A commit disables channel `k`: gate off at once, request cleared (chapter 13, When things coincide). -/
def Block.disableLamp (b : Block) (k : Nat) : Block := b.setLamp k LampChannel.halt

/-- A latch is cleared: the channel restarts through inrush (R453). -/
def Block.clearLamp (b : Block) (k : Nat) : Block :=
  b.setLamp k (fun c => { c with state := if c.state = .fault then .off else c.state, cause := 0xFF })

/-! ## Meanings -/

/-- LAMP_SET (R437). -/
def execLampSet (dt entry : Nat) (s : State) : Host.Outcome State Fault Refusal := s.run dt (fun b => b.stepLampSet entry)
/-- LAMP_PERIOD_START (R438). -/
def execLampPeriodStart (dt lamp : Nat) (inp : LampSample) (s : State) : Host.Outcome State Fault Refusal := s.run dt (fun b => b.stepLampPeriod lamp inp)
/-- INRUSH_END (R441). -/
def execInrushEnd (dt lamp : Nat) (s : State) : Host.Outcome State Fault Refusal := s.run dt (fun b => b.stepInrushEnd lamp)
/-- INRUSH_CURRENT_LIMIT (R442). -/
def execInrushCurrentLimit (dt lamp current : Nat) (s : State) : Host.Outcome State Fault Refusal :=
  s.run dt (fun b => b.stepInrushLimit lamp current)
/-- LAMP_SHORT (R452). -/
def execLampShort (dt lamp current : Nat) (s : State) : Host.Outcome State Fault Refusal := s.run dt (fun b => b.stepLampShort lamp current)
/-- LAMP_SOFT_SHORT (R452). -/
def execLampSoftShort (dt lamp : Nat) (s : State) : Host.Outcome State Fault Refusal := s.run dt (fun b => b.stepSoftShort lamp)
/-- LAMP_GROUP_OC (R452). -/
def execLampGroupOc (dt code : Nat) (s : State) : Host.Outcome State Fault Refusal := s.run dt (fun b => b.stepGroupOc code)
/-- INRUSH_PAUSE (R443). -/
def execInrushPause (dt vlmp : Nat) (s : State) : Host.Outcome State Fault Refusal := s.run dt (fun b => b.stepInrushPause vlmp)
/-- INRUSH_RESUME (R444). -/
def execInrushResume (dt vlmp : Nat) (s : State) : Host.Outcome State Fault Refusal := s.run dt (fun b => b.stepInrushResume vlmp)

end Sys2Proof.Machine
end

