-- ==== Sys2Proof/Machine/Shutter.lean ====
section
/-! DEFINITION. The shutter bridge: pulses, braking, the on-time limit and the position (chapter 09). -/

namespace Sys2Proof.Machine

/-- Change the shutter bridge's state. -/
def Block.setShut (b : Block) (f : Shutter → Shutter) : Block := { b with shut := f b.shut }

/-- A pulse width as it acts: 5 ms to 250 ms (R288). -/
def pulseMs (w : Nat) : Nat := max 5 (min 250 w)

/-- The code of a direction: 0 CLOSE, 1 OPEN (R351). -/
def ShutterDir.code : ShutterDir → Nat
  | .close => 0
  | .open => 1

/-- The position a direction commands: 2 CLOSED, 1 OPEN (R316). -/
def ShutterDir.pos : ShutterDir → Nat
  | .close => 2
  | .open => 1

/-- The position shown while a pulse runs: 4 CLOSING, 3 OPENING (R316). -/
def ShutterDir.moving : ShutterDir → Nat
  | .close => 4
  | .open => 3

/-- Set POS, and keep a settled position in the AON block (R292). -/
def Block.setPos (b : Block) (pos : Nat) : Block :=
  let b := b.set R.CP_SHT_STATUS.POS pos
  if pos < 3 then b.setShut (fun x => { x with aonPos := pos }) else b

/-- The part of an interval that lies at or after TIME clock `from_`. -/
def onPart (from_ : Nat) (p : Nat × Nat) : Nat := p.2 - max from_ p.1

/-- The bridge's on-time of the last 2 s, in TIME clocks, a running pulse included (R290). -/
def Block.onTime (b : Block) : Nat :=
  let from_ := b.now - msec 2000
  let run := match b.shut.pulse with
    | some p => onPart from_ (p.startedAt, b.now)
    | none => 0
  (b.shut.onLog.map (onPart from_)).sum + run

/-- Refuse a pulse: cause 0 LIMIT, 1 BUSY, 2 FAULT, 3 VSHT (R316). -/
def Block.refusePulse (b : Block) (cause : Nat) : Block := b.event 0x0702 (leBytes 1 cause)

/-- A pulse of the Midnight cycle was refused: the cycle aborts with the cause shutter, and a roll-back goes on without its
open pulse (log entry 19). -/
def Block.refusedMidnight (b : Block) (p : ShutterPulse) : Block :=
  if p.source ≠ .midnight then b
  else if b.night.rollback then { b with night := { b.night with rollback := false, netOffDue := true } }
  else if b.night.running then { b with night := { b.night with abortCause := some 3 } }
  else b

/-- The Midnight cycle, or the roll-back of an aborted one, is not over (R308, R743). -/
def Block.nightBusy (b : Block) : Bool := b.night.running || b.night.rollback || b.night.netOffDue

/-- The width of a pulse at its start, in ms: a width of 0 comes from CP_SHT_CTL (R288, R316). -/
def Block.pulseWidth (b : Block) (p : ShutterPulse) : Nat :=
  if p.width ≠ 0 then pulseMs p.width
  else pulseMs (b.get (match p.dir with
    | .close => R.CP_SHT_CTL.CLOSE_MS
    | .open => R.CP_SHT_CTL.OPEN_MS))

/-- Why a pulse is refused at its start: FAULT, VSHT or LIMIT. The limit is judged once, at the start: the on-time of the 2 s
before it and the whole width may come to 300 ms, whatever of the old on-time leaves the 2 s while the pulse runs (DEDUCED, log
entry 179; R290, R302, R311). -/
def Block.pulseRefusal (b : Block) (p : ShutterPulse) : Option Nat :=
  if b.flag R.CP_SHT_STATUS.SHT_FAULT then some 2
  else if !b.power.valid.contains .vsht then some 3
  else if msec 300 < b.onTime + msec (b.pulseWidth p) then some 0
  else none

/-- A pulse starts, or is refused (R288, R290). -/
def Block.startPulse (b : Block) (p : ShutterPulse) : Block :=
  match b.pulseRefusal p with
  | some c => (b.refusePulse c).refusedMidnight p
  | none =>
    let q := { p with width := b.pulseWidth p, startedAt := b.now }
    let b := if p.source = .midnight ∧ p.dir = .close then { b with night := { b.night with closeStarted := true } } else b
    (b.setShut (fun x => { x with pulse := some q })).setPos p.dir.moving

/-- A pulse starts now, or waits for the pulse that runs and the 1 ms of braking after it (R289, R315). -/
def Block.offerPulse (b : Block) (p : ShutterPulse) : Block :=
  if b.shut.pulse.isSome || b.shut.braking then b.setShut (fun x => { x with waiting := x.waiting ++ [p] }) else b.startPulse p

/-- The pulse of a SHUTTER action (R351). -/
def shutterPulseOf (e : ArmedEntry) : ShutterPulse :=
  { dir := if bitOf e.width 8 then .open else .close, width := e.width % 256,
    source := if e.mid = 2 then .midnight else .action }

/-- SHUTTER handed to the bridge; during a Midnight cycle any other action is refused BUSY, and FAULT while SHT_FAULT is set
(R288, R308, R311, log entry 138). -/
def Block.shutterAction (e : ArmedEntry) (b : Block) : Block :=
  let p := shutterPulseOf e
  if b.nightBusy && p.source == .action then b.refusePulse (if b.flag R.CP_SHT_STATUS.SHT_FAULT then 2 else 1) else b.offerPulse p

/-- SHUTTER: a shutter pulse starts, waits, or is refused (R288). -/
def Block.stepShutter (b : Block) (i : Nat) : Block := b.fireWith i 4 Block.shutterAction

/-- A pulse has left the bridge: braking starts, and its on-time is logged (R67, R290). -/
def Block.brake (b : Block) (p : ShutterPulse) : Block :=
  b.setShut (fun x => { x with
    pulse := none, braking := true, brakeAt := b.now,
    onLog := (x.onLog ++ [(p.startedAt, b.now)]).filter (fun q => decide (b.now - msec 2000 ≤ q.2)) })

/-- A pulse is complete: POS, SHUTTER_DONE, and the Midnight step that issued it (R291, R315, R372). -/
def Block.pulseDone (b : Block) (p : ShutterPulse) : Block :=
  let b := b.setPos p.dir.pos
  let b := if p.source = .dusk then b else b.event 0x0701 (leBytes 1 p.dir.code ++ leBytes 1 p.width ++ leBytes 1 p.dir.pos)
  if p.source = .midnight then { b with night := { b.night with pulseDone := true } } else b

/-- A pulse is cut short: the bridge brakes and POS is UNKNOWN. The position it commanded was never held out for its width, so
it is not checked against SHPOS, whatever SHPOS_EN (DESIGN CHOICE, log entry 180; R291, R309, R315). -/
def Block.cutPulse (b : Block) : Block :=
  match b.shut.pulse with
  | some p => (b.brake p).setPos 0
  | none => b

/-- The open pulse of a roll-back has ended: the Safety net ends at the next tick (R309, R743). -/
def Block.endRollback (b : Block) (p : ShutterPulse) : Block :=
  if b.night.rollback ∧ p.source = .midnight ∧ p.dir = .open then
    { b with night := { b.night with rollback := false, netOffDue := true } }
  else b

/-- SHUTTER_PULSE_END: the pulse has lasted its width and the bridge brakes (R288, R291). -/
def Block.stepPulseEnd (b : Block) : Block :=
  match b.shut.pulse with
  | none => b
  | some p =>
    if b.now < p.startedAt + msec p.width then b
    else
      let b := (b.brake p).endRollback p
      if b.flag R.CP_SHT_CTL.SHPOS_EN && p.source != .dusk then b.setShut (fun x => { x with check := some p }) else b.pulseDone p

/-- Start waiting pulses in turn until one runs. -/
def Block.startWaiting : List ShutterPulse → Block → Block
  | [], b => b
  | p :: rest, b =>
    let b := (b.setShut (fun x => { x with waiting := rest })).startPulse p
    if b.shut.pulse.isSome then b else Block.startWaiting rest b

/-- SHUTTER_BRAKE_END: the 1 ms of braking ends and a waiting pulse starts (R289). -/
def Block.stepBrakeEnd (b : Block) : Block :=
  if b.shut.braking ∧ b.shut.brakeAt + msec 1 ≤ b.now then
    let b := b.setShut (fun x => { x with braking := false })
    Block.startWaiting b.shut.waiting b
  else b

/-- A shutter fault: SHT_FAULT with its cause, POS UNKNOWN, and its event (R311): cause 0 overcurrent, 1 position. -/
def Block.shutterFault (b : Block) (cause : Nat) : Block :=
  let b := (b.setFlag R.CP_SHT_STATUS.SHT_FAULT true).setFlag (if cause = 0 then R.CP_SHT_STATUS.OVERCURRENT else R.CP_SHT_STATUS.POS_ERR) true
  (b.setPos 0).event 0x0703 (leBytes 1 cause)

/-- Whether the level of SHPOS shows the position a pulse commanded (R291). -/
def Block.shposMatches (b : Block) (p : ShutterPulse) (level : Bool) : Bool :=
  let closed := level == b.flag R.CP_SHT_CTL.SHPOS_POL
  match p.dir with
  | .close => closed
  | .open => !closed

/-! ## Meanings -/

/-- SHUTTER (R288). -/
def execShutter (dt entry : Nat) (s : State) : Host.Outcome State Fault Refusal := s.run dt (fun b => b.stepShutter entry)
/-- SHUTTER_BRAKE_END (R289). -/
def execShutterBrakeEnd (dt : Nat) (s : State) : Host.Outcome State Fault Refusal := s.run dt Block.stepBrakeEnd

end Sys2Proof.Machine
end

