-- ==== Sys2Proof/Machine/Pixel.lean ====
section
/-! DEFINITION. The geometry of the array, the timing of its rows and the seven stages of the correction pipeline
(chapters 06 and 07). -/

namespace Sys2Proof.Machine

/-! ## Geometry and timing (R186 to R198) -/

/-- The window that the words of FP_WIN ask for: Y0 and the height before clipping (R192). -/
def windowAsked (y08 h8 : Nat) : Nat × Nat := (8 * min 95 y08, 8 * (if h8 = 0 then 96 else min 96 h8))

/-- The window read: Y0 and W after clipping to the array (R192). -/
def windowOf (y08 h8 : Nat) : Nat × Nat := let p := windowAsked y08 h8; (p.1, min p.2 (768 - p.1))

/-- The window that the registers give. -/
def Block.window (b : Block) : Nat × Nat := windowOf (b.get R.FP_WIN.Y0_8) (b.get R.FP_WIN.H_8)

/-- Row time in PIX clocks of 20 ns (R218). -/
def rowTime (v : Nat) : Nat := max 300 v

/-- Row time of a frame in TIME clocks. -/
def Frame.rowClocks (fr : Frame) : Nat := 2 * rowTime (fr.get R.FP_ROWCFG.ROW_TIME)

/-- Row slots of a frame (R190). -/
def Frame.slots (fr : Frame) : Nat := fr.w + 12

/-- The last BIAS clock of a slot in which the bias pulse may run (R195). -/
def biasBound (row : Nat) : Nat := rowTime row / 4 - 10

/-- BIAS_WIDTH as it acts (R218). -/
def biasWidth (w : Nat) : Nat := max 1 w

/-- The middle of the pulse actually given, in half BIAS clocks from the slot start (R198). -/
def exposureHalf (start width bound : Nat) : Nat :=
  if bound ≤ start then 2 * bound else if start + width ≤ bound then 2 * start + width else start + bound

/-- The exposure instant of window row `y`, in TIME clocks from the frame's tick (R198). -/
def Frame.exposure (fr : Frame) (y : Nat) : Nat :=
  usec fr.row0 + (6 + y - fr.y0) * fr.rowClocks +
    4 * exposureHalf (fr.get R.FP_ROWPHASE.BIAS_START) (biasWidth (fr.get R.FP_ROWPHASE.BIAS_WIDTH)) (biasBound (fr.get R.FP_ROWCFG.ROW_TIME))

/-- The exposure instant of window row `y` in press time. -/
def Frame.exposurePt (fr : Frame) (y : Nat) : PT := fr.tickPt + BitVec.ofNat 48 (fr.exposure y)

/-- The read row of active row `y` (R187). -/
def Frame.readRow (fr : Frame) (y : Nat) : Nat := if fr.get R.FP_CTL.SHLY = 1 then 771 - y else y + 4

/-- The read column of active column `x` (R187). -/
def Frame.readCol (fr : Frame) (x : Nat) : Nat := if fr.get R.FP_CTL.SHLX = 1 then 1031 - x else x + 8

/-- The planar index of read position (c, r) (chapter 08). -/
def planar (c r : Nat) : Nat := 1024 * (r - 4) + (c - 8)

/-- The blind read columns (R186). -/
def blindCols : List Nat := (List.range 8) ++ (List.range 8).map (· + 1032)

/-- A code that is not saturated (R197). -/
def codeOk (c : Nat) : Bool := c != 0 && c != 16383

/-! ## Rounding and number formats (R222, R225) -/

/-- A stage's result in 1/16 count: rounded and clamped (R222). -/
def stage (q : Rat) : Int := clampInt (-1048576) 1048575 (roundAway (16 * q))

/-- The mean of a list, none of an empty one. -/
def meanOf (l : List Nat) : Option Rat := if l.isEmpty then none else some ((l.sum : Rat) / l.length)

/-! ## Addresses of coefficient SRAM (R253) -/

def recordAddr (p : Nat) : Nat := 8 * p
def shadowAddr (p : Nat) : Nat := 0x00600000 + 2 * p
def brefRowAddr (r : Nat) : Nat := 0x00780000 + 2 * (r - 4)
def brefColAddr (c : Nat) : Nat := 0x00780800 + 2 * (c - 8)
def radioAddr (i : Nat) : Nat := 0x00782000 + 2 * i
def remapAddr (a : Nat) : Nat := 0x00783000 + a

/-- A number of a frame's coefficient memory. -/
def Frame.le (fr : Frame) (a n : Nat) : Nat := Mem.readLe 0#8 fr.mem a n

/-- Whether the ECC word that holds an address failed in the frame (R245). -/
def Frame.ecc (fr : Frame) (a : Nat) : Bool := fr.eccBad.any (fun w => w / 8 == a / 8)

/-- A pixel's record as the frame reads it (R223, R228, R229). -/
structure PixelRecord where
  offset : Int
  gain : Nat
  drift : Int
  a : Nat
  bad : Bool
  deconvOff : Bool
  shutBad : Bool
  skim : Nat
deriving DecidableEq, Repr

/-- The record of planar index `p`, with the banks in force for the frame. -/
def Frame.pixel (fr : Frame) (p : Nat) : PixelRecord :=
  let flags := fr.le (recordAddr p + 6) 1
  { offset := signed 16 (fr.le (if fr.get R.CP_STATUS.OFFSET_BANK = 1 then shadowAddr p else recordAddr p) 2),
    gain := fr.le (if fr.get R.CP_STATUS.GAIN_BANK = 1 then shadowAddr p else recordAddr p + 2) 2,
    drift := signed 8 (fr.le (recordAddr p + 4) 1),
    a := fr.le (recordAddr p + 5) 1, bad := bitOf flags 0, deconvOff := bitOf flags 1,
    shutBad := match fr.shutBad with
      | some l => l.contains p
      | none => bitOf flags 2
    skim := fr.le (recordAddr p + 7) 1 % 64 }

/-- A coefficient word that the pixel uses failed its ECC (R221, R245). -/
def Frame.pixelEcc (fr : Frame) (p : Nat) : Bool :=
  fr.ecc (recordAddr p) || ((fr.get R.CP_STATUS.OFFSET_BANK == 1 || fr.get R.CP_STATUS.GAIN_BANK == 1) && fr.ecc (shadowAddr p))

/-- A pixel is bad in the frame for a cause other than SHUT_BAD (R221, R294). -/
def Frame.badOther (fr : Frame) (c p code : Nat) : Bool :=
  (fr.pixel p).bad || !codeOk code || fr.faulty.contains c || fr.pixelEcc p

/-! ## The signals of a row slot (R190, R194, R199, R201, R202) -/

/-- A row that a slot selects. -/
inductive SlotRow
  | thermistor | check
  | blind (r : Nat)
  | window (y : Nat)
deriving DecidableEq, Repr

/-- The row that a slot of a frame selects: none in the trailing slots (R190). -/
def Frame.slotRow (fr : Frame) (slot : Nat) : Option SlotRow :=
  if slot = 0 then some .thermistor
  else if slot = 1 then some .check
  else if slot < 6 then some (.blind (slot - 2))
  else if slot < fr.w + 6 then some (.window (fr.y0 + slot - 6))
  else none

/-- The bias amplitude of R199, in 1/255 µV, and in µV. -/
def bias255 (level : Nat) : Nat := 255000000 + 1400000 * level
@[inherit_doc bias255] def biasMicro (level : Nat) : Nat := bias255 level / 255

/-- No bias pulse is given in a frame (R195). -/
def Frame.noPulse (fr : Frame) : Bool := decide (biasBound (fr.get R.FP_ROWCFG.ROW_TIME) ≤ fr.get R.FP_ROWPHASE.BIAS_START)

/-- A slot gives a bias pulse (R195, R199). -/
def Frame.pulsed (fr : Frame) (slot : Nat) : Bool := (fr.slotRow slot).isSome && !fr.noPulse

/-- The start and the end of the bias pulse, in TIME clocks from the slot start (R194, R195). -/
def Frame.pulseSpan (fr : Frame) : Nat × Nat :=
  let start := fr.get R.FP_ROWPHASE.BIAS_START
  (8 * start, 8 * min (start + biasWidth (fr.get R.FP_ROWPHASE.BIAS_WIDTH)) (biasBound (fr.get R.FP_ROWCFG.ROW_TIME)))

/-- What the read-out does at a moment of a row slot (R194). -/
structure SlotSignals where
  row : Option SlotRow               -- the row selected
  converting : Bool                  -- the column ADCs convert the codes of the slot before, latched at 0.32 µs
  bias : Nat                         -- the bias, µV; 0 outside the pulse (R199)
  sampling : Bool                    -- the columns sample and hold
  resetting : Bool                   -- the integrators reset and the row deselects
deriving DecidableEq, Repr

/-- The signals of a slot `t` TIME clocks after its start; sample-and-hold and reset take its last 0.80 µs (R194, R199, log
entry 174). -/
def Frame.signals (fr : Frame) (slot t : Nat) : SlotSignals :=
  let row := fr.slotRow slot
  let span := fr.pulseSpan
  { row := row, converting := decide (0 < slot) && decide (t < 32),
    bias := if fr.pulsed slot ∧ span.1 ≤ t ∧ t < span.2 then biasMicro (fr.get R.FP_BIAS.LEVEL) else 0,
    sampling := row.isSome && decide (fr.rowClocks ≤ t + 80) && decide (t + 40 < fr.rowClocks),
    resetting := row.isSome && decide (fr.rowClocks ≤ t + 40) && decide (t < fr.rowClocks) }

/-- A read position is blind (R186). -/
def isBlind (c r : Nat) : Bool := decide (r < 4) || blindCols.contains c

/-- The skim code of a read position in a frame: BLIND_CODE of a blind pixel, bits [5:0] of the SKIM byte of an active one, and 0
of every pixel while EN is 0 (R201, R202). -/
def Frame.skimCode (fr : Frame) (c r : Nat) : Nat :=
  if fr.get R.FP_SKIM.EN = 0 then 0
  else if isBlind c r then fr.get R.FP_SKIM.BLIND_CODE
  else (fr.pixel (planar c r)).skim

/-- The skim current of a read position during the bias pulse, in nA: its code times the LSB of RANGE, 2, 4, 8 or 16 nA (R201). -/
def Frame.skimNano (fr : Frame) (c r : Nat) : Nat := fr.skimCode c r * 2 ^ (fr.get R.FP_SKIM.RANGE + 1)

/-! ## Stage 1: the blind references (R224 to R226) -/

/-- The valid blind-column codes of a row. -/
def Frame.blindCodes (fr : Frame) (codes : List Nat) : List Nat :=
  (blindCols.filter (fun c => codeOk (codes.getD c 0) && !fr.faulty.contains c)).map (fun c => codes.getD c 0)

/-- ΔR of read row `r`, and whether the row is short (R224, R245). -/
def Frame.rowTerm (fr : Frame) (r : Nat) (codes : List Nat) : Rat × Bool :=
  let v := fr.blindCodes codes
  if v.length < 4 then (fr.lastRowTerm, true)
  else if fr.ecc (brefRowAddr r) then (0, false)
  else ((meanOf v).getD 0 - (fr.le (brefRowAddr r) 2 : Rat) / 4, false)

/-- The mean of the valid codes of read column `c` in the blind rows (R225). -/
def Frame.blindRowMean (fr : Frame) (c : Nat) : Option Rat :=
  if fr.faulty.contains c then none else meanOf ((fr.blind.map (fun row => row.getD c 0)).filter codeOk)

/-- ΔCraw of read column `c`, in counts (R225, R245). -/
def Frame.colRaw (fr : Frame) (c : Nat) : Rat :=
  if fr.ecc (brefColAddr c) then 0
  else match fr.blindRowMean c with
    | some m => m - (fr.le (brefColAddr c) 2 : Rat) / 4
    | none => 0

/-- One step of the column filter, in 1/2,048 count (R225); `fresh` starts it from ΔCraw (R250). -/
def colFilter (k : Nat) (fresh : Bool) (prev : Int) (raw : Rat) : Int :=
  if fresh then roundAway (2048 * raw) else roundAway ((prev : Rat) + (2048 * raw - prev) / 2 ^ k)

/-- The column terms ΔC of the 1,024 active read columns after a frame's blind rows (R225). -/
def Frame.colTerms (fr : Frame) (fresh : Bool) (prev : List Int) : List Int :=
  (List.range 1024).map (fun i => colFilter (fr.get R.CP_CTL.COL_K) fresh (prev.getD i 0) (fr.colRaw (i + 8)))

/-- ΔC̄, in 1/2,048 count (R225). -/
def colMean (dC : List Int) : Int := roundAway ((dC.sum : Rat) / 1024)

/-! ## Stages 1 to 5 of one pixel -/

/-- The terms that a whole row shares. -/
structure RowTerms where
  dR : Rat
  dC : List Int
  dCmean : Int
  dt : Int
deriving DecidableEq, Repr

/-- Stage 1 (R226). -/
def Frame.stage1 (fr : Frame) (t : RowTerms) (c code : Nat) : Int :=
  let row := if fr.get R.CP_CTL.BLIND_ROW_EN = 1 then t.dR else 0
  let col : Rat := if fr.get R.CP_CTL.BLIND_COL_EN = 1 then ((t.dC.getD (c - 8) 0 - t.dCmean : Int) : Rat) / 2048 else 0
  stage (code - row - col)

/-- Stage 2 (R228). -/
def Frame.stage2 (fr : Frame) (px : PixelRecord) (x1 : Int) : Int :=
  stage ((x1 : Rat) / 16 - (if fr.get R.CP_CTL.OFFSET_EN = 1 then (px.offset : Rat) / 4 else 0))

/-- Stage 3 (R229). -/
def Frame.stage3 (fr : Frame) (px : PixelRecord) (x2 : Int) : Int :=
  if fr.get R.CP_CTL.GAIN_EN = 1 then stage ((x2 : Rat) / 16 * (px.gain / 16384)) else stage ((x2 : Rat) / 16)

/-- Stage 4 (R230). -/
def Frame.stage4 (fr : Frame) (px : PixelRecord) (dt : Int) (x3 : Int) : Int :=
  if fr.get R.CP_CTL.DRIFT_EN = 1 then stage ((x3 : Rat) / 16 - (px.drift : Rat) / 4 * ((dt : Rat) / 256)) else stage ((x3 : Rat) / 16)

/-- Stage 5 (R232, R245): the history value is none where it is invalid. -/
def Frame.stage5 (fr : Frame) (px : PixelRecord) (h : Option Int) (x4 : Int) : Int :=
  match h with
  | none => x4
  | some h =>
    if fr.get R.CP_CTL.DECONV_EN = 0 ∨ px.deconvOff ∨ fr.ecc (remapAddr px.a) then x4
    else
      let a : Rat := (min (fr.le (remapAddr px.a) 1) (fr.get R.CP_DECONV.A_MAX) : Nat) / 256
      let lim : Rat := fr.get R.CP_DCLAMP.DCLAMP
      let x : Rat := (x4 : Rat) / 16
      stage (x + max (-lim) (min lim (a * (x - (h : Rat) / 16) / (1 - a))))

/-- DT_MAX in 1/256 °C (R252). -/
def dtMax (v : Nat) : Int := 16 * (max 1 v : Nat)

/-- ΔT as the frame applies it (R230, R231). -/
def Frame.dtUsed (fr : Frame) : Int := clampInt (-(dtMax (fr.get R.CP_DRIFT.DT_MAX))) (dtMax (fr.get R.CP_DRIFT.DT_MAX)) fr.dt

/-- The result of stages 1 to 5 for one pixel. -/
structure Staged where
  x4 : Int
  y : Int
  bad : Bool
deriving DecidableEq, Repr

/-- Stages 1 to 5 of active pixel `x` of read row `r` (R220, R221). -/
def Frame.staged (fr : Frame) (t : RowTerms) (r : Nat) (codes : List Nat) (hist : Nat → Option Int) (x : Nat) : Staged :=
  let c := fr.readCol x
  let p := planar c r
  let px := fr.pixel p
  let code := codes.getD c 0
  let x4 := fr.stage4 px t.dt (fr.stage3 px (fr.stage2 px (fr.stage1 t c code)))
  { x4 := x4, y := fr.stage5 px (hist p) x4, bad := fr.badOther c p code || px.shutBad }

/-! ## Stages 6 and 7 -/

/-- The median of at most four values, as R236 forms it; none of no value. -/
def medianOf (l : List Int) : Option Rat :=
  let s := sortBy (fun a b => decide (a < b)) l
  match s with
  | [] => none
  | [a] => some a
  | [a, b] => some (((a : Rat) + b) / 2)
  | [_, b, _] => some b
  | _ :: b :: c :: _ => some (((b : Rat) + c) / 2)

/-- A corrected row of the frame, by its y. -/
def Frame.rowAt (fr : Frame) (y : Nat) : Option RowResult := fr.rows.find? (fun r => r.y == y)

/-- The value of a neighbour when it is valid (R236). -/
def neighbour (row : Option RowResult) (x : Nat) : List Int :=
  match row with
  | none => []
  | some r =>
    match r.vals[x]?, r.bad[x]? with
    | some v, some false => [v]
    | _, _ => []

/-- The valid 4-neighbours' stage 5 results of pixel (x, y) (R236, R237). -/
def Frame.neighbours (fr : Frame) (row : RowResult) (x : Nat) : List Int :=
  (if x = 0 then [] else neighbour (some row) (x - 1)) ++ neighbour (some row) (x + 1) ++
  (if row.y = 0 then [] else neighbour (fr.rowAt (row.y - 1)) x) ++ neighbour (fr.rowAt (row.y + 1)) x

/-- Stage 6: the stage 5 value that goes on in 1/16 count, or none for no value (R236, R237). -/
def Frame.stage6 (fr : Frame) (row : RowResult) (x : Nat) : Option Rat :=
  if row.bad.getD x false then
    if fr.get R.CP_CTL.REPLACE_EN = 1 then medianOf (fr.neighbours row x) else none
  else some (row.vals.getD x 0)

/-- The radiometric conversion of a value in counts through a table, 65,535 for no value (R238 to R240, R245): `le` reads
the memory and `ecc` says which words failed. -/
def radioOf (le : Nat → Nat → Nat) (ecc : Nat → Bool) (v : Rat) : Nat :=
  let v := max 0 (min 65472 v)
  let i := min (ratFloor (v / 64)).toNat 1022
  let t0 := le (radioAddr i) 2
  let t1 := le (radioAddr (i + 1)) 2
  if t0 = 65535 ∨ t1 = 65535 ∨ ecc (radioAddr i) ∨ ecc (radioAddr (i + 1)) then 65535
  else (clampInt 0 65534 (roundUp (t0 + (v - 64 * i) / 64 * ((t1 : Rat) - t0)))).toNat

/-- Stage 7: radiometric conversion of a value in 1/16 count (R238 to R240, R245). -/
def Frame.stage7 (fr : Frame) (y : Rat) : Nat :=
  let v := y / 16 + fr.get R.CP_SHUT_REF.SHUT_REF
  if fr.get R.CP_CTL.RADIO_EN = 0 then (clampInt 0 65534 (roundUp v)).toNat else radioOf fr.le fr.ecc v

/-- The corrected values of a row, once its neighbour rows are known. -/
def Frame.finish (fr : Frame) (row : RowResult) : List Nat :=
  (List.range 1024).map (fun x => match fr.stage6 row x with
    | some y => fr.stage7 y
    | none => 65535)

/-- Bad pixels of a row that stage 6 replaced (R236, R252). -/
def Frame.replacedIn (fr : Frame) (row : RowResult) : Nat :=
  ((List.range 1024).filter (fun x => row.bad.getD x false && (fr.stage6 row x).isSome)).length

/-- Finish row `y` of a frame: its corrected values join the image. -/
def Frame.finishRow (fr : Frame) (y : Nat) : Frame :=
  match fr.rowAt y with
  | none => fr
  | some row =>
    let vals := fr.finish row
    { fr with image := fr.image ++ [(y, vals)], replaced := fr.replaced + fr.replacedIn row,
              noValue := fr.noValue + (vals.filter (· == 65535)).length }

/-! ## History (R235, R246) -/

/-- The history of a read row for frame `n`: only values that frame n − 1 wrote count. -/
def historyOf (hist : List (Nat × Nat × List (Option Int))) (n : Nat) (first : Bool) (unc : List (List Nat)) (r p : Nat) : Option Int :=
  if first || unc.any (fun g => g.contains p) then none
  else match hist.find? (fun h => h.1 == r) with
    | some (_, m, vals) => if (m + 1) % 2 ^ 32 = n then vals.getD (p - 1024 * (r - 4)) none else none
    | none => none

/-- Replace a read row's history. -/
def putHistory (hist : List (Nat × Nat × List (Option Int))) (r n : Nat) (vals : List (Option Int)) : List (Nat × Nat × List (Option Int)) :=
  (r, n, vals) :: hist.filter (fun h => h.1 != r)

end Sys2Proof.Machine
end

