-- ==== Sys2Proof/Machine/Bracket.lean ====
section
/-! DEFINITION. Gain brackets: selection, loads, swaps and copy-backs through the shadow bank, and the meanings of
BRACKET_LOAD_DONE, COPYBACK_DONE and READY_HOLD_EXPIRY (chapter 08). -/

namespace Sys2Proof.Machine

/-- Change the bracket state. -/
def Block.setBrk (b : Block) (f : Brackets → Brackets) : Block := { b with brk := f b.brk }

/-! ## Selection (R256 to R260) -/

/-- The directory entry of bracket `k` (R256). -/
def Brackets.entry (x : Brackets) (k : Nat) : Option DirEntry := x.dir.find? (fun e => e.type == 1 && e.index == k)

/-- T_LO of bracket `k`, 1/256 °C. -/
def Brackets.tLo (x : Brackets) (k : Nat) : Int := match x.entry k with
  | some e => e.tLo
  | none => 0

/-- T_HI of bracket `k`, 1/256 °C. -/
def Brackets.tHi (x : Brackets) (k : Nat) : Int := match x.entry k with
  | some e => e.tHi
  | none => 0

/-- The bracket that a TFPA value selects (R257). -/
def Brackets.select (x : Brackets) (t : Int) : Nat :=
  if t < x.tLo 0 then 0
  else ((List.range 16).find? (fun k => decide (x.tLo k ≤ t) && decide (t < x.tHi k))).getD 15

/-- The bracket in force. -/
def Block.bracket (b : Block) : Nat := b.get R.CP_STATUS.BRACKET

/-- SWAP_HYST in 1/256 °C. -/
def Block.swapHyst (b : Block) : Int := b.get R.CP_BRK_CTL.SWAP_HYST

/-- A TFPA value is out of bracket for bracket `k` (R258). -/
def Block.outOf (b : Block) (k : Nat) (t : Int) : Bool :=
  decide (t < b.brk.tLo k - b.swapHyst) || decide (b.brk.tHi k + b.swapHyst ≤ t)

/-! ## Loads (R261, R283) -/

/-- Ask the memory port for a line fill (R599). -/
def Block.askFill (b : Block) (who : FillFor) (addr : Nat) : Block :=
  { b with mp := { b.mp with fills := b.mp.fills ++ [{ who := who, addr := addr, askedAt := b.now }] } }

/-- Withdraw a requester's fills: waiting ones vanish, one on the wire ends unused. -/
def Block.dropFills (b : Block) (who : FillFor) : Block :=
  { b with mp := { b.mp with
      fills := b.mp.fills.filter (fun f => f.who != who),
      wire := match b.mp.wire with
        | some (.fill f) => if f.who = who then some (.fill { f with dead := true }) else b.mp.wire
        | w => w } }

/-- The flash address of fill `n` of a load: 6 fills of block CRCs, then the payload (R261). -/
def Block.loadAddr (b : Block) (k n : Nat) : Nat :=
  let off := match b.brk.entry k with
    | some e => e.offset
    | none => 0
  if n < 6 then b.brk.crcTab + 4 * (off / 4096) + 256 * n else off + 256 * (n - 6)

/-- A bracket load starts (R261, R270). -/
def Block.startLoad (b : Block) (k : Nat) (late runAhead upward : Bool) : Block :=
  let b := b.setBrk (fun x => { x with
    shadow := .loading, content := .gain, target := k, late := late, runAhead := runAhead, upward := upward,
    crcs := [], fills := 0, block := [], loaded := false })
  ((b.set R.CP_BRK_STATUS.PROGRESS 0).inc R.CP_BRK_COUNT.LOADS).askFill .bracket (b.loadAddr k 0)

/-- The shadow is IDLE and empty; CP_BRK_STATUS.TARGET and PROGRESS keep the values of its last load (the model's choice, log
entry 176). -/
def Block.idleShadow (b : Block) : Block :=
  (b.setBrk (fun x => { x with shadow := .idle, content := .nothing, late := false, runAhead := false, crcs := [], block := [], fills := 0, loaded := false })).dropFills .bracket

/-- Discard or cancel a LOADING or READY gain shadow, counted in CANCELS (R270). -/
def Block.discardShadow (b : Block) : Block :=
  if (b.brk.shadow = .loading ∨ b.brk.shadow = .ready) ∧ b.brk.content = .gain then b.idleShadow.inc R.CP_BRK_COUNT.CANCELS else b

/-- A load fails: shadow discarded and counted so, LOAD_FAIL, its event, and no automatic load of that bracket for 60 s (R283,
R286). -/
def Block.loadFail (b : Block) (cause : Nat) : Block :=
  let k := b.brk.target
  let block := b.get R.CP_BRK_STATUS.PROGRESS
  let b := (b.idleShadow.inc R.CP_BRK_COUNT.CANCELS).setFlag R.CP_BRK_STATUS.LOAD_FAIL true
  let b := b.setBrk (fun x => { x with holdOff := (k, b.now + msec 60000) :: x.holdOff.filter (fun h => h.1 != k) })
  b.event 0x020D (leBytes 1 k ++ leBytes 2 block ++ leBytes 1 cause)

/-- Whether an automatic load of bracket `k` is held off after a failure (R283). -/
def Block.heldOff (b : Block) (k : Nat) : Bool := b.brk.holdOff.any (fun h => h.1 == k && decide (b.now < h.2))

/-- A line fill of the load in progress completes: block CRCs first, then blocks checked as they complete (R261, R283). -/
def Block.bracketFill (b : Block) (data : List Byte) : Block :=
  let n := b.brk.fills
  let k := b.brk.target
  if b.brk.shadow ≠ .loading then b
  else if n < 6 then
    (b.setBrk (fun x => { x with crcs := x.crcs ++ data, fills := n + 1 })).askFill .bracket (b.loadAddr k (n + 1))
  else
    let block := b.brk.block ++ data
    let b := b.setBrk (fun x => { x with block := block, fills := n + 1 })
    let i := (n - 6) / 16
    if (n - 6) % 16 ≠ 15 then b.askFill .bracket (b.loadAddr k (n + 1))
    else if crc32 block ≠ leField b.brk.crcs (4 * i) 4 then b.loadFail 0
    else
      let b := ((b.store (0x00600000 + 4096 * i) block).set R.CP_BRK_STATUS.PROGRESS (i + 1)).setBrk (fun x => { x with block := [] })
      if i = 383 then b.setBrk (fun x => { x with loaded := true, sums := false }) else b.askFill .bracket (b.loadAddr k (n + 1))

/-- BRACKET_LOAD_DONE: the last block checked good and the shadow is READY (R263). -/
def Block.stepLoadDone (b : Block) : Block :=
  if b.brk.shadow = .loading ∧ b.brk.loaded then b.setBrk (fun x => { x with shadow := .ready, readyAt := b.now }) else b

/-- READY_HOLD_EXPIRY: a READY gain shadow not swapped for 60 s is discarded (R268). -/
def Block.stepReadyExpiry (b : Block) : Block :=
  if b.brk.shadow = .ready ∧ b.brk.content = .gain ∧ b.brk.forced = none ∧ b.brk.readyAt + msec 60000 ≤ b.now then b.discardShadow else b

/-! ## Copy-back (R269, R298) -/

/-- The shadow's gains in the GAIN fields of the pixel records. -/
def copyGain (m : Mem) : Mem :=
  let kept := m.filter (fun c => !(decide (c.1 < 0x00600000) && (c.1 % 8 == 2 || c.1 % 8 == 3)))
  (m.filter (fun c => decide (0x00600000 ≤ c.1) && decide (c.1 < 0x00780000))).foldl
    (fun m c => Mem.write 0#8 m (8 * ((c.1 - 0x00600000) / 2) + 2 + c.1 % 2) c.2) kept

/-- The shadow's offsets in the OFFSET fields of the pixel records. -/
def copyOffset (m : Mem) : Mem :=
  let kept := m.filter (fun c => !(decide (c.1 < 0x00600000) && (c.1 % 8 == 0 || c.1 % 8 == 1)))
  (m.filter (fun c => decide (0x00600000 ≤ c.1) && decide (c.1 < 0x00780000))).foldl
    (fun m c => Mem.write 0#8 m (8 * ((c.1 - 0x00600000) / 2) + c.1 % 2) c.2) kept

/-- FLAGS.SHUT_BAD of every pixel record: 1 for the pixels listed, else 0 (R296, R298). -/
def copyShutBad (m : Mem) (bad : List Nat) : Mem :=
  let cleared := (m.filter (fun c => decide (c.1 < 0x00600000) && c.1 % 8 == 6)).foldl
    (fun m c => Mem.write 0#8 m c.1 (BitVec.ofNat 8 (clrBit c.2.toNat 2))) m
  bad.foldl (fun m p => Mem.write 0#8 m (8 * p + 6) (BitVec.ofNat 8 (orBit (Mem.read 0#8 m (8 * p + 6)).toNat 2))) cleared

/-- The copy-back of whatever the shadow holds is complete in the pixel records (R269, R285, R298). -/
def Block.finishCopyback (b : Block) : Block :=
  match b.brk.content with
  | .gain => { b with mem := copyGain b.mem, brk := { b.brk with copyback := false, copied := true, recValid := true } }
  | .offsets =>
    { b with mem := copyShutBad (copyOffset b.mem) (b.night.shutBadWork.getD []),
             brk := { b.brk with copyback := false, copied := true }, night := { b.night with shutBadWork := none } }
  | .nothing => b

/-- COPYBACK_DONE: the copy-back completes; the bank in force returns to the records at the next tick (R269). -/
def Block.stepCopybackDone (b : Block) : Block := if b.brk.copyback then b.finishCopyback else b

/-! ## What a tick does (R264 to R273) -/

/-- The bank in force returns to the pixel records at the first tick after a copy-back (R269, R272, R298). -/
def Block.returnBank (b : Block) : Block :=
  if b.brk.copied then
    let held := b.brk.heldByMidnight && b.brk.content != .offsets
    let b := ((b.set R.CP_STATUS.GAIN_BANK 0).set R.CP_STATUS.OFFSET_BANK 0).idleShadow
    b.setBrk (fun x => { x with copied := false, heldByMidnight := held })
  else b

/-- A swap: the shadow becomes the gain in force and its copy-back starts (R267, R269). -/
def Block.swapBracket (b : Block) : Block :=
  let old := b.bracket
  let b := (b.set R.CP_STATUS.BRACKET b.brk.target).set R.CP_STATUS.GAIN_BANK 1
  let b := b.setBrk (fun x => { x with shadow := .inForce, copyback := true, copied := false, recValid := false })
  b.event 0x020C (leBytes 1 old ++ leBytes 1 b.brk.target ++ leBytes 2 (unsigned 16 b.brk.measured))

/-- Until TFPA_RESTORED the measured TFPA is held and starts nothing (R267). -/
def Block.tfpaHeld (b : Block) : Bool := b.img.tfpaFault

/-- Whether the READY shadow swaps in this window (R267, R271, R273). -/
def Block.swapDue (b : Block) : Bool :=
  b.brk.shadow == .ready && b.brk.content == .gain && !b.brk.heldByMidnight &&
  (match b.brk.forced with
   | some k => b.brk.target == k
   | none => b.brk.running && b.flag R.CP_BRK_CTL.AUTO_EN && !b.tfpaHeld && b.outOf b.bracket b.brk.measured &&
       b.brk.select b.brk.measured == b.brk.target)

/-- BRACKET_SWAP and the return of a copied bank, in a commit window (R28, R267, R269). -/
def Block.bracketWindow (b : Block) : Block :=
  let b := b.returnBank
  if b.swapDue then b.swapBracket else b

/-- T_HI of the bracket in force less BAND, and T_LO plus BAND, in 1/256 °C (R264). -/
def Block.upperEdge (b : Block) : Int := b.brk.tHi b.bracket - 16 * (b.get R.CP_BRK_CTL.BAND : Nat)
@[inherit_doc Block.upperEdge] def Block.lowerEdge (b : Block) : Int := b.brk.tLo b.bracket + 16 * (b.get R.CP_BRK_CTL.BAND : Nat)

/-- The upward condition of a run-ahead load (R264). -/
def Block.upwardHolds (b : Block) : Bool :=
  decide (b.upperEdge ≤ b.thermal.latchedH) && decide (b.thermal.latched0 < b.thermal.latchedH)

/-- The downward condition (R264). -/
def Block.downwardHolds (b : Block) : Bool :=
  decide (b.thermal.latchedH < b.lowerEdge) && decide (b.thermal.latchedH < b.thermal.latched0)

/-- The condition of a run-ahead load fails by more than CANCEL_HYST; the downward case is the mirror image (R265). -/
def Block.aheadFails (b : Block) : Bool :=
  let ch : Int := 16 * (b.get R.CP_BRK_CTL.CANCEL_HYST : Nat)
  let h := b.thermal.latchedH
  if b.brk.upward then decide (h < b.upperEdge - ch) || decide (h < b.thermal.latched0 - ch)
  else decide (b.lowerEdge + ch < h) || decide (b.thermal.latched0 + ch < h)

/-- LOAD_CANCEL (R265). -/
def Block.cancelLoad (b : Block) : Block :=
  if (b.brk.shadow = .loading ∨ b.brk.shadow = .ready) ∧ b.brk.runAhead ∧ b.aheadFails then b.discardShadow else b

/-- LATE_LOAD: any other gain shadow is discarded, and the selected bracket loads unless a failure holds it off (R266, R283). -/
def Block.lateLoad (b : Block) : Block :=
  let sel := b.brk.select b.brk.measured
  if !b.tfpaHeld ∧ b.outOf b.bracket b.brk.measured ∧ sel ≠ b.bracket ∧ b.brk.shadow ≠ .inForce ∧
     !((b.brk.shadow == .loading || b.brk.shadow == .ready) && b.brk.target == sel) then
    if b.heldOff sel then b.discardShadow else b.discardShadow.startLoad sel true false false
  else b

/-- RUN_AHEAD_LOAD (R264). -/
def Block.runAheadLoad (b : Block) : Block :=
  let k := b.bracket
  if b.brk.shadow ≠ .idle then b
  else if b.upwardHolds ∧ k < 15 ∧ !b.heldOff (k + 1) then b.startLoad (k + 1) false true true
  else if b.downwardHolds ∧ 0 < k ∧ !b.heldOff (k - 1) then b.startLoad (k - 1) false true false
  else b

/-- A forced load that waited for the shadow starts (R273). -/
def Block.forceDue (b : Block) : Block :=
  match b.brk.forced with
  | some k => if b.brk.forceDue ∧ !b.brk.heldByMidnight ∧ b.brk.shadow = .idle then
      (b.setBrk (fun x => { x with forceDue := false })).startLoad k false false false
    else b
  | none => b

/-- The load decisions of a tick, from the prediction latched at it (R264 to R266, R271 to R273). -/
def Block.bracketTick (b : Block) : Block :=
  let b := b.forceDue
  if b.brk.running ∧ b.brk.forced = none ∧ b.flag R.CP_BRK_CTL.AUTO_EN ∧ !b.brk.heldByMidnight then
    b.cancelLoad.lateLoad.runAheadLoad
  else if b.brk.running ∧ b.brk.forced = none ∧ !b.brk.heldByMidnight then b.cancelLoad
  else b

/-- BRACKET_FORCE: force bracket `k`, or release the force (R273). -/
def Block.forceBracket (b : Block) (k : Option Nat) : Block :=
  match k with
  | none => b.setBrk (fun x => { x with forced := none, forceDue := false })
  | some k =>
    let b := b.setBrk (fun x => { x with forced := some k, forceDue := true })
    (if b.brk.heldByMidnight then b else b.discardShadow).forceDue

/-- Run-ahead, late loads and automatic swaps stop, and a LOADING or READY shadow is discarded (R284). A forced load discarded here
does not start again, though FORCED stays 1 (the model's choice, log entry 175). -/
def Block.stopBrackets (b : Block) : Block := b.discardShadow.setBrk (fun x => { x with running := false })

/-- A forced load is in the shadow, LOADING or READY (R273). -/
def Brackets.forcing (x : Brackets) : Bool :=
  x.forced == some x.target && x.content == .gain && (x.shadow == .loading || x.shadow == .ready)

/-- The Midnight cycle takes the shadow: none while it is IN_FORCE. A forced load discarded for it starts when the cycle releases
the shadow (R272, R273). -/
def Block.takeShadow (b : Block) : Option Block :=
  if b.brk.shadow = .inForce then none
  else some (b.discardShadow.setBrk (fun x => { x with heldByMidnight := true, forceDue := x.forceDue || b.brk.forcing }))

/-- The Midnight cycle releases the shadow without having swapped (R272, R309, R310). -/
def Block.releaseShadow (b : Block) : Block :=
  if b.brk.shadow = .inForce then b else (b.idleShadow.setBrk (fun x => { x with heldByMidnight := false })).forceDue

/-! ## Meanings -/

/-- BRACKET_LOAD_DONE (R263). -/
def execBracketLoadDone (dt : Nat) (s : State) : Host.Outcome State Fault Refusal := s.run dt Block.stepLoadDone
/-- COPYBACK_DONE (R269). -/
def execCopybackDone (dt : Nat) (s : State) : Host.Outcome State Fault Refusal := s.run dt Block.stepCopybackDone
/-- READY_HOLD_EXPIRY (R268). -/
def execReadyHoldExpiry (dt : Nat) (s : State) : Host.Outcome State Fault Refusal := s.run dt Block.stepReadyExpiry

end Sys2Proof.Machine
end

