-- ==== Sys2Proof/Machine/Routine.lean ====
section
/-! DEFINITION. The start and the end of a micro-routine, what waits behind it, and the commands that wait in the
mailboxes (chapters 16 and 17). -/

namespace Sys2Proof.Machine

/-- Change the sequencer's state. -/
def Block.setSeq (b : Block) (f : Sequencer → Sequencer) : Block := { b with seq := f b.seq }

/-- A micro-routine begins at its first step; `dst` is where its final reply goes (R580). -/
def Block.startRoutine (b : Block) (k : RoutineKind) (step : Nat) (dst : Option ReplyTo) : Block :=
  b.setSeq (fun x => { x with routine := some k, step := step, reply := dst, restarts := 0 })

/-- The running routine moves to a named step (R582). -/
def Block.toStep (b : Block) (step : Nat) : Block := b.setSeq (fun x => { x with step := step, restarts := 0 })

/-- A slice of the running routine reaches its boundary: the next one is another slice (R711, R712). -/
def Block.sliceDone (b : Block) : Block := b.setSeq (fun x => { x with restarts := 0 })

/-- The running routine ends. -/
def Block.endRoutine (b : Block) (how : RoutineEnd) : Block :=
  match b.seq.routine with
  | none => b
  | some k => b.setSeq (fun x => { x with
      routine := none, step := 0, reply := none, restarts := 0, lastRoutine := k.code, lastEnd := how })

/-- The running routine ends and sends the final reply it owes. -/
def Block.finishRoutine (b : Block) (how : RoutineEnd) (status : Nat) (ws : List Nat) : Block :=
  (b.replyOpt b.seq.reply status ws).endRoutine how

/-- No micro-routine runs and nothing waits for one to end. -/
def Block.seqFree (b : Block) : Bool := b.seq.routine.isNone && b.seq.held.isEmpty

/-- The sequencer keeps something until the routines before it have ended (R557). -/
def Block.hold (b : Block) (h : Held) : Block := b.setSeq (fun x => { x with held := x.held ++ [h] })

/-- The sequencer answers commands: from the end of D1, but not in Dusk, NAP or DEEP (R563, R584). -/
def Block.seqListens (b : Block) : Bool :=
  (b.power.mode == .run || b.power.mode == .idle) && b.power.dusk.isNone && b.power.d2

/-- Words of a command that stated too many arguments are discarded as they arrive on its channel (R561). -/
def Block.settleDiscard (b : Block) (c : Nat) : Block :=
  let d := b.seq.discard.getD c 0
  let n := min d (b.toward c 2).length
  if n = 0 then b else (b.dequeue c 2 n).setSeq (fun x => { x with discard := x.discard.set c (d - n) })

/-! ## Commands (R554, R559, R561) -/

/-- The opcode, the argument count and the tag of a command word (R554). -/
def cmdOp (w : Word) : Nat := w.toNat / 2 ^ 24
@[inherit_doc cmdOp] def cmdCount (w : Word) : Nat := w.toNat / 2 ^ 16 % 256
@[inherit_doc cmdOp] def cmdTag (w : Word) : Nat := w.toNat % 2 ^ 16

/-- The argument counts of an opcode, none for one that is not in the command set (R559). -/
def cmdArgs (op : Nat) : Option (List Nat) := match op with
  | 0x01 => some (List.range 8)
  | 0x02 => some [0]
  | 0x03 => some [0]
  | 0x10 => some [2]
  | 0x11 => some [1]
  | 0x12 => some [1]
  | 0x13 => some [1]
  | 0x20 => some [0]
  | 0x21 => some [0]
  | 0x30 => some [0]
  | 0x40 => some [1]
  | 0x50 => some [3]
  | 0x51 => some [0]
  | 0x52 => some [0]
  | 0x60 => some [1]
  | 0x70 => some [4]
  | _ => none

/-- A command word is in order: its opcode is known and takes its argument count. -/
def cmdGood (w : Word) : Bool := match cmdArgs (cmdOp w) with
  | some l => l.contains (cmdCount w)
  | none => false

/-- The command at the front of a channel that the sequencer may take: all its arguments are there, or it states too many;
and no reply waits on the channel (R554, R558, R561). -/
def Block.nextCommand (b : Block) (ch : Nat) : Option (Word × List Word) :=
  if !b.seqListens || (b.hostEnd ch).isNone || b.seq.waiting.any (fun p => p.1 == ch) then none
  else match b.toward ch 2 with
    | [] => none
    | w :: rest =>
      if 7 < cmdCount w then some (w, [])
      else if rest.length < cmdCount w then none
      else some (w, rest.take (cmdCount w))

/-- The next command of a channel when it is in order and has the opcode given. -/
def Block.goodCommand (b : Block) (ch op : Nat) : Option (Word × List Word) := match b.nextCommand ch with
  | some (w, args) => if cmdGood w ∧ cmdOp w = op then some (w, args) else none
  | none => none

/-- ABORT_ROUTINE has come whole and a routine runs that it will reach at the next step boundary (R583, R589). -/
def Block.abortPending (b : Block) : Bool :=
  b.seq.routine.isSome && (List.range 8).any (fun ch => (b.goodCommand ch 0x21).isSome)

end Sys2Proof.Machine
end

