-- ==== Sys2Proof/Machine/Midnight.lean ====
section
/-! DEFINITION. The Midnight cycle from M0 to M8, its triggers, aborts and failures, and the position check and overcurrent
of the shutter (chapter 09). -/

namespace Sys2Proof.Machine

/-- Change the Midnight cycle's state. -/
def Block.setNight (b : Block) (f : Midnight → Midnight) : Block := { b with night := f b.night }

/-- The cycle moves to step M`k` (R293, R316). -/
def Block.nightStep (b : Block) (k : Nat) : Block :=
  let b := (b.setNight (fun x => { x with step := k, settled := 0 })).set R.CP_MN_STATUS.STEP (k + 1)
  if b.night.dawn then b else b.toStep k

/-- The cycle's registers and its routine end; in Dawn the Dawn routine goes on (R313). -/
def Block.nightOver (b : Block) (result : Nat) (how : RoutineEnd) (status : Nat) (ws : List Nat) : Block :=
  let dawn := b.night.dawn
  let b := (b.set R.CP_MN_STATUS.STEP 0).set R.CP_MN_STATUS.LAST_RESULT result
  let b := b.setNight (fun x => { x with running := false, step := 0, dawn := false, held := false, frames := [],
                                         newOffsets := [], newRow := [], newCol := [], verifyN := none, abortCause := none })
  if dawn then b else b.finishRoutine how status ws

/-- MIDNIGHT_FAIL: result, cause, R in 1/2 count and the count of new SHUT_BAD pixels (R310, R316, log entry 21). -/
def Block.nightFail (b : Block) (result cause : Nat) : Block :=
  b.event 0x0213 (leBytes 1 result ++ leBytes 1 cause ++ leBytes 2 (min 0xFFFF b.night.residual) ++ leBytes 4 b.night.newlyBad.length)

/-! ## The Safety net -/

/-- The Safety net comes into force at frame `n` (R303). -/
def Block.netOn (b : Block) (n : Nat) : Block :=
  let b := { b with zones := { b.zones with net := true, netFrom := n } }
  (b.set R.CP_MN_STATUS.SAFETY_NET 1).event 0x0211 (leBytes 4 n)

/-- The Safety net ends: frame `n` is measured again (R298, R309, R310, R312). -/
def Block.netOff (b : Block) (n : Nat) : Block :=
  let b := b.setNight (fun x => { x with netOffDue := false })
  if b.zones.net then
    let b := { b with zones := { b.zones with net := false } }
    (b.set R.CP_MN_STATUS.SAFETY_NET 0).event 0x0214 (leBytes 4 n)
  else b

/-- The Safety net ends at the next tick, when it is in force. -/
def Block.netOffNext (b : Block) : Block := if b.zones.net then b.setNight (fun x => { x with netOffDue := true }) else b

/-! ## Acceptance (R293 M0, R300 to R302) -/

/-- M0 completes once the shadow is held and an earlier roll-back has ended the Safety net (R272, R293, R745). -/
def Block.nightAccept (b : Block) : Block :=
  if !b.night.running || b.night.held || b.zones.net || b.night.rollback || b.night.netOffDue then b
  else match b.takeShadow with
    | none => b
    | some b =>
      let b := b.setNight (fun x => { x with
        held := true, nAcc := max 3 (b.get R.CP_MN_CTL.N_ACC) + 1, settle := b.get R.CP_MN_CTL.SETTLE,
        resid := b.get R.CP_MN_CTL.RESID })
      b.nightStep 1

/-- Dawn is before D5: in D0 to D4, or halted there (R80, R111, R302). -/
def Block.beforeD5 (b : Block) : Bool := decide (b.phase < 5) || b.phase == 14

/-- A Midnight request is refused at M0 (R302). -/
def Block.nightRefused (b : Block) : Bool :=
  !b.power.valid.contains .vsht || b.flag R.CP_SHT_STATUS.SHT_FAULT || b.beforeD5

/-- M0 of a cycle: the request is refused, or accepted (R293, R302). `dst` is where its replies go. A refused request is no failed
or aborted cycle: the hold-off of automatic requests does not start (DESIGN CHOICE, log entry 177; R301). -/
def Block.beginMidnight (b : Block) (trigger : Nat) (dawn : Bool) (dst : Option ReplyTo) : Block :=
  if b.nightRefused then
    let b := (b.set R.CP_MN_STATUS.LAST_RESULT 4).setNight (fun x => { x with residual := 0, newlyBad := [] })
    (b.nightFail 4 4).replyOpt dst 4 []
  else
    let b := if dawn then b else (b.startRoutine .midnight 0 dst).replyOpt dst 1 []
    let b := b.setNight (fun x => { x with
      running := true, step := 0, trigger := trigger, dawn := dawn, held := false, settled := 0, frames := [], newOffsets := [],
      newRow := [], newCol := [], newShutRef := none, newBad := [], newlyBad := [], residual := 0, verifyN := none,
      abortCause := none, closeStarted := false, openIssued := false, pulseDone := false })
    let b := ((b.set R.CP_MN_STATUS.STEP 1).set R.CP_MN_STATUS.TRIGGER trigger).event 0x0210 (leBytes 1 trigger)
    b.nightAccept

/-- A timer (0) or drift (1) request: started, kept behind the running routine, or discarded (R301). -/
def Block.requestMidnight (b : Block) (trigger : Nat) : Block :=
  let recent := match b.night.failedAt with
    | some t => decide (b.now < t + msec 60000)
    | none => false
  let kept := b.seq.held.any (fun h => match h with
    | .midnight t => decide (t < 2)
    | .command _ _ _ => false)
  if b.night.running || recent || kept then b
  else if b.seqFree then b.beginMidnight trigger false none
  else b.hold (.midnight trigger)

/-- TIME clocks since the last successful M8, or since D6; before the first D6 nothing is timed (R300). -/
def Block.sinceDone (b : Block) : Option Nat := b.night.lastDone.map (fun t => b.now - t)

/-- MIDNIGHT_TIMER: TIMER_MIN minutes have passed since the last successful M8, or since D6 (R300). -/
def Block.stepMidnightTimer (b : Block) : Block :=
  let t := b.get R.CP_MN_CTL.TIMER_MIN
  match b.sinceDone with
  | some d => if t ≠ 0 ∧ msec (60000 * t) ≤ d ∧ b.power.mode = .run then b.requestMidnight 0 else b
  | none => b

/-- The drift estimate at a tick: the latched |ΔT| exceeds DRIFT_BOUND (R300). -/
def Block.driftTrigger (b : Block) : Block :=
  if b.flag R.CP_MN_CTL.DRIFT_TRIG_EN ∧ (16 * b.get R.CP_MN_CTL.DRIFT_BOUND : Nat) < b.thermal.dT.natAbs then b.requestMidnight 1 else b

/-! ## Aborts and failures -/

/-- The sequencer's SHUTTER entries that have not started are withdrawn (log entry 25). -/
def Block.withdrawPulses (b : Block) : Block :=
  let b := { b with sched := { b.sched with offer := none, table := b.sched.table.filter (fun p => !(p.2.type == 4 && p.2.mid == 2)) } }
  b.setShut (fun x => { x with waiting := x.waiting.filter (fun p => p.source != .midnight) })

/-- A cycle that took the shadow gives it up. -/
def Block.nightShadow (b : Block) : Block := if b.night.held then b.releaseShadow else b

/-- The roll-back of R309 begins: cut a close pulse, issue an open pulse unless no close pulse had started, and end the
Safety net. -/
def Block.nightRollback (b : Block) : Block :=
  let closing : Bool := match b.shut.pulse with
    | some p => p.source == .midnight && p.dir == .close
    | none => false
  let b := b.withdrawPulses
  let b := if closing then b.cutPulse else b
  let b := b.nightShadow
  if b.night.closeStarted then (b.setNight (fun x => { x with rollback := true })).seqShutter 256 else b.netOffNext

/-- MIDNIGHT_ABORT: an abort takes effect at a step boundary; at or after the start of M8 it has none (R309): cause
0 ABORT_ROUTINE, 1 overlay, 2 CONFIG, 3 shutter. -/
def Block.abortMidnight (b : Block) (cause : Nat) : Block :=
  if !b.night.running || decide (8 ≤ b.night.step) then b
  else
    let b := b.nightRollback.setNight (fun x => { x with failedAt := some b.now })
    (b.nightFail 3 cause).nightOver 3 .aborted 6 []

/-- A shutter fault during a cycle or its roll-back (R312, log entry 23). -/
def Block.nightShutterFault (b : Block) : Block :=
  if b.night.running then
    let b := (b.withdrawPulses.nightShadow.netOffNext).setNight (fun x => { x with failedAt := some b.now })
    (b.nightFail 5 3).nightOver 5 .failed 5 [5]
  else if b.night.rollback then (b.setNight (fun x => { x with rollback := false })).netOffNext
  else b

/-- SHPOS_CHECK: the position is compared 1 ms after a pulse ended (R291, R311). -/
def Block.stepShpos (b : Block) (level : Bool) : Block :=
  match b.shut.check with
  | none => b
  | some p =>
    if b.now < b.shut.brakeAt + msec 1 then b
    else
      let b := b.setShut (fun x => { x with check := none })
      if b.shposMatches p level then b.pulseDone p else (b.shutterFault 1).nightShutterFault

/-- SHUTTER_OVERCURRENT: more than 500 mA for 10 µs ends the pulse (R311). -/
def Block.stepShutterOc (b : Block) : Block :=
  match b.shut.pulse with
  | none => b
  | some p => ((b.brake p).shutterFault 0).nightShutterFault

/-! ## Accumulation (R294) -/

/-- What a frame's row gives the accumulation: its blind mean and the valid codes by planar column. -/
def Frame.accRow (fr : Frame) (r : Nat) (codes : List Nat) : AccRow :=
  let v := fr.blindCodes codes
  { r := r, blind := if v.length < 4 then none else meanOf v,
    codes := (List.range 1024).map (fun i =>
      let code := codes.getD (i + 8) 0
      if fr.badOther (i + 8) (planar (i + 8) r) code then none else some code) }

/-- What a whole frame gives it. -/
def Frame.accFrame (fr : Frame) : AccFrame := { n := fr.n, cols := fr.accCols, rows := fr.acc, tfpa := fr.tfpa }

/-- The close or the open pulse of the cycle has ended, and frame `fr` started after it (R293). -/
def Block.afterPulse (b : Block) (fr : Frame) : Bool :=
  b.shut.pulse.isNone && decide (b.shut.brakeAt < fr.startAt) &&
  (if b.night.step < 6 then b.night.closeStarted else b.night.openIssued)

/-- M3 is complete: M4 is next, and the shadow gathers the sums of the offsets (R293, R295; log entry 169). -/
def Block.settledNow (b : Block) : Block :=
  if b.night.step = 3 ∧ b.night.settle ≤ b.night.settled then
    (b.nightStep 4).setBrk (fun x => { x with shadow := .loading, content := .offsets, loaded := false, sums := true })
  else b

/-- The last row of frame `fr` has ended: it settles, is accumulated, or becomes the verify frame (R293). -/
def Block.nightFrame (b : Block) (fr : Frame) : Block :=
  if !b.night.running || !b.afterPulse fr then b
  else match b.night.step with
    | 4 =>
      let b := b.setNight (fun x => { x with frames := x.frames ++ [fr.accFrame] })
      if b.night.nAcc ≤ b.night.frames.length then b.nightStep 5 else b
    | 7 =>
      if b.night.settled < b.night.settle then b.setNight (fun x => { x with settled := x.settled + 1 })
      else if b.night.verifyN.isNone then b.setNight (fun x => { x with verifyN := some fr.n })
      else b
    | _ =>
      if b.night.settled < b.night.settle then (b.setNight (fun x => { x with settled := x.settled + 1 })).settledNow else b

/-- The pulse of M2 or M6 has ended and its position check has passed: the cycle goes on (R293). -/
def Block.nightPulse (b : Block) : Block :=
  if !b.night.pulseDone then b
  else
    let b := b.setNight (fun x => { x with pulseDone := false })
    if !b.night.running then b
    else
      let n := b.night.settled
      match b.night.step with
      | 2 => ((b.nightStep 3).setNight (fun x => { x with settled := n })).settledNow
      | 6 => (b.nightStep 7).setNight (fun x => { x with settled := n })
      | _ => b

/-! ## M5 (R294, R296) -/

/-- The mean of a list of rationals, none of an empty one. -/
def meanRat (l : List Rat) : Option Rat := if l.isEmpty then none else some (l.sum / l.length)

/-- A mean in counts rounded to 1/4 count, as a BREF table holds it (R294, log entry 9). -/
def toQuarter (q : Rat) : Nat := (clampInt 0 65535 (roundUp (4 * q))).toNat

/-- The row of a frame at read row `r`. -/
def AccFrame.row (f : AccFrame) (r : Nat) : Option AccRow := f.rows.find? (fun x => x.r == r)

/-- The read rows of the accumulated frames, in the order the first frame read them. -/
def accRows (fs : List AccFrame) : List Nat := match fs with
  | [] => []
  | f :: _ => f.rows.map (·.r)

/-- BREF_ROW′ of a read row, none where no frame has its blind mean (R294). -/
def brefRow (fs : List AccFrame) (r : Nat) : Option Nat :=
  (meanRat (fs.filterMap (fun f => (f.row r).bind (·.blind)))).map toQuarter

/-- BREF_COL′ of planar column `i`, none where no frame has its blind-row mean (R294). -/
def brefCol (fs : List AccFrame) (i : Nat) : Option Nat :=
  (meanRat (fs.filterMap (fun f => (f.cols.getD i none)))).map toQuarter

/-- ΔR′ of each row of a frame against the new references: a row with none keeps the row before's (R224, R294). -/
def rowTerms (row : Nat → Nat) (prev : Rat) : List AccRow → List (Nat × Rat)
  | [] => []
  | x :: rest =>
    let d := match x.blind with
      | some m => m - (row x.r : Rat) / 4
      | none => prev
    (x.r, d) :: rowTerms row d rest

/-- ΔCraw′ of a frame's columns (R225, R294). -/
def AccFrame.colTerms (f : AccFrame) (col : Nat → Nat) : List Rat :=
  (List.range 1024).map (fun i => match f.cols.getD i none with
    | some m => m - (col i : Rat) / 4
    | none => 0)

/-- The stage 1 values of a frame's row against the new references, by planar column (R294). -/
def AccFrame.values (f : AccFrame) (dR : List (Nat × Rat)) (dC : List Rat) (mean : Rat) (r : Nat) : List (Option Rat) :=
  match f.row r, dR.find? (fun p => p.1 == r) with
  | some x, some (_, d) => (x.codes.zip dC).map (fun p => p.1.map (fun c => (c : Rat) - d - (p.2 - mean)))
  | _, _ => []

/-- The valid stage 1 values of a pixel over the frames. -/
def pixelSamples (vs : List (List (Option Rat))) (i : Nat) : List Rat := vs.filterMap (fun row => row.getD i none)

/-- A pixel's result of M5: planar index, number of valid frames, O′ when there is a sample. -/
structure NewPixel where
  p : Nat
  valid : Nat
  offset : Option Int
deriving DecidableEq, Repr

/-- M5's results of one read row. -/
def newPixels (fs : List AccFrame) (row col : Nat → Nat) (r : Nat) : List NewPixel :=
  let vs := fs.map (fun f =>
    let dC := f.colTerms col
    f.values (rowTerms row 0 f.rows) dC (dC.sum / 1024) r)
  (List.range 1024).map (fun i =>
    let l := pixelSamples vs i
    { p := 1024 * (r - 4) + i, valid := l.length, offset := (meanRat l).map (fun m => roundUp (4 * m)) })

/-- A record of the pixel with the coefficients in force now. -/
def Block.pixelNow (b : Block) (p : Nat) : Int × Nat × Bool :=
  (signed 16 (b.le (if b.get R.CP_STATUS.OFFSET_BANK = 1 then shadowAddr p else recordAddr p) 2),
   b.le (if b.get R.CP_STATUS.GAIN_BANK = 1 then shadowAddr p else recordAddr p + 2) 2,
   match b.night.shutBadWork with
   | some l => l.contains p
   | none => bitOf (b.le (recordAddr p + 6) 1) 2)

/-- δ(p) in counts, of a gain and the new and old offsets (R296). -/
def deltaOf (gain : Nat) (new old : Int) : Rat := (gain : Rat) / 16384 * (new - old) / 4

/-- RB, the residual bound in counts (R296, R316). -/
def Block.residBound (b : Block) : Nat := 2 * (b.night.resid + 1)

/-- The first two conditions of R296: too few valid frames, or an offset out of range. -/
def NewPixel.marked (x : NewPixel) (n : Nat) : Bool :=
  decide (2 * x.valid < n) || (match x.offset with
    | some o => decide (o < -32768) || decide (32767 < o)
    | none => true)

/-- SHUT_REF′: the lowest whole v at which the radiometric table gives at least T_sh, none when no v does (R294). -/
def Block.newShutRef (b : Block) (tsh : Rat) : Option Nat :=
  (List.range 65473).find? (fun v =>
    let t := radioOf b.le (fun _ => false) v
    t != 65535 && decide (tsh ≤ t))

/-- The shadow bank filled with the new offsets, over the offsets of the records (R298). -/
def offsetShadow (m : Mem) (new : List (Nat × Int)) : Mem :=
  let old := m.filter (fun c => decide (c.1 < 0x00600000) && (c.1 % 8 == 0 || c.1 % 8 == 1))
  let m := m.filter (fun c => !(decide (0x00600000 ≤ c.1) && decide (c.1 < 0x00780000)))
  let m := old.foldl (fun m c => Mem.write 0#8 m (0x00600000 + 2 * (c.1 / 8) + c.1 % 8) c.2) m
  new.foldl (fun m o => Mem.writeBytes 0#8 m (shadowAddr o.1) (leBytes 2 (unsigned 16 o.2))) m

/-- MIDNIGHT_COMPUTE: M5 forms the new offsets, BREF tables, SHUT_REF and SHUT_BAD bits, and the shadow bank holds the
offsets, READY; M6 is next (R294, R296; log entry 169). -/
def Block.stepCompute (b : Block) : Block :=
  if !b.night.running || b.night.step != 5 then b
  else
    let fs := b.night.frames
    let rows := accRows fs
    let newRow := rows.filterMap (fun r => (brefRow fs r).map (fun v => (r, v)))
    let newCol := (List.range 1024).filterMap (fun i => (brefCol fs i).map (fun v => (i + 8, v)))
    let row := fun r => ((newRow.find? (fun p => p.1 == r)).map (·.2)).getD (b.le (brefRowAddr r) 2)
    let col := fun i => ((newCol.find? (fun p => p.1 == i + 8)).map (·.2)).getD (b.le (brefColAddr (i + 8)) 2)
    let px := rows.flatMap (newPixels fs row col)
    let delta := fun (x : NewPixel) => let o := b.pixelNow x.p; deltaOf o.2.1 (x.offset.getD 0) o.1
    let good := px.filter (fun x => !x.marked fs.length)
    let mean := (meanRat (good.map delta)).getD 0
    let bound : Rat := 8 * b.residBound
    let bad := px.filter (fun x => x.marked fs.length || decide (bound < |delta x - mean|))
    let kept := px.filter (fun x => !(x.marked fs.length) && !decide (bound < |delta x - mean|))
    let outside := ((List.range 786432).filter (fun p => !rows.contains (p / 1024 + 4) && (b.pixelNow p).2.2))
    let t := (meanRat (fs.map (fun f => (f.tfpa : Rat)))).getD 0
    let b := b.setNight (fun x => { x with
      newRow := newRow, newCol := newCol, newOffsets := kept.map (fun x => (x.p, x.offset.getD 0)),
      newBad := bad.map (·.p) ++ outside, newlyBad := (bad.filter (fun x => !(b.pixelNow x.p).2.2)).map (·.p),
      newShutRef := b.newShutRef ((t / 256 + 27315 / 100) * 100 + Config.shutterOffset), meanTfpa := t, frames := [] })
    let b := { b with mem := offsetShadow b.mem b.night.newOffsets }
    (b.setBrk (fun x => { x with shadow := .ready, sums := false })).nightStep 6

/-! ## M7: the verify (R297, R310) -/

/-- δ of the pixels of a list of new offsets, with the frame's gains and the offsets in force (R297). -/
def Frame.deltas (fr : Frame) (l : List (Nat × Int)) : List (Nat × Rat) :=
  l.map (fun o => let px := fr.pixel o.1; (o.1, deltaOf px.gain o.2 px.offset))

/-- Pixels of a frame that are bad in it, by planar index (R221). -/
def Frame.badPixels (fr : Frame) : List Nat :=
  fr.rows.flatMap (fun row => ((List.range 1024).filter (fun x => row.bad.getD x false)).map
    (fun x => planar (fr.readCol x) (fr.readRow row.y)))

/-- The square of the residual R (R297). -/
def Frame.residualSq (fr : Frame) (l : List (Nat × Int)) : Rat :=
  let ds := fr.deltas l
  let mean := (meanRat (ds.map (·.2))).getD 0
  let bad := fr.badPixels
  let used := ds.filter (fun d => !bad.contains d.1)
  quotient ((used.map (fun d => (d.2 - mean) * (d.2 - mean))).sum) used.length

/-- R in 1/2 count, to the nearest, from its square (R316, log entry 22). -/
def halfCounts (sq : Rat) : Nat := (Nat.sqrt (ratFloor (16 * sq)).toNat + 1) / 2

/-- MIDNIGHT_VERIFY at the zone close of frame `fr` (R297), and VERIFY_FAIL (R310). -/
def Block.nightVerify (b : Block) (fr : Frame) : Block :=
  if !b.night.running || b.night.verifyN != some fr.n then b
  else
    let sq := fr.residualSq b.night.newOffsets
    let half := halfCounts sq
    let b := (b.setNight (fun x => { x with residual := half })).set R.CP_MN_STATUS.LAST_RESID (min 255 half)
    if sq ≤ (b.residBound : Rat) * b.residBound ∧ b.night.newlyBad.length ≤ 3932 then b.nightStep 8
    else
      let b := (b.releaseShadow.netOffNext).setNight (fun x => { x with failedAt := some b.now })
      let (cause, b) := b.freeNat
      (b.nightFail 2 cause).nightOver 2 .failed 5 [2]

/-! ## The tick (R28, R293, R298, R299) -/

/-- M8 in the window of tick `n`: the offset swap and the exit of the Safety net; frame `n` is corrected with the new offsets and
with ΔT against the new drift reference (R29, R298, R299). -/
def Block.offsetSwap (b : Block) (n : Nat) : Block :=
  let x := b.night
  let m := x.newRow.foldl (fun m p => Mem.writeBytes 0#8 m (brefRowAddr p.1) (leBytes 2 p.2)) b.mem
  let m := x.newCol.foldl (fun m p => Mem.writeBytes 0#8 m (brefColAddr p.1) (leBytes 2 p.2)) m
  let b := { b with mem := m, img := { b.img with restartDC := true },
                    thermal := { b.thermal with driftRef := roundUp x.meanTfpa, dT := b.thermal.latched0 - roundUp x.meanTfpa },
                    night := { x with shutBadWork := some x.newBad, done := true, lastDone := some b.now } }
  let b := match x.newShutRef with
    | some v => b.set R.CP_SHUT_REF.SHUT_REF v
    | none => b
  let b := (b.set R.CP_STATUS.OFFSET_BANK 1).set R.CP_MN_STATUS.MIN_SINCE 0
  let b := b.setBrk (fun k => { k with shadow := .inForce, content := .offsets, copyback := true, copied := false })
  let b := b.event 0x0212 (leBytes 2 (min 0xFFFF x.residual) ++ leBytes 4 x.newlyBad.length)
  (b.netOff n).nightOver 1 .completed 0 [x.residual, x.newlyBad.length]

/-- What the cycle does in step 1 of the commit window of tick `n` (R28). -/
def Block.nightWindow (b : Block) (n : Nat) : Block :=
  let b := if b.night.netOffDue then b.netOff n else b
  if !b.night.running then b
  else match b.night.step with
    | 1 =>
      let b := if b.night.dawn then b else b.netOn n
      (b.nightStep 2).seqShutter 0
    | 6 => if b.night.openIssued then b else (b.setNight (fun x => { x with openIssued := true })).seqShutter 256
    | 8 => b.offsetSwap n
    | _ => b

/-- MIN_SINCE of CP_MN_STATUS: minutes since the last successful M8; while no cycle has succeeded it counts from D6, as the timer
does (DESIGN CHOICE, log entry 178; R300, R316). -/
def Block.minSince (b : Block) : Nat := min 255 (b.sinceDone.getD 0 / msec 60000)

/-! ## Meanings -/

/-- MIDNIGHT_TIMER (R300). -/
def execMidnightTimer (dt : Nat) (s : State) : Host.Outcome State Fault Refusal := s.run dt Block.stepMidnightTimer
/-- MIDNIGHT_COMPUTE (R294). -/
def execMidnightCompute (dt : Nat) (s : State) : Host.Outcome State Fault Refusal := s.run dt Block.stepCompute
/-- SHPOS_CHECK (R291). -/
def execShposCheck (dt : Nat) (level : Bool) (s : State) : Host.Outcome State Fault Refusal :=
  s.run dt (fun b => (b.stepShpos level).nightPulse)
/-- SHUTTER_OVERCURRENT (R311). -/
def execShutterOvercurrent (dt : Nat) (s : State) : Host.Outcome State Fault Refusal := s.run dt Block.stepShutterOc
/-- SHUTTER_PULSE_END (R288). -/
def execShutterPulseEnd (dt : Nat) (s : State) : Host.Outcome State Fault Refusal := s.run dt (fun b => b.stepPulseEnd.nightPulse)

end Sys2Proof.Machine
end

