-- ==== Sys2Proof/Machine/Thermal.lean ====
section
/-! DEFINITION. Die temperature sampling and its thresholds, throttling, core power and the three-node package model
(chapter 20). -/

namespace Sys2Proof.Machine

/-- Change the thermal state. -/
def Block.setTh (b : Block) (f : Thermal → Thermal) : Block := { b with thermal := f b.thermal }

/-! ## Limits as they act (R656, R678), in 1/16 °C -/

/-- WARN. -/
def Block.thWarn (b : Block) : Int := 16 * (min 95 (b.get R.TH_LIMITS.WARN) : Nat)
/-- THROTTLE. -/
def Block.thThrottle (b : Block) : Int := 16 * (min 105 (b.get R.TH_LIMITS.THROTTLE) : Nat)
/-- SHUTDOWN's own value. -/
def Block.thShutdown (b : Block) : Int := 16 * (min 120 (b.get R.TH_LIMITS.SHUTDOWN) : Nat)
/-- A hysteresis: 0 and 1 act as 2. -/
def hyst (v : Nat) : Int := 16 * (max 2 v : Nat)
/-- SHUTDOWN less SD_HYST (R676). -/
def Block.thLowered (b : Block) : Int := b.thShutdown - hyst (b.get R.TH_HYST.SD_HYST)
/-- The work clock that DIV_SEL asks for, as a fraction (R131, R658, R678). -/
def Block.divided (b : Block) : Nat × Nat :=
  match b.get R.TH_CTL.DIV_SEL with
  | 1 => (1, 4)
  | 2 => let m := max 2 (b.get R.TH_CTL.SKIP_M); (m - 1, m)
  | _ => (1, 2)
/-- MODE as it acts: 3 acts as 2 DIVIDE. -/
def Block.thMode (b : Block) : Nat := min 2 (b.get R.TH_CTL.MODE)
/-- FALLBACK_PERIOD as it acts, in TIME clocks. -/
def Block.fallbackPeriod (b : Block) : Nat := max 125000 (min 4000000 (b.get R.TH_FALLBACK.PERIOD))
/-- GRACE as it acts, in TIME clocks. -/
def Block.grace (b : Block) : Nat := 10000000 * max 1 (min 100 (b.get R.TH_FALLBACK.GRACE))

/-- The unit is a follower on the sync bus, which cannot set its own period (R663). -/
def Block.follower (b : Block) : Bool := b.get R.TB_CTL.TICK_SRC == 1 && b.get R.TB_SYNC_STATUS.ROLE == 2

/-- Enforcement is on (R660). -/
def Block.enforcing (b : Block) : Bool := b.flag R.TH_STATUS.ENFORCING

/-- TB_PERIOD.PERIOD as it acts (R142). -/
def Block.periodSet (b : Block) : Nat := max 125000 (min 4000000 (b.get R.TB_PERIOD.PERIOD))
/-- MIN_PERIOD as it acts, in TIME clocks (R185). -/
def Block.encMinSet (b : Block) : Nat := 1000 * max 125 (min 4000 (b.get R.TB_ENC_LIM.MIN_PERIOD))
/-- Ticks come from the encoder: TICK_SRC ENCODER, or timing master with MASTER_SRC ENCODER (R122, R157). -/
def Block.encTicks (b : Block) : Bool :=
  b.get R.TB_CTL.TICK_SRC == 2 ||
  (b.get R.TB_CTL.TICK_SRC == 1 && b.get R.TB_SYNC_STATUS.ROLE == 3 && b.flag R.TB_SYNC_CTL.MASTER_SRC)
/-- The period that acts where enforcement does not: MIN_PERIOD under encoder ticks (R663). -/
def Block.ownPeriod (b : Block) : Nat := if b.encTicks then b.encMinSet else b.periodSet
/-- FALLBACK_PERIOD as the last window read it and as it acts, in TIME clocks (R31, R678). -/
def Block.fallbackHeld (b : Block) : Nat := max 125000 (min 4000000 b.thermal.fallback)
/-- The tick period in force, or MIN_PERIOD in force under encoder ticks, in TIME clocks: it changes in a commit window alone,
so that a window sets the interval to the next tick (R27, R31, R660, R661, R663). -/
def Block.periodInForce (b : Block) : Nat :=
  if b.thermal.enforced ∧ !b.follower then max b.ownPeriod b.fallbackHeld else b.ownPeriod
/-- MAX_PERIOD as it acts, in TIME clocks (R185). -/
def Block.encMax (b : Block) : Nat := max b.periodInForce (1000 * max 125 (min 4000 (b.get R.TB_ENC_LIM.MAX_PERIOD)))
/-- P of R131: TB_PERIOD under SYNC where enforcement does not lengthen it. -/
def Block.planPeriod (b : Block) : Nat :=
  if b.get R.TB_CTL.TICK_SRC = 1 ∧ (b.encTicks ∨ b.follower) then b.periodSet else b.periodInForce
/-- Enforcement set the tick period (R664). -/
def Block.throttled (b : Block) : Bool := b.thermal.enforced && !b.follower && decide (b.ownPeriod < b.fallbackHeld)

/-- The commit window of the last tick is open: [tick, tick + ROW0_DELAY) (R27). -/
def Block.inWindow (b : Block) : Bool := b.clock.ticked && decide (b.now < b.clock.lastTick + usec b.clock.row0)

/-! ## Sites (R651, R652, R671) -/

/-- The sites that take part: not excluded. -/
def Block.validSites (b : Block) : List Nat := (List.range 12).filter (fun i => !b.thermal.excluded.contains i)

/-- The temperature of a site in the last sample, 1/16 °C. -/
def Block.site (b : Block) (i : Nat) : Int := b.thermal.sites.getD i 0

/-- A temperature in range: −50 °C to 175 °C (R671). -/
def siteInRange (t : Int) : Bool := decide (-800 ≤ t) && decide (t ≤ 2800)

/-- A site is more than 40 °C away from the mean of the other sites of a list (R671). -/
def Block.outlier (b : Block) (l : List Nat) (i : Nat) : Bool :=
  let others := l.filter (· != i)
  !others.isEmpty && decide (640 < |(b.site i : Rat) - ((others.map b.site).sum : Rat) / others.length|)

/-- SITE_FAULT: sites out of range, then outliers, are excluded (R671). -/
def Block.siteFaults (b : Block) : Block :=
  let ok := b.validSites.filter (fun i => siteInRange (b.site i))
  let bad := b.validSites.filter (fun i => !siteInRange (b.site i) || b.outlier ok i)
  bad.foldl (fun b i =>
    (b.setTh (fun x => { x with excluded := x.excluded ++ [i] })).event 0x0808 (leBytes 1 i ++ leBytes 2 (unsigned 16 (b.site i)))) b

/-- The hottest valid site, the lowest number of equals (R652). -/
def Block.hottest (b : Block) : Option Nat :=
  b.validSites.foldl (fun best i => match best with
    | none => some i
    | some j => if b.site j < b.site i then some i else best) none

/-- TJ_MEAN in °C: the mean of the valid sites among sites 0 to 3 (R652). -/
def Block.tjMean (b : Block) : Rat :=
  let l := b.validSites.filter (fun i => decide (i < 4))
  quotient ((l.map b.site).sum / 16) l.length

/-- TJ_MAX, at least THROTTLE while DEGRADED (R652, R672). -/
def Block.tjMax (b : Block) : Int :=
  let measured := match b.hottest with
    | some i => b.site i
    | none => b.thThrottle
  if b.validSites.length < 6 then max measured b.thThrottle else measured

/-! ## Thresholds (R654, R655, R657, R672, R676) -/

/-- TJ_MAX as a record carries it. -/
def tjBytes (t : Int) : List Byte := leBytes 2 (unsigned 16 t)

/-- WARN comes into or leaves force (R655). -/
def Block.thresholdWarn (b : Block) (t : Int) (site : Nat) : Block :=
  if !b.flag R.TH_STATUS.WARN then
    if b.thWarn ≤ t then (b.setFlag R.TH_STATUS.WARN true).event 0x0801 (tjBytes t ++ leBytes 1 site) else b
  else if t < b.thWarn - hyst (b.get R.TH_HYST.WARN_HYST) then (b.setFlag R.TH_STATUS.WARN false).event 0x0802 (tjBytes t)
  else b

/-- A change of the period in force through throttling counts as a TB_PERIOD change for a Midnight cycle (R307). -/
def Block.configAbort (b : Block) : Block :=
  if b.night.running ∧ 2 ≤ b.night.step ∧ b.night.step < 8 ∧ b.night.abortCause.isNone then
    b.setNight (fun x => { x with abortCause := some 2 })
  else b

/-- THROTTLE comes into force: its event, and with REQUEST_ENFORCE the request and its grace (R655, R659). -/
def Block.throttleOn (b : Block) (t : Int) (site : Nat) : Block :=
  let b := (b.setFlag R.TH_STATUS.THROTTLE true).event 0x0803 (leBytes 1 b.thMode ++ tjBytes t ++ leBytes 1 site)
  if b.thMode = 1 then
    let b := (b.setFlag R.TH_STATUS.REQUESTED true).setTh (fun x => { x with
      graceEnd := some (b.clock.tickPt + BitVec.ofNat 48 b.grace) })
    b.event 0x0805 (leBytes 4 b.fallbackPeriod ++ leBytes 1 (max 1 (min 100 (b.get R.TH_FALLBACK.GRACE))))
  else b

/-- THROTTLE leaves force: REQUESTED and ENFORCING clear; the period returns in the tick's commit window (R655, R662). -/
def Block.throttleOff (b : Block) (t : Int) : Block :=
  let b := ((b.setFlag R.TH_STATUS.THROTTLE false).setFlag R.TH_STATUS.REQUESTED false).setFlag R.TH_STATUS.ENFORCING false
  (b.setTh (fun x => { x with graceEnd := none })).event 0x0804 (tjBytes t)

/-- A throttle frame-rate change, the last of a commit window: the period that follows ENFORCING and FALLBACK_PERIOD as they
stand there sets the interval to the next tick, and a change of it ends a Midnight cycle as one of TB_PERIOD does (R28 step 4,
R31, R307, R660, R662). -/
def Block.throttleRate (b : Block) : Block :=
  let was := b.thermal.enforced
  let b := b.setTh (fun x => { x with enforced := b.enforcing, fallback := b.get R.TH_FALLBACK.PERIOD })
  if was = b.enforcing then b else b.configAbort

/-- THROTTLE comes into or leaves force (R655). -/
def Block.thresholdThrottle (b : Block) (t : Int) (site : Nat) : Block :=
  if !b.flag R.TH_STATUS.THROTTLE then if b.thThrottle ≤ t then b.throttleOn t site else b
  else if t < b.thThrottle - hyst (b.get R.TH_HYST.THR_HYST) then b.throttleOff t
  else b

/-- FAST after a sample (R654). -/
def Block.fastNow (b : Block) (t : Int) : Bool :=
  let low := min (min b.thWarn b.thThrottle) b.thShutdown
  decide (low - 16 * (max 1 (b.get R.TH_HYST.NEAR_BAND) : Nat) ≤ t) || b.flag R.TH_STATUS.WARN || b.flag R.TH_STATUS.THROTTLE

/-- SHUTDOWN is reached; while the shutdown mark is set it acts SD_HYST lower (R655, R676). -/
def Block.shutdownReached (b : Block) (t : Int) : Bool :=
  if b.flag R.TH_STATUS.SD_MARK then decide (b.thLowered ≤ t) else decide (b.thShutdown ≤ t)

/-- A sample of every site and its decisions; the answer says whether SHUTDOWN is reached (R651 to R657, R671, R672). -/
def Block.thermalSample (b : Block) (sites : List Int) : Block × Bool :=
  let b := (b.setTh (fun x => { x with sites := (List.range 12).map (fun i => sites.getD i 0), sampled := true })).siteFaults
  let t := b.tjMax
  let site := b.hottest.getD 0
  let valid := b.validSites.length
  let b := (b.set R.TH_STATUS.TJ_MAX (unsigned 13 t)).set R.TH_STATUS.SITE_MAX site
  let b := (b.set R.TH_STATUS.SITES_VALID valid).setFlag R.TH_STATUS.DEGRADED (decide (valid < 6))
  let b := (b.thresholdWarn t site).thresholdThrottle t site
  let b := b.setFlag R.TH_STATUS.FAST (b.fastNow t)
  let was := b.thermal.hot
  let b := b.setTh (fun x => { x with hot := b.shutdownReached t })
  if b.thermal.hot then (if was then b else b.event 0x0807 (tjBytes t ++ leBytes 1 site), true)
  else if b.flag R.TH_STATUS.SD_MARK ∧ t < b.thLowered then (b.setFlag R.TH_STATUS.SD_MARK false, false)
  else (b, false)

/-- The work clock in force from this tick on (R131, R135, R658, R663). -/
def Block.applyWork (b : Block) : Block :=
  let w := if b.flag R.TH_STATUS.THROTTLE ∧ b.thMode = 2 then b.divided
    else if b.enforcing ∧ b.follower then (1, 2) else (1, 1)
  b.setTh (fun x => { x with work := w })

/-- Enforcement begins: the period in force lengthens, or on a follower the work clocks halve (R660, R663). -/
def Block.enforce (b : Block) : Block :=
  let b := (b.setFlag R.TH_STATUS.ENFORCING true).configAbort
  b.setTh (fun x => { x with enforced := true, work := if b.follower ∧ x.work = (1, 1) then (1, 2) else x.work })

/-- The commit window of the tick that ends grace is open (R27, R659). -/
def Block.graceOver (b : Block) : Bool :=
  b.inWindow && (match b.thermal.graceEnd with
    | some t => ptReached b.clock.tickPt t
    | none => false)

/-- Grace ends: enforcement begins, or REQUESTED clears (R659, R660). -/
def Block.stepGraceEnd (b : Block) : Block :=
  let b := b.setTh (fun x => { x with graceEnd := none })
  if b.flag R.TH_STATUS.THROTTLE ∧ b.periodInForce < b.fallbackHeld then
    b.enforce.event 0x0806 (leBytes 4 b.enforce.periodInForce)
  else b.setFlag R.TH_STATUS.REQUESTED false

/-! ## Core power and the package model (R666 to R668) -/

/-- The core power of a sample in W: 4 mA per code, VCORE in mV (R666). -/
def coreWatt (code vcore : Nat) : Rat := (4 * code * vcore : Nat) / 1000000

/-- A current sample: TH_POWER and the last 16 powers (R666, R668, R670). -/
def Block.powerSample (b : Block) (code vcore : Nat) : Block :=
  let p := coreWatt code vcore
  let b := (b.set R.TH_POWER.I_CODE code).set R.TH_POWER.P_CORE (clampInt 0 65535 (Config.quantise (1000 * p))).toNat
  b.setTh (fun x => { x with power := (p :: x.power).take 16 })

/-- One sub-step of the model: TD, TC, TS after `h` seconds with power `p` (R667). -/
def modelStep (h p tb : Rat) (x : Rat × Rat × Rat) : Rat × Rat × Rat :=
  let qDC := (x.1 - x.2.1) / Config.rDC
  let qCS := (x.2.1 - x.2.2) / Config.rCS
  let qCB := (x.2.1 - tb) / Config.rCB
  (x.1 + h * (p - qDC) / Config.cD, x.2.1 + h * (qDC - qCS - qCB) / Config.cC, x.2.2 + h * qCS / Config.cS)

/-- The model integrated over a time in TIME clocks, in equal sub-steps of at most 1.25 ms (R667). -/
def modelRun (clocks : Nat) (p tb : Rat) (x : Rat × Rat × Rat) : Rat × Rat × Rat :=
  let n := (clocks + 124999) / 125000
  let h : Rat := (clocks : Rat) / 100000000 / n
  (List.range n).foldl (fun x _ => modelStep h p tb x) x

/-- The measured TFPA in °C (R667). -/
def Block.tfpaC (b : Block) : Rat := (signed 16 (b.get R.FP_TFPA.TFPA) : Rat) / 256

/-- The mean of the power samples (R668). -/
def Thermal.meanPower (x : Thermal) : Rat := (meanRat x.power).getD 0

/-- The predictions of the model state, latched with ΔT; `same` makes PRED_H equal PRED_0 (R40, R668, R673). -/
def Block.latchModel (b : Block) (same : Bool) : Block :=
  let x := b.thermal
  let far := if same then x.ts else (modelRun 200000000 x.meanPower x.tb (x.td, x.tc, x.ts)).2.2
  let p0 := Config.quantise (256 * x.ts)
  let pH := if same then p0 else Config.quantise (256 * far)
  let b := b.setTh (fun x => { x with latched0 := p0, latchedH := pH, dT := p0 - x.driftRef })
  (b.set R.TH_MODEL.PRED_0 (unsigned 16 p0)).set R.TH_MODEL.PRED_H (unsigned 16 pH)

/-- The model starts, or starts again: TD = TJ_MEAN, TC = TS = TB = TFPA (R673, R675, R677). -/
def Block.startModel (b : Block) : Block :=
  let t := b.tfpaC
  b.setTh (fun x => { x with started := true, modelAt := b.now, td := b.tjMean, tc := t, ts := t, tb := t, mismatch := 0 })

/-- MODEL_UPDATE over the time since the last one: integration, correction and the latched outputs (R667, R668). -/
def Block.modelUpdate (b : Block) (sampled : Bool) : Block :=
  if !b.thermal.started then b
  else
    let x := b.thermal
    let (td, tc, ts) := modelRun (b.now - x.modelAt) (x.power.headD 0) x.tb (x.td, x.tc, x.ts)
    let gap := b.tfpaC - ts
    let e := if b.img.tfpaFault then 0 else gap
    let count := if b.img.tfpaFault then 0 else if 2 < |gap| then x.mismatch + 1 else 0
    let b := b.setTh (fun x => { x with
      modelAt := b.now, ts := ts + Config.kS * e, tb := x.tb + Config.kB * e, tc := tc,
      td := if sampled then td + Config.kD * (b.tjMean - td) else td, mismatch := count })
    b.latchModel false

/-- The model starts again at this tick: its outputs, and what is decided from them, come from the new state (R673). -/
def Block.modelResetDue (b : Block) : Bool := decide (16 ≤ b.thermal.mismatch)

/-- The load decisions and the drift trigger of a tick, from what its window latched. They follow the window, so at the tick of
M8 the trigger sees the cycle ended and ΔT against the new drift reference (DESIGN CHOICE, log entry 181; R41, R264 to R266,
R300). -/
def Block.tickDecide (b : Block) : Block :=
  let b := b.bracketTick
  if b.power.mode = .run then b.driftTrigger else b

/-- MODEL_RESET: in the window of the 16th consecutive tick with more than 2 °C between TFPA and TS the model starts again, and
the tick's decisions follow from the new outputs (R40, R673). -/
def Block.stepModelReset (b : Block) : Block :=
  if !b.modelResetDue ∨ !b.inWindow then b
  else
    let t := b.get R.FP_TFPA.TFPA
    let before := Config.quantise (256 * b.thermal.ts)
    ((b.startModel.latchModel true).event 0x0809 (leBytes 2 t ++ leBytes 2 (unsigned 16 before))).tickDecide

/-- Sites are sampled at this tick (R654). -/
def Block.samplesAt (b : Block) (n : Nat) : Bool := b.flag R.TH_STATUS.FAST || n % 16 == 0

/-- Throttle state is cleared on entry to NAP and DEEP (R677). -/
def Block.clearThrottle (b : Block) : Block :=
  let b := ((b.setFlag R.TH_STATUS.THROTTLE false).setFlag R.TH_STATUS.REQUESTED false).setFlag R.TH_STATUS.ENFORCING false
  b.setTh (fun x => { x with graceEnd := none, enforced := false, work := (1, 1) })

/-! ## Meanings -/

/-- MODEL_RESET (R673). -/
def execModelReset (dt : Nat) (s : State) : Host.Outcome State Fault Refusal := s.run dt Block.stepModelReset

end Sys2Proof.Machine
end

