-- ==== Sys2Proof/Machine/Encoder.lean ====
section
/-! DEFINITION. The web encoder: edges, the count, the interpolated web position, ENC_INDEX, ENC_ERROR, the velocity and the
targets of encoder ticks (chapter 05). -/

namespace Sys2Proof.Machine

/-- Change the encoder's state. -/
def Block.setEnc (b : Block) (f : Encoder → Encoder) : Block :=
  { b with clock := { b.clock with enc := f b.clock.enc } }

/-! ## Web position (R146, R151) -/

/-- T_cnt: the mean of the intervals kept. -/
def EncCount.tCnt (x : EncCount) : Rat := quotient (x.intervals.sum : Nat) x.intervals.length

/-- The sub-count at TIME clock `t`, without its sign (R151). -/
def EncCount.sub (x : EncCount) (interp : Bool) (t : Nat) : Nat :=
  match x.lastEdge with
  | none => 0
  | some e =>
    let since : Rat := (t - e : Nat)
    if !interp ∨ x.intervals.isEmpty ∨ 4 * x.tCnt ≤ since then 0
    else min 255 (ratFloor (quotient (256 * since) x.tCnt)).toNat

/-- WP at TIME clock `t`, no edge having come since the count's last one; held once the encoder stopped (R146, R151, R182). -/
def EncCount.wp (x : EncCount) (interp : Bool) (t : Nat) : WP :=
  match x.hold with
  | some w => w
  | none =>
    let base := BitVec.ofNat 40 (256 * x.cnt.toNat)
    let s := BitVec.ofNat 40 (x.sub interp t)
    if x.forward then base + s else base - s

/-- The greatest sub-count since the last edge: it stays at its cap until WP falls back to the count (R151). -/
def EncCount.peakSub (x : EncCount) (interp : Bool) (t : Nat) : Nat :=
  match x.lastEdge with
  | none => 0
  | some e => if !interp ∨ x.intervals.isEmpty then 0 else min 255 (ratFloor (quotient (256 * ((t - e : Nat) : Rat)) x.tCnt)).toNat

/-- WP of the count alone. -/
def EncCount.base (x : EncCount) : WP := BitVec.ofNat 40 (256 * x.cnt.toNat)

/-- The furthest WP forward since the last edge (R151, R153). -/
def EncCount.peak (x : EncCount) (interp : Bool) (t : Nat) : WP :=
  match x.hold with
  | some w => w
  | none => if x.forward then x.base + BitVec.ofNat 40 (x.peakSub interp t) else x.base

/-- The TIME clock, by `t`, at which WP came to a target since the last edge: at the edge, or between edges where the sub-count
brings it there (R151, R153). -/
def EncCount.reachTime (x : EncCount) (interp : Bool) (t : Nat) (target : WP) : Option Nat :=
  let e := x.lastEdge.getD 0
  let d := (target - x.hold.getD x.base).toInt
  if d ≤ 0 then some e
  else if x.hold.isNone ∧ x.forward ∧ d ≤ x.peakSub interp t then some (e + (ratCeil (d * x.tCnt / 256)).toNat)
  else none

/-- INTERP. -/
def Block.interp (b : Block) : Bool := b.flag R.TB_ENC_CTL.INTERP

/-- WP now. -/
def Block.wp (b : Block) : WP := b.clock.enc.cur.wp b.interp b.now

/-- WP at an earlier TIME clock after the last edge. -/
def Block.wpAt (b : Block) (t : Nat) : WP := b.clock.enc.cur.wp b.interp t

/-- The WP of the exposure instants that have come is latched in the frames being read (R334). -/
def Block.latchWps (b : Block) : Block :=
  { b with img := { b.img with frames := b.img.frames.map (fun fr =>
    if fr.slots ≤ fr.slot then fr
    else
      let from_ := fr.y0 + fr.wps.length
      let due := ((List.range (fr.w - fr.wps.length)).map (· + from_)).filter (fun y => decide (fr.tickAt + fr.exposure y ≤ b.now))
      { fr with wps := fr.wps ++ due.map (fun y => (y, b.wpAt (fr.tickAt + fr.exposure y))) }) } }

/-! ## Targets of encoder ticks (R153, R154) -/

/-- N of TB_ENC_N. -/
def Block.encN (b : Block) : Nat := max 1 (b.get R.TB_ENC_N.N)

/-- The targets at or behind a web position, the first of them at `target`. -/
def targetsAt (w target : WP) (n : Nat) : Nat :=
  let d := (w - target).toInt
  if d < 0 then 0 else d.toNat / (256 * n) + 1

/-- Targets that WP has come to since they were last consumed, whether or not it went back since (R153, R154). -/
def Block.targetsReached (b : Block) : Nat :=
  let e := b.clock.enc
  if !e.targeted then 0 else max e.reached (targetsAt (e.cur.peak b.interp b.now) e.target b.encN)

/-- The TIME clock at which WP came to the next target (R153, R154). -/
def Block.reachedAt (b : Block) : Option Nat :=
  let e := b.clock.enc
  if !e.targeted then none
  else match e.reachedAt with
    | some t => some t
    | none => e.cur.reachTime b.interp b.now e.target

/-- What the count reached is kept before the count changes. -/
def Block.noteReached (b : Block) : Block := b.setEnc (fun e => { e with reached := b.targetsReached, reachedAt := b.reachedAt })

/-- The encoder stops, and WP holds its value until the next edge (R182 to R184). -/
def Block.freezeWp (b : Block) : Block :=
  let b := b.latchWps.noteReached
  let w := b.wp
  b.setEnc (fun e => { e with cur := { e.cur with hold := some w } })

/-! ## Edges (R147 to R150, R182 to R184) -/

/-- The encoder counts: from D2 while EN is 1 and VDDIO_C is valid, outside NAP and DEEP (R182, R183, R184). -/
def Block.encRuns (b : Block) : Bool :=
  b.flag R.TB_ENC_CTL.EN && b.power.valid.contains .vddioC && b.power.d2 && (b.power.mode == .run || b.power.mode == .idle)

/-- A level that has been stable for `stable` ENC clocks is accepted; before that the accepted level stays (R148). -/
def Block.filtered (b : Block) (old new : Bool) (stable : Nat) : Bool :=
  if b.get R.TB_ENC_CTL.FILT + 1 ≤ stable then new else old

/-- A change of one input moves the A-leads-B phase forward (R147). -/
def edgeForward (a0 a1 b1 : Bool) : Bool := if a0 != a1 then a1 != b1 else a1 == b1

/-- The count after an accepted edge at TIME clock `t`; the intervals are those since counting started (R147, R151). -/
def EncCount.edge (x : EncCount) (forward : Bool) (t : Nat) : EncCount :=
  { cnt := if forward then x.cnt + 1 else x.cnt - 1, forward := forward, lastEdge := some t,
    intervals := match x.lastEdge with
      | some e => if x.hold.isSome then [] else ((t - e) :: x.intervals).take 16
      | none => [] }

/-- Counts kept for the first velocity: those of the longest tick period, and the one before them (R152). -/
def keepPast (now : Nat) (l : List EncCount) : List EncCount :=
  let recent := l.takeWhile (fun x => match x.lastEdge with
    | some e => decide (now < e + 4000000)
    | none => false)
  recent ++ (l.drop recent.length).take 1

/-- ENC_EDGE: levels of ENC_A and ENC_B, accepted once they have been stable long enough (R147 to R149). -/
def Block.stepEncEdge (b : Block) (a c : Bool) (stableA stableC : Nat) : Block :=
  let b := b.latchWps
  let x := b.clock.enc
  let a := b.filtered x.levelA a stableA
  let c := b.filtered x.levelB c stableC
  let b := b.setEnc (fun e => { e with levelA := a, levelB := c })
  if x.levelA == a && x.levelB == c then b
  else if x.levelA != a && x.levelB != c then
    if b.encRuns then b.setEnc (fun e => { e with illegal := e.illegal + 1 }) else b
  else
    let fwd := edgeForward x.levelA a c != b.flag R.TB_ENC_CTL.DIR_INV
    let b := b.setEnc (fun e => { e with moved := if fwd then e.moved + 1 else e.moved - 1 })
    if b.encRuns then
      b.noteReached.setEnc (fun e => { e with
        cur := e.cur.edge fwd b.now, past := if b.clock.ticked then [] else keepPast b.now (e.cur :: e.past) })
    else b

/-- ENC_INDEX: a rising edge of ENC_Z, accepted once it has been stable long enough (R148, R150). -/
def Block.stepEncIndex (b : Block) (stable : Nat) : Block :=
  if b.encRuns ∧ b.flag R.TB_ENC_CTL.Z_MODE ∧ b.filtered false true stable then b.event 0x010A (leBytes 5 b.wp.toNat) else b

/-! ## The tick (R149, R152, R153) -/

/-- ENC_ERROR at a tick (R149). -/
def Block.encError (b : Block) : Block :=
  let n := b.clock.enc.illegal
  if n = 0 then b else (b.setEnc (fun e => { e with illegal := 0 })).event 0x010B (leBytes 4 n)

/-- A velocity in 1/16 count/s from a change of WP over a time in TIME clocks (R152, log entries 4 and 58). -/
def velocityOf (dwp : Int) (clocks : Nat) : Int :=
  clampInt (-2147483648) 2147483647 (Config.quantise (quotient (dwp * 6250000 : Int) clocks))

/-- WP at a TIME clock before the first tick, from the counts kept; 0 before the encoder counted. -/
def Encoder.wpBefore (e : Encoder) (interp : Bool) (t : Nat) : WP :=
  match (e.cur :: e.past).find? (fun x => match x.lastEdge with
    | some k => decide (k ≤ t)
    | none => true) with
  | some x => x.wp interp t
  | none => 0#40

/-- ENC_VEL_UPDATE: TB_ENC_VEL at a tick; `first` at the first tick of D5 (R152). -/
def Block.encVelocity (b : Block) (first : Bool) (last : Nat) : Block :=
  let e := b.clock.enc
  let w := b.wp
  let v := if first then
      let start := b.now - b.periodSet
      let edges := match e.cur.lastEdge with
        | some k => decide (start < k)
        | none => false
      if edges then velocityOf (w - e.wpBefore b.interp start).toInt b.periodSet else 0
    else velocityOf (w - e.wpAtTick).toInt (b.now - last)
  let b := b.setEnc (fun e => { e with wpAtTick := w, past := [] })
  (b.set R.TB_ENC_VEL.VEL (unsigned 32 v))

/-- The targets reached by a tick are consumed; the first encoder tick sets the first target, N counts from its WP (R153,
R154). -/
def Block.consumeTargets (b : Block) : Block :=
  let n := b.targetsReached
  b.setEnc (fun e => { e with
    reached := 0, reachedAt := none, targeted := true,
    target := if e.targeted then e.target + BitVec.ofNat 40 (256 * n * b.encN) else b.wp + BitVec.ofNat 40 (256 * b.encN) })

/-- A read of TB_PT_LO captures PT and WP in one TIME clock (R145). -/
def Block.capturePt (b : Block) : Block := { b with clock := { b.clock with captured := b.clock.pt, capturedWp := b.wp } }

/-! ## Meanings -/

/-- ENC_EDGE (R147). -/
def execEncEdge (dt : Nat) (a b : Bool) (stableA stableB : Nat) (s : State) : Host.Outcome State Fault Refusal :=
  s.run dt (fun x => x.stepEncEdge a b stableA stableB)
/-- ENC_INDEX (R150). -/
def execEncIndex (dt stable : Nat) (s : State) : Host.Outcome State Fault Refusal := s.run dt (fun b => b.stepEncIndex stable)
/-- PT_CAPTURE: a read of TB_PT_LO captures PT and WP in one TIME clock (R145). -/
def execPtCapture (dt : Nat) (port : Port) (s : State) : Host.Outcome State Fault Refusal :=
  s.runPort dt port (fun b => (.ok, b.capturePt))

end Sys2Proof.Machine
end

