-- ==== Sys2Proof/Machine/Sync.lean ====
section
/-! DEFINITION. The sync bus: frames, follower timing, lock, period mismatch, loss of the master, elections, replies and peer
messages (chapter 05). -/

namespace Sys2Proof.Machine

/-- Change the sync block's state. -/
def Block.setSync (b : Block) (f : Sync → Sync) : Block := { b with clock := { b.clock with sync := f b.clock.sync } }

/-- The unit id. -/
def Block.unitId (b : Block) : Nat := b.get R.TB_SYNC_CTL.UNIT_ID

/-- LOSS_N as it acts. -/
def Block.lossN (b : Block) : Nat := max 1 (b.get R.TB_SYNC_CTL.LOSS_N)

/-- ROLE: 0 off, 1 searching, 2 follower, 3 master. -/
def Block.role (b : Block) : Nat := b.get R.TB_SYNC_STATUS.ROLE

/-- The unit takes part on the bus: TICK_SRC is SYNC, not in NAP or DEEP (R157, R184). -/
def Block.syncOn (b : Block) : Bool :=
  b.get R.TB_CTL.TICK_SRC == 1 && b.clock.sync.started && (b.power.mode == .run || b.power.mode == .idle)

/-- The sync block runs and its bus is powered: not in NAP or DEEP (R68, R157, R182, R184). -/
def Block.syncRuns (b : Block) : Bool :=
  b.syncOn && b.power.valid.contains .vddioC && b.power.valid.contains .vdda

/-! ## Frames (R158 to R162, R181) -/

/-- The three bytes before every frame. -/
def preamble : List Byte := [0x55#8, 0x55#8, 0xB3#8]

/-- A frame around its body. -/
def busFrame (body : List Byte) : List Byte := preamble ++ body ++ leBytes 2 (crc16 body)

/-- The body of a frame of a type and length whose preamble and CRC are good. -/
def busBody (type len : Nat) (bs : List Byte) : Option (List Byte) :=
  let body := (bs.drop 3).take (len - 5)
  if bs.length = len ∧ bs.take 3 = preamble ∧ leField body 0 1 = type ∧ leField bs (len - 2) 2 = crc16 body then some body else none

/-- The half bits of a byte, least significant bit first; a 1 is a low-to-high transition in mid-bit (R158). -/
def halfBits (x : Byte) : List Bool := (List.range 8).flatMap (fun i => [!x.getLsbD i, x.getLsbD i])

/-- The levels of a frame on the line, Manchester-coded (R158). -/
def lineOf (bs : List Byte) : List Bool := bs.flatMap halfBits

/-- The bits of a line; none where the code is broken (R158, R181). -/
def lineBits : List Bool → Option (List Bool)
  | [] => some []
  | h :: l :: rest => if h = l then none else (lineBits rest).map (l :: ·)
  | [_] => none

/-- The bytes of bits, least significant bit first; none where a byte is not whole. -/
def bytesOfBits : List Bool → Option (List Byte)
  | [] => some []
  | b0 :: b1 :: b2 :: b3 :: b4 :: b5 :: b6 :: b7 :: rest =>
    (bytesOfBits rest).map (BitVec.ofNat 8 (packBits [b0, b1, b2, b3, b4, b5, b6, b7]) :: ·)
  | _ => none

/-- The body of a frame heard on the line: one with a broken code, a bad start or a bad CRC is discarded (R158, R181). -/
def heardBody (type len : Nat) (line : List Bool) : Option (List Byte) :=
  match (lineBits line).bind bytesOfBits with
  | some bs => busBody type len bs
  | none => none

/-- What a unit drives of a frame: it ends the frame at the first bit that does not read back as sent (R174). -/
def driven (frame : List Byte) (clash : Option Nat) : List Bool :=
  match clash with
  | some k => (lineOf frame).take (2 * (k + 1))
  | none => lineOf frame

/-- A bit of the frame did not read back as sent (R174). -/
def clashes (frame : List Byte) (clash : Option Nat) : Bool :=
  match clash with
  | some k => decide (k < 8 * frame.length)
  | none => false

/-- An empty peer slot (R162, R179). -/
def emptySlot : List Byte := padTo 16 0#8 [0xFE#8]

/-- The next outbound peer slot. -/
def Sync.slot (x : Sync) : List Byte := x.queue.headD emptySlot

/-- COLLISION (R174). -/
def Block.collision (b : Block) (type : Nat) : Block := (b.setFlag R.TB_SYNC_STATUS.COLLISION true).event 0x0113 (leBytes 1 type)

/-! ## Peer messages (R179, R180) -/

/-- The channels bound to PEER, with the MID at the other end. -/
def Block.peerChannels (b : Block) : List (Nat × Nat) :=
  (List.range 8).filterMap (fun c => (b.otherEnd c 3).map (fun m => (c, m)))

/-- PEER_DELIVER: a received slot reaches every channel bound to PEER that has room (R180). -/
def Block.peerDeliver (b : Block) (src : Nat) (slot : List Byte) : Block :=
  let dst := leField slot 0 1
  if dst ≠ b.unitId ∧ dst ≠ 0xFF then b
  else
    let ws := (List.range 4).map (fun i => BitVec.ofNat 32 (leField slot (4 * i) 4))
    b.peerChannels.foldl (fun b p =>
      if (b.toward p.1 p.2).length + 4 ≤ 8 then b.enqueue p.1 p.2 ws
      else b.event 0x0114 (leBytes 1 p.1 ++ leBytes 1 src)) b

/-! ## The master (R159, R163, R164) -/

/-- The one-way delay of a unit: the mean of its last round trips, halved (R164). -/
def Sync.delayOf (x : Sync) (unit : Nat) : Nat :=
  let l := ((x.trips.find? (fun p => p.1 == unit)).map (·.2)).getD []
  (clampInt 0 65535 (Config.quantise (quotient ((l.sum : Int) : Rat) (2 * l.length)))).toNat

/-- PERIOD of a beacon: the tick period in force, TB_PERIOD.PERIOD where enforcement does not lengthen it; TB_PERIOD.PERIOD of a
master of encoder ticks (R159, R663). -/
def Block.beaconPeriod (b : Block) : Nat := if b.encTicks then b.periodSet else b.periodInForce

/-- The body of the beacon of a tick (R159). -/
def Block.beaconBody (b : Block) : List Byte :=
  let x := b.clock.sync
  leBytes 1 1 ++ leBytes 1 b.unitId ++ leBytes 4 (b.get R.TB_FRAME.FRAME) ++ leBytes 6 b.clock.tickPt.toNat ++
  leBytes 3 (b.beaconPeriod % 2 ^ 22) ++
  (match x.dlyNext with
    | some u => leBytes 1 (u + 128) ++ leBytes 2 (x.delayOf u)
    | none => leBytes 3 0) ++
  leBytes 1 (bit b.power.dusk.isSome + 2 * b.get R.TB_SYNC_CTL.MASTER_SRC) ++ x.slot

/-- The beacon of the timing master at a tick; it is read back (R123, R159, R174). -/
def Block.sendBeacon (b : Block) (clash : Option Nat) : Block :=
  if b.syncRuns ∧ b.role = 3 then
    let f := busFrame b.beaconBody
    let bad := clashes f clash
    let b := b.setSync (fun x => { x with lastTx := driven f clash, dlyNext := none, queue := if bad then x.queue else x.queue.drop 1 })
    if bad then b.collision 1 else b
  else b

/-- REPLY_RX: the master measures the round trip; every unit takes the peer slot (R164, R180). -/
def Block.stepReplyRx (b : Block) (line : List Bool) (roundTrip : Nat) : Block :=
  match heardBody 2 28 line with
  | none => b
  | some body =>
    if !b.syncRuns then b
    else
      let src := leField body 1 1 % 16
      let b := if b.role = 3 ∧ leField body 2 4 = b.get R.TB_FRAME.FRAME then
          b.setSync (fun x =>
            let old := ((x.trips.find? (fun p => p.1 == src)).map (·.2)).getD []
            { x with trips := (src, (((roundTrip : Int) - 20000) :: old).take 4) :: x.trips.filter (fun p => p.1 != src),
                     dlyNext := some src })
        else b
      b.peerDeliver src (body.drop 7)

/-! ## The follower (R165 to R170, R177) -/

/-- Press time that this unit should have shown at the master's tick, and the step to the beacon's (R168). -/
def Block.ptError (b : Block) (beaconPt : PT) : Int :=
  let age := (12800 + b.clock.sync.delay) / 10
  ptDiff beaconPt (b.clock.pt - BitVec.ofNat 48 age)

/-- SYNC_LOCK: LOCK sets (R166, R177). -/
def Block.syncLock (b : Block) : Block :=
  if b.flag R.TB_SYNC_STATUS.LOCK then b
  else (b.setFlag R.TB_SYNC_STATUS.LOCK true).event 0x010E
    (leBytes 1 (b.get R.TB_SYNC_STATUS.MASTER_ID) ++ leBytes 4 b.clock.sync.masterTick ++ leBytes 2 b.clock.sync.delay)

/-- PERIOD_MISMATCH: one event per change of the mismatch (R170). -/
def Block.periodMismatch (b : Block) (period : Nat) : Block :=
  let own := b.get R.TB_PERIOD.PERIOD
  if period = own then (b.setFlag R.TB_SYNC_STATUS.PERIOD_MISMATCH false).setSync (fun x => { x with mismatch := none })
  else
    let b := b.setFlag R.TB_SYNC_STATUS.PERIOD_MISMATCH true
    if b.clock.sync.mismatch = some (period, own) then b
    else (b.setSync (fun x => { x with mismatch := some (period, own) })).event 0x0112 (leBytes 4 period ++ leBytes 4 own)

/-- The delay report of a beacon and the count towards LOCK (R166, R177). -/
def Block.takeDelay (b : Block) (dlyId dly : Nat) : Block :=
  if dlyId = b.unitId + 128 then
    let again := b.clock.sync.relock
    let b := b.setSync (fun x => { x with
      delay := dly, dlySeen := true, relock := false, beacons := if x.dlySeen then x.beacons + 1 else 0 })
    let b := b.set R.TB_SYNC_STATUS.DELAY (min 4095 dly)
    if again then b.syncLock else b
  else b.setSync (fun x => { x with beacons := if x.dlySeen then x.beacons + 1 else x.beacons })

/-- The next tick is placed from the end of a received beacon (R165). -/
def Block.placeTick (b : Block) (period : Nat) : Block :=
  b.setSync (fun x => { x with hasPred := true, period := period, predicted := 10 * (b.now : Int) - 12800 - x.delay + 10 * period })

/-- Where the prediction puts the end of the beacon of the last tick, in ns of TIME (R165, R176). -/
def Sync.arrival (x : Sync) : Int := x.predicted - 10 * x.period + 12800 + x.delay

/-- How far from its prediction, in ns, a beacon comes now; 0 where none is predicted (R176, R177). -/
def Block.beaconError (b : Block) : Nat :=
  if b.clock.sync.hasPred then (10 * (b.now : Int) - b.clock.sync.arrival).natAbs else 0

/-- PT counts TIME clocks, untrimmed (R144). -/
def Block.freePt (b : Block) : Block := { b with clock := { b.clock with ptNum := 1, ptDen := 1, ptRem := 0 } }

/-- The rate of PT is trimmed so that PT comes to `target`, the master's, at the next predicted tick (R166, R167, log entry 64). -/
def Block.trimPt (b : Block) (target : PT) : Block :=
  let clocks := ratCeil ((b.clock.sync.predicted : Rat) / 10) - b.now
  let gap := ptDiff target b.clock.pt
  if 0 < clocks ∧ 0 < gap then { b with clock := { b.clock with ptNum := gap.toNat, ptDen := clocks.toNat, ptRem := 0 } } else b

/-- An election tick begins (R171, R172). -/
def Block.beginElection (b : Block) (at_ : Nat) : Block :=
  if b.flag R.TB_SYNC_CTL.MASTER_CAP then b.setSync (fun x => { x with election := true, electionAt := at_, heardLower := false }) else b

/-- A beacon is missed: HOLDOVER, and after LOSS_N misses in a row the master is lost, with what led to LOCK (R171, R176, R177,
R553). -/
def Block.missBeacon (b : Block) : Block :=
  let b := (b.setSync (fun x => { x with missed := x.missed + 1, replyDue := false, awaits := false })).setFlag R.TB_SYNC_STATUS.HOLDOVER true
  let n := b.clock.sync.missed
  let b := if n = b.lossN then
      let b := b.event 0x010F (leBytes 1 (b.get R.TB_SYNC_STATUS.MASTER_ID))
      ((b.setFlag R.TB_SYNC_STATUS.LOCK false).setSync (fun x => { x with dlySeen := false, beacons := 0, relock := false })).receiverReset 3 1
    else b
  if n % b.lossN = 0 then b.beginElection b.clock.lastTick else b

/-- What a beacon's moment says: one more than 2 µs from its prediction is a missed beacon that places the ticks anew; in HOLDOVER
one within 1 µs ends it and lets LOCK set at the next delay report, and one farther off lets the lock start over (R166, R176,
R177, log entry 65). -/
def Block.judgeBeacon (b : Block) : Block :=
  let err := b.beaconError
  let b := if 2000 < err then (if b.clock.sync.awaits then b.missBeacon else b) else b.setSync (fun x => { x with missed := 0 })
  let held := b.flag R.TB_SYNC_STATUS.HOLDOVER && b.clock.sync.hasPred
  let far := decide (2000 < err) || (held && decide (1000 < err))
  let locked := b.flag R.TB_SYNC_STATUS.LOCK
  let b := b.setFlag R.TB_SYNC_STATUS.HOLDOVER far
  b.setSync (fun x => { x with
    relock := !far && (x.relock || (held && !locked)), dlySeen := x.dlySeen && !far, beacons := if far then 0 else x.beacons })

/-- BEACON_RX: a valid beacon has been received whole (R165 to R170, R173, R176, R177, R180). -/
def Block.stepBeaconRx (b : Block) (line : List Bool) : Block :=
  match heardBody 1 40 line with
  | none => b
  | some body =>
    if !b.syncRuns || b.role == 3 then b
    else
      let src := leField body 1 1 % 16
      let tick := leField body 2 4
      let pt := BitVec.ofNat 48 (leField body 6 6)
      let period := leField body 12 3 % 2 ^ 22
      let b := (b.judgeBeacon.set R.TB_SYNC_STATUS.ROLE 2).set R.TB_SYNC_STATUS.MASTER_ID src
      let b := b.setSync (fun x => { x with
        election := false, awaits := false, masterTick := tick, replyDue := tick % 16 == b.unitId, rxAt := b.now })
      let b := (b.takeDelay (leField body 15 1 % 16 + leField body 15 1 / 128 * 128) (leField body 16 2)).placeTick period
      let e := b.ptError pt
      let next := pt + BitVec.ofNat 48 period
      let b := b.setSync (fun x => { x with ptAdjust := some next, ptStep := if 100 < e.natAbs then some e else none })
      let b := if 100 < e.natAbs then b else b.trimPt next
      let b := if 8 ≤ b.clock.sync.beacons ∧ b.clock.sync.dlySeen then b.syncLock else b
      (b.periodMismatch period).peerDeliver src (body.drop 19)

/-- At the follower's tick a PT that differs by more than 1 µs is set to the master's, with a PT_STEP; a smaller difference was
trimmed away (R166, R168). -/
def Block.followPt (b : Block) : Block :=
  match b.clock.sync.ptAdjust with
  | none => b
  | some pt =>
    let step := b.clock.sync.ptStep
    let b := b.setSync (fun x => { x with ptAdjust := none, ptStep := none })
    match step with
    | some e => ({ b with clock := { b.clock with pt := pt } }).event 0x0111 (leBytes 6 (unsigned 48 e))
    | none => b

/-- The reply body of a follower (R160). -/
def Block.replyBody (b : Block) : List Byte :=
  leBytes 1 2 ++ leBytes 1 b.unitId ++ leBytes 4 b.clock.sync.masterTick ++
  leBytes 1 (b.get R.TB_SYNC_STATUS.LOCK + 2 * b.get R.TB_SYNC_CTL.MASTER_CAP) ++ b.clock.sync.slot

/-- REPLY_TX: a follower whose turn it is replies, 20.0 µs after it received the end of the beacon (R163, R174, R179). -/
def Block.stepReplyTx (b : Block) (clash : Option Nat) : Block :=
  if b.syncRuns ∧ b.role = 2 ∧ b.clock.sync.replyDue ∧ b.now = b.clock.sync.rxAt + usec 20 then
    let f := busFrame b.replyBody
    let bad := clashes f clash
    let b := b.setSync (fun x => { x with replyDue := false, lastTx := driven f clash, queue := if bad then x.queue else x.queue.drop 1 })
    if bad then b.collision 2 else b
  else b

/-! ## Loss and election (R171, R172, R174, R176) -/

/-- BEACON_MISSED: no valid beacon has come by 2 µs after where the follower's last tick predicts it (R171, R176, R553). -/
def Block.stepBeaconMissed (b : Block) : Block :=
  if b.syncOn ∧ b.role = 2 ∧ b.clock.sync.awaits ∧ b.clock.sync.arrival + 2000 ≤ 10 * b.now then b.missBeacon else b

/-- SYNC_SEARCH_TIMEOUT: no beacon for LOSS_N periods while searching: an election, or a wait in HOLDOVER (R171, R183). -/
def Block.stepSearchTimeout (b : Block) : Block :=
  if b.syncOn ∧ (b.role = 1 ∨ (b.role = 2 ∧ !b.clock.sync.hasPred)) ∧
      b.clock.sync.searchFrom + b.lossN * b.periodSet ≤ b.now then
    let b := b.setSync (fun x => { x with searchFrom := b.now })
    if b.flag R.TB_SYNC_CTL.MASTER_CAP then b.beginElection b.now
    else (b.set R.TB_SYNC_STATUS.ROLE 2).setFlag R.TB_SYNC_STATUS.HOLDOVER true
  else b

/-- The unit becomes master (R172, R178). -/
def Block.becomeMaster (b : Block) : Block :=
  let b := (b.set R.TB_SYNC_STATUS.ROLE 3).set R.TB_SYNC_STATUS.MASTER_ID b.unitId
  let b := b.setFlag R.TB_SYNC_STATUS.HOLDOVER false
  let b := b.setSync (fun x => { x with election := false, missed := 0, trips := [], dlyNext := none, dlySeen := false, beacons := 0, relock := false })
  b.freePt.event 0x0110 (leBytes 1 3 ++ leBytes 1 b.unitId)

/-- The body of a claim (R161). -/
def Block.claimBody (b : Block) : List Byte := leBytes 1 3 ++ leBytes 1 b.unitId ++ leBytes 4 (b.get R.TB_FRAME.FRAME)

/-- Now lies in this unit's claim slot of the election tick (R163, R172). -/
def Block.inClaimSlot (b : Block) : Bool :=
  let slot := b.clock.sync.electionAt + usec (50 + 20 * b.unitId)
  decide (slot ≤ b.now) && decide (b.now < slot + usec 20)

/-- CLAIM_TX: this unit's claim slot in an election tick (R172, R174). -/
def Block.stepClaimTx (b : Block) (clash : Option Nat) : Block :=
  let x := b.clock.sync
  if b.syncRuns ∧ x.election ∧ !x.heardLower ∧ b.inClaimSlot then
    let f := busFrame b.claimBody
    let b := b.setSync (fun y => { y with lastTx := driven f clash })
    if clashes f clash then (b.setSync (fun y => { y with election := false })).collision 3 else b.becomeMaster
  else b

/-- CLAIM_RX: a valid claim of a lower unit id ends this unit's part in the election (R172). -/
def Block.stepClaimRx (b : Block) (line : List Bool) : Block :=
  match heardBody 3 11 line with
  | none => b
  | some body =>
    if b.syncRuns ∧ b.clock.sync.election ∧ leField body 1 1 % 16 < b.unitId then
      b.setSync (fun x => { x with heardLower := true, election := false })
    else b

/-! ## Start and stop (R157, R183) -/

/-- The sync block starts, or TICK_SRC has become SYNC: the unit searches for a beacon (R171, R183). -/
def Block.joinBus (b : Block) : Block :=
  let b := b.setSync (fun x => { x with
    started := true, searchFrom := b.now, hasPred := false, missed := 0, dlySeen := false, beacons := 0, relock := false,
    election := false, awaits := false, replyDue := false, ptAdjust := none, ptStep := none, mismatch := none })
  let b := b.freePt
  ((b.set R.TB_SYNC_STATUS.ROLE 1).setFlag R.TB_SYNC_STATUS.LOCK false).setFlag R.TB_SYNC_STATUS.HOLDOVER false

/-- The sync block stops, or TICK_SRC has left SYNC: the transceiver is off (R157). -/
def Block.leaveBus (b : Block) : Block :=
  let b := b.setSync (fun x => { x with
    hasPred := false, election := false, awaits := false, replyDue := false, ptAdjust := none, ptStep := none, trips := [], dlyNext := none })
  let b := b.freePt
  let b := ((b.set R.TB_SYNC_STATUS.ROLE 0).setFlag R.TB_SYNC_STATUS.LOCK false).setFlag R.TB_SYNC_STATUS.HOLDOVER false
  b.setFlag R.TB_SYNC_STATUS.PERIOD_MISMATCH false

/-! ## Meanings -/

/-- BEACON_RX (R165). -/
def execBeaconRx (dt : Nat) (line : List Bool) (s : State) : Host.Outcome State Fault Refusal := s.run dt (fun b => b.stepBeaconRx line)
/-- BEACON_MISSED (R176). -/
def execBeaconMissed (dt : Nat) (s : State) : Host.Outcome State Fault Refusal := s.run dt Block.stepBeaconMissed
/-- CLAIM_TX (R172). -/
def execClaimTx (dt : Nat) (clash : Option Nat) (s : State) : Host.Outcome State Fault Refusal := s.run dt (fun b => b.stepClaimTx clash)
/-- CLAIM_RX (R172). -/
def execClaimRx (dt : Nat) (line : List Bool) (s : State) : Host.Outcome State Fault Refusal := s.run dt (fun b => b.stepClaimRx line)
/-- REPLY_TX (R163). -/
def execReplyTx (dt : Nat) (clash : Option Nat) (s : State) : Host.Outcome State Fault Refusal := s.run dt (fun b => b.stepReplyTx clash)
/-- REPLY_RX (R164). -/
def execReplyRx (dt : Nat) (line : List Bool) (roundTrip : Nat) (s : State) : Host.Outcome State Fault Refusal :=
  s.run dt (fun b => b.stepReplyRx line roundTrip)
/-- SYNC_SEARCH_TIMEOUT (R183). -/
def execSyncSearchTimeout (dt : Nat) (s : State) : Host.Outcome State Fault Refusal := s.run dt Block.stepSearchTimeout

end Sys2Proof.Machine
end

