-- ==== Sys2Proof/Machine/Output.lean ====
section
/-! DEFINITION. Image and result output: packets, the frame header line, the buffers, the link estimate and the bursts
(chapter 21). -/

namespace Sys2Proof.Machine

/-- Change the output formatter's state. -/
def Block.setOut (b : Block) (f : Output → Output) : Block := { b with out := f b.out }

/-! ## Packets (R682 to R687) -/

/-- Bytes a packet occupies: header, payload and checksum, or a short packet's header (R683). -/
def Packet.size (p : Packet) : Nat := if p.dt < 0x10 then 4 else p.payload.length + 6

/-- A long packet. -/
def longPacket (vc dt frame : Nat) (payload : List Byte) : Packet :=
  { vc := vc, dt := dt, wc := payload.length, payload := payload, frame := frame }

/-- The CSI-2 frame number of frame `n` (R684). -/
def csiFrame (n : Nat) : Nat := n % 65535 + 1

/-- A frame start short packet. -/
def frameStartPacket (vc n : Nat) : Packet := { vc := vc, dt := 0x00, wc := csiFrame n, frame := n }

/-- A frame end short packet. -/
def frameEndPacket (vc n : Nat) : Packet := { vc := vc, dt := 0x01, wc := csiFrame n, frame := n }

/-- A line, between line start and line end short packets when LINE_SYNC is 1 (R685). -/
def linePackets (sync : Bool) (vc dt n line : Nat) (payload : List Byte) : List Packet :=
  let p := longPacket vc dt n payload
  if sync then [{ vc := vc, dt := 0x02, wc := line, frame := n }, p, { vc := vc, dt := 0x03, wc := line, frame := n }] else [p]

/-- The payload of a VC0 line (R686). -/
def vc0Line (vals : List Nat) : List Byte := vals.flatMap (leBytes 2)

/-- The payload of a VC1 line: the 14-bit code, bit 14 saturated, bit 15 faulty column (R687). -/
def vc1Line (faulty codes : List Nat) : List Byte :=
  ((List.range 1040).map (fun c =>
    let code := codes.getD c 0
    code % 16384 + (if codeOk code then 0 else 16384) + (if faulty.contains c then 32768 else 0))).flatMap (leBytes 2)

/-! ## The wire form (R680, R683) -/

/-- Parity bit `i` of the CSI-2 header ECC (MIPI CSI-2, log entry 48). -/
def eccMask : List Nat := [0xF12CB7, 0xF2555B, 0x749A6D, 0xB8E38E, 0xDF03F0, 0xEFFC00]

/-- The parity of the bits of a number. -/
def parity (n v : Nat) : Bool := (List.range n).foldl (fun p i => p != bitOf v i) false

/-- The ECC of a 24-bit packet header (MIPI CSI-2, log entry 48). -/
def headerEcc (h : Nat) : Nat :=
  (eccMask.zipIdx).foldl (fun e p => if parity 24 (Nat.land p.1 h) then e + 2 ^ p.2 else e) 0

/-- One step of the CSI-2 checksum for one bit (MIPI CSI-2, log entry 48). -/
def csiCrcBit (crc : Nat) (msg : Bool) : Nat := if bitOf crc 0 != msg then Nat.xor (crc / 2) 0x8408 else crc / 2

/-- The CSI-2 checksum of a payload (R683, log entry 48). -/
def csiCrc (bs : List Byte) : Nat :=
  bs.foldl (fun c b => [0, 1, 2, 3, 4, 5, 6, 7].foldl (fun c i => csiCrcBit c (bitOf b.toNat i)) c) 0xFFFF

/-- The bytes of a packet on the link (R683). -/
def Packet.bytes (p : Packet) : List Byte :=
  let h := (64 * p.vc + p.dt) + 256 * p.wc
  let head := leBytes 3 h ++ leBytes 1 (headerEcc h)
  if p.dt < 0x10 then head else head ++ p.payload ++ leBytes 2 (csiCrc p.payload)

/-- The used data lanes (R680). -/
def Block.laneCount (b : Block) : Nat := b.get R.VO_LANES.LANES + 1

/-- Bytes distributed over the lanes in turn (R680, log entry 48). -/
def laneBytes (n : Nat) (bs : List Byte) : List (List Byte) :=
  (List.range n).map (fun l => ((bs.zipIdx).filter (fun p => p.2 % n == l)).map (·.1))

/-! ## Queueing (R690, R693, R695, R696) -/

/-- Bytes in the image buffer. -/
def Output.occupancy (x : Output) : Nat := (x.image.map Packet.size).sum

/-- Put packets into the image buffer; BUF_PEAK follows the occupancy in KiB. -/
def Block.queueImage (b : Block) (ps : List Packet) : Block :=
  let b := b.setOut (fun x => { x with image := x.image ++ ps })
  b.set R.VO_STATUS.BUF_PEAK (max (b.get R.VO_STATUS.BUF_PEAK) (min 1023 (b.out.occupancy / 1024)))

/-- The frame is sent on a virtual channel (R682, R698). -/
def Frame.sends (fr : Frame) (vc : Nat) : Bool :=
  fr.get R.VO_CTL.EN == 1 && !fr.flags.dropped &&
  (fr.get (match vc with
    | 0 => R.VO_CTL.VC0_EN
    | 1 => R.VO_CTL.VC1_EN
    | _ => R.VO_CTL.VC2_EN) == 1)

/-- Image lines are withheld under the Safety net (R693). -/
def Frame.suppressed (fr : Frame) : Bool := fr.flags.safetyNet && fr.get R.VO_CTL.SN_IMAGE == 1

/-- Output starts with a deskew sequence when DESKEW_EN is 1 (R681, R696). -/
def Block.outputStart (b : Block) : Block :=
  if b.out.started then b else b.setOut (fun x => { x with started := true, deskewDue := b.flag R.VO_LANES.DESKEW_EN, deskewCount := 0 })

/-- Queue a frame start on an image channel (R690). -/
def Block.queueStart (b : Block) (fr : Frame) (vc : Nat) : Block :=
  if fr.sends vc then b.outputStart.queueImage [frameStartPacket vc fr.n] else b

/-- Space held for the header and frame-end packets of the two image channels (R695, log entry 49). -/
def heldSpace : Nat := 148

/-- OUTPUT_TRUNC: an image packet finds the buffer full (R695). -/
def Block.truncate (b : Block) (n vc line : Nat) : Block :=
  ((b.setFlag R.VO_STATUS.TRUNC true).inc R.VO_COUNT.TRUNCATED).event 0x0215 (leBytes 4 n ++ leBytes 1 vc ++ leBytes 2 line)

/-- Queue one line of an image channel, or truncate the frame (R690, R693, R695). -/
def Block.queueLine (b : Block) (fr : Frame) (vc line : Nat) (payload : List Byte) : Block × Frame :=
  if !fr.sends vc || fr.suppressed || fr.flags.truncated then (b, fr)
  else
    let dt := if vc = 1 then 0x32 else if fr.get R.VO_CTL.VC0_DT = 1 then 0x2E else 0x30
    let ps := linePackets (fr.get R.VO_CTL.LINE_SYNC == 1) vc dt fr.n line payload
    if b.out.occupancy + (ps.map Packet.size).sum + heldSpace ≤ 524288 then
      (b.queueImage ps, if vc = 1 then { fr with lines1 := fr.lines1 + 1 } else { fr with lines0 := fr.lines0 + 1 })
    else (b.truncate fr.n vc line, { fr with flags := { fr.flags with truncated := true } })

/-! ## The header line (R689) -/

/-- The window that a frame asked for was clipped (R192). -/
def Frame.winClip (fr : Frame) : Bool :=
  let a := windowAsked (fr.get R.FP_WIN.Y0_8) (fr.get R.FP_WIN.H_8)
  decide (768 < a.1 + a.2)

/-- BIAS_OFF_CAL for the frame (R200). -/
def Frame.offCal (fr : Frame) : Bool :=
  fr.get R.FP_BIAS.LEVEL != fr.get R.FP_BIAS.FACTORY_LEVEL || fr.get R.FP_ROWPHASE.BIAS_WIDTH != fr.get R.FP_ROWPHASE.FACTORY_WIDTH ||
  fr.flags.biasClip

/-- FLAGS of the header line. -/
def Frame.headerFlags (fr : Frame) : Nat :=
  let x := fr.flags
  [x.oob, x.biasSettle, x.biasFault, x.driftClamp, x.throttled, x.safetyNet, !fr.shed.isEmpty, fr.winClip, fr.offCal,
   fr.eccCount != 0, !fr.faulty.isEmpty, fr.suppressed, x.truncated, x.abandoned].zipIdx.foldl
    (fun v p => if p.1 then v + 2 ^ p.2 else v) 0

/-- The 64 bytes of the header line of a channel with `lines` lines sent (R689). -/
def Frame.header (fr : Frame) (lines : Nat) : List Byte :=
  leBytes 4 fr.n ++ leBytes 6 (fr.exposurePt (fr.y0 + fr.w / 2)).toNat ++ leBytes 2 (unsigned 16 fr.tfpa) ++
  leBytes 1 (fr.get R.CP_STATUS.BRACKET) ++ leBytes 1 fr.overlay ++ leBytes 2 fr.headerFlags ++ leBytes 2 fr.y0 ++ leBytes 2 fr.w ++
  leBytes 2 (unsigned 16 fr.dtUsed) ++ leBytes 2 (rowTime (fr.get R.FP_ROWCFG.ROW_TIME)) ++ leBytes 4 (fr.period % 2 ^ 22) ++
  leBytes 4 (min 0xFFFFF fr.replaced + 2 ^ 20 * min 0xFFF fr.noValue) ++ leBytes 2 fr.admitted.length ++ leBytes 2 fr.shed.length ++
  leBytes 4 lines ++ leBytes 24 0

/-- Queue the header line and the frame end of an image channel (R690). -/
def Block.queueEnd (b : Block) (fr : Frame) (vc : Nat) : Block :=
  if fr.sends vc then
    b.queueImage [longPacket vc 0x12 fr.n (fr.header (if vc = 1 then fr.lines1 else fr.lines0)), frameEndPacket vc fr.n]
  else b

/-- ZONE_LINES as it acts (R700). -/
def zoneLines (v : Nat) : Nat := max 1 (min 16 v)

/-- Queue the VC2 frame of a published frame: its result lines, header and frame end (R688, R690). -/
def Block.queueVc2 (b : Block) (fr : Frame) (lines : List (List Byte)) : Block :=
  if !fr.sends 2 then b
  else
    let sent := lines.take (zoneLines (fr.get R.VO_CTL.ZONE_LINES))
    let sync := fr.get R.VO_CTL.LINE_SYNC == 1
    let ps := frameStartPacket 2 fr.n ::
      ((sent.zipIdx).flatMap (fun p => linePackets sync 2 0x31 fr.n (p.2 + 1) p.1) ++
       [longPacket 2 0x12 fr.n (fr.header sent.length), frameEndPacket 2 fr.n])
    b.outputStart.setOut (fun x => { x with result := x.result ++ ps })

/-! ## Loss of VDDPHY (R696) -/

/-- A frame is discarded whole: it is counted, and the first one gives OUTPUT_DROP. -/
def Block.dropFrame (b : Block) (n : Nat) : Block :=
  let b := b.inc R.VO_COUNT.DROPPED
  if b.out.dropSeen then b else (b.setOut (fun x => { x with dropSeen := true })).event 0x0216 (leBytes 4 n)

/-- A frame start of the frame has been queued: on VC1 at slot 2, on VC0 at slot 6 (R690). -/
def Frame.begun (fr : Frame) : Bool := (fr.sends 1 && decide (2 ≤ fr.slot)) || (fr.sends 0 && decide (6 ≤ fr.slot))

/-- A frame whose frame start would be queued while output is lost is discarded whole (R696). -/
def Block.lostFrame (b : Block) (fr : Frame) (vc : Nat) : Block × Frame :=
  if b.out.lost && fr.sends vc then (b.dropFrame fr.n, { fr with flags := { fr.flags with dropped := true } }) else (b, fr)

/-- VDDPHY is lost: the frames in the buffers and those begun are discarded whole (R696). -/
def Block.phyLost (b : Block) : Block :=
  let sending := (b.img.frames.filter Frame.begun).map (·.n)
  let queued := ((b.out.image ++ b.out.result).map (·.frame)).dedup.filter (fun n => !sending.contains n)
  let b := b.setOut (fun x => { x with image := [], result := [], opened := [], lost := true, started := false, dropSeen := false })
  let b := { b with img := { b.img with frames := b.img.frames.map (fun fr =>
    if sending.contains fr.n then { fr with flags := { fr.flags with dropped := true } } else fr) } }
  (queued ++ sending).foldl Block.dropFrame b

/-- Output resumes at the first tick after VDDPHY is valid again (R76, R696). -/
def Block.phyTick (b : Block) : Block :=
  if b.out.lost ∧ b.power.valid.contains .vddphy then b.setOut (fun x => { x with lost := false }) else b

/-! ## The link estimate (R692) -/

/-- RATE as it acts, in 10 Mb/s. -/
def rateUnits (v : Nat) : Nat := max 8 (min 250 v)

/-- T_BURST in ns. -/
def Block.burstNs (b : Block) : Rat :=
  let ui : Rat := 100 / rateUnits (b.get R.VO_LANES.RATE)
  let t : Rat := b.get R.VO_DPHY.TLPX + b.get R.VO_DPHY.THS_PREPARE + b.get R.VO_DPHY.THS_ZERO + b.get R.VO_DPHY.THS_TRAIL + b.get R.VO_DPHY2.THS_EXIT
  let clk : Rat := if b.flag R.VO_CTL.CONT_CLK then 0
    else b.get R.VO_DPHY2.TCLK_PREPARE + 4 * b.get R.VO_DPHY2.TCLK_ZERO + b.get R.VO_DPHY2.TCLK_TRAIL + 60 + 60 * ui
  t + 8 * ui + clk

/-- A burst of `bits` bits, in ns; nothing to send takes no time. -/
def Block.burst (b : Block) (bits : Nat) : Rat :=
  if bits = 0 then 0 else b.burstNs + (bits : Rat) * 100 / (b.laneCount * rateUnits (b.get R.VO_LANES.RATE))

/-- Bits of a line of `n` bytes with its line packets. -/
def Block.lineBits (b : Block) (n : Nat) : Nat := 8 * (n + 6) + (if b.flag R.VO_CTL.LINE_SYNC then 64 else 0)

/-- T_row in ns. -/
def Block.rowNs (b : Block) : Rat :=
  b.burst ((if b.flag R.VO_CTL.VC0_EN then b.lineBits 2048 else 0) + (if b.flag R.VO_CTL.VC1_EN then b.lineBits 2080 else 0))

/-- T_frame in ns. -/
def Block.frameNs (b : Block) : Rat :=
  let vcs := b.get R.VO_CTL.VC0_EN + b.get R.VO_CTL.VC1_EN
  let vc2 := if b.flag R.VO_CTL.VC2_EN then 32 + zoneLines (b.get R.VO_CTL.ZONE_LINES) * b.lineBits 2048 + 560 + 32 else 0
  b.window.2 * b.rowNs + (if b.flag R.VO_CTL.VC1_EN then 4 * b.burst (b.lineBits 2080) else 0) +
    b.burst (32 * vcs) + b.burst (592 * vcs) + b.burst vc2

/-- OUTPUT_RATE: the estimate after a commit (R692). -/
def Block.outputRate (b : Block) : Block :=
  let row := b.rowNs
  let frame := b.frameNs
  let tRow : Rat := 20 * rowTime (b.get R.FP_ROWCFG.ROW_TIME)
  let overRow := decide (tRow < row)
  let overFrame := decide ((10 * b.periodInForce : Nat) < frame)
  let rise := (overRow && !b.flag R.VO_STATUS.OVER_ROW) || (overFrame && !b.flag R.VO_STATUS.OVER_FRAME)
  let rowNs := min 0xFFFF (ratCeil row).toNat
  let frameUs := min 0xFFFF (ratCeil (frame / 1000)).toNat
  let b := (b.setFlag R.VO_STATUS.OVER_ROW overRow).setFlag R.VO_STATUS.OVER_FRAME overFrame
  let b := (b.set R.VO_BUDGET.T_ROW rowNs).set R.VO_BUDGET.T_FRAME (if overRow then 0xFFFF else frameUs)
  if rise then
    b.event 0x0217 (leBytes 4 (ratCeil row).toNat ++ leBytes 4 (ratCeil (frame / 1000)).toNat ++
      leBytes 2 (rowTime (b.get R.FP_ROWCFG.ROW_TIME)) ++ leBytes 4 b.periodInForce)
  else b

/-! ## Bursts (R681, R691, R698) -/

/-- The output block runs: enabled in force while read-out runs, or something is still to be sent (R698). -/
def Block.outputRuns (b : Block) : Bool :=
  (b.flag R.VO_CTL.EN && b.img.reading) || !b.out.image.isEmpty || !b.out.result.isEmpty || !b.out.opened.isEmpty ||
  b.img.frames.any (fun fr => fr.get R.VO_CTL.EN == 1)

/-- One packet leaves: the open frames, VO_LAST_FRAME and the deskew count follow (R681, R700). -/
def Block.sendPacket (b : Block) (p : Packet) : Block :=
  match p.dt with
  | 0 =>
    let b := if b.out.deskewDue then b.setOut (fun x => { x with deskewDue := false, deskewed := true }) else b
    b.setOut (fun x => { x with opened := x.opened ++ [(p.vc, p.frame)] })
  | 1 =>
    let b := b.setOut (fun x => { x with opened := x.opened.filter (fun o => o.1 != p.vc) })
    if p.vc ≠ 0 then b
    else
      let b := b.set R.VO_LAST_FRAME.FRAME p.frame
      let fr := b.get R.VO_LANES.DESKEW_FR
      let n := b.out.deskewCount + 1
      if b.flag R.VO_LANES.DESKEW_EN ∧ fr ≠ 0 ∧ fr ≤ n then b.setOut (fun x => { x with deskewCount := 0, deskewDue := true })
      else b.setOut (fun x => { x with deskewCount := n })
  | _ => b

/-- The packets of the next burst: a queued VC2 frame goes before any image packet (R691). -/
def Output.next (x : Output) (n : Nat) : List Packet := (x.result ++ x.image).take n

/-- CSI_BURST: up to `n` queued packets leave in one burst (R691). -/
def Block.stepCsiBurst (b : Block) (n : Nat) : Block :=
  if b.out.lost || !b.power.valid.contains .vddphy || b.power.mode.lost || b.power.mode == .nap then b
  else
    let ps := b.out.next n
    if ps.isEmpty then b
    else
      let k := min n b.out.result.length
      let b := b.setOut (fun x => { x with
        result := x.result.drop k, image := x.image.drop (n - k), deskewed := false,
        lanes := laneBytes b.laneCount (ps.flatMap Packet.bytes) })
      ps.foldl Block.sendPacket b

/-- Dusk step 7: each open frame gets its frame end, and nothing further is sent (R698). -/
def Block.outputStop (b : Block) : Block :=
  let ends := b.out.opened.map (fun o => frameEndPacket o.1 o.2)
  let b := b.setOut (fun x => { x with
    image := [], result := [], started := false, deskewDue := false,
    lanes := if ends.isEmpty then x.lanes else laneBytes b.laneCount (ends.flatMap Packet.bytes) })
  ends.foldl Block.sendPacket b

/-! ## Meanings -/

/-- CSI_BURST (R691). -/
def execCsiBurst (dt packets : Nat) (s : State) : Host.Outcome State Fault Refusal := s.run dt (fun b => b.stepCsiBurst packets)

end Sys2Proof.Machine
end

