-- ==== Sys2Proof/Machine/Zone.lean ====
section
/-! DEFINITION. The zone engine: geometry, the budget plan, statistics at zone close, limits, the Safety net's predictions,
publication, bindings and the lamp PI loops (chapter 10). -/

namespace Sys2Proof.Machine

/-- Change the zone engine's state. -/
def Block.setZe (b : Block) (f : ZoneEngine → ZoneEngine) : Block := { b with zones := f b.zones }

/-! ## The zone record (R317, R349) -/

/-- The address of zone `z`'s record. -/
def zoneAddr (z : Nat) : Nat := 0x00900000 + 64 * z

/-- The address of an entry of the span pool. -/
def poolAddr (i : Nat) : Nat := 0x00928000 + 2 * i

/-- One binding of a zone record. -/
structure Binding where
  on : Nat
  tentative : Bool
  template : Nat
  k : Nat
  arg : Nat
deriving DecidableEq, Repr

/-- A zone record. -/
structure ZoneRecord where
  geom : Nat
  en : Bool
  prio : Nat
  trend : Bool
  debounce : Nat
  policy : Nat
  stat : Nat
  ring : Nat
  mask : Nat
  words : List Nat
  hi : Nat
  lo : Nat
  histLo : Nat
  binW : Nat
  q : Nat
  hyst : Nat
  highLim : Nat
  lowLim : Nat
  bind0 : Binding
  bind1 : Binding
deriving DecidableEq, Repr

/-- A binding's 8 bytes. -/
def bindingOf (bs : List Byte) : Binding :=
  let x := leField bs 0 1
  { on := x % 4, tentative := bitOf x 2, template := leField bs 1 1, k := ringK (leField bs 2 1 % 16), arg := leField bs 4 2 }

/-- A zone record's 64 bytes. -/
def zoneOf (bs : List Byte) : ZoneRecord :=
  let b0 := leField bs 0 1
  let b1 := leField bs 1 1
  let b3 := leField bs 3 1
  { geom := b0 % 4, en := bitOf b0 2, prio := b0 / 8 % 8, trend := bitOf b0 6,
    debounce := max 1 (b1 % 16), policy := min 2 (b1 / 16 % 4), stat := leField bs 2 1 % 8, ring := b3 % 32, mask := b3 / 32,
    words := (List.range 6).map (fun i => leField bs (4 + 2 * i) 2),
    hi := leField bs 16 2, lo := leField bs 18 2, histLo := leField bs 20 2, binW := max 1 (leField bs 22 2), q := leField bs 24 2,
    hyst := leField bs 26 2, highLim := leField bs 28 4, lowLim := leField bs 32 4,
    bind0 := bindingOf (bs.drop 36), bind1 := bindingOf (bs.drop 44) }

/-- A geometry word. -/
def ZoneRecord.word (z : ZoneRecord) (i : Nat) : Nat := z.words.getD i 0

/-- Zone `z`'s record in a memory. -/
def zoneIn (m : Mem) (z : Nat) : ZoneRecord := zoneOf (Mem.readBytes 0#8 m (zoneAddr z) 64)

/-- EN of zone `z` in a memory. -/
def zoneEn (m : Mem) (z : Nat) : Bool := bitOf (Mem.read 0#8 m (zoneAddr z)).toNat 2

/-- The enabled zones of a memory, ascending (R318). -/
def enabledZones (m : Mem) : List Nat := (List.range 1024).filter (zoneEn m)

/-! ## Geometry (R320 to R323) -/

/-- Visits of one row: columns `x0` up to, not including, `x1`. -/
structure Seg where
  y : Nat
  x0 : Nat
  x1 : Nat
deriving DecidableEq, Repr

/-- A run of positions without those outside the active array (R320). -/
def clipSeg (y x0 x1 : Int) : List Seg :=
  if y < 0 ∨ 767 < y then []
  else
    let a := max 0 x0
    let e := min 1024 x1
    if a < e then [⟨y.toNat, a.toNat, e.toNat⟩] else []

/-- RECT. -/
def rectSegs (z : ZoneRecord) : List Seg :=
  (List.range (max 1 (z.word 3))).flatMap (fun j =>
    clipSeg (z.word 1 + j) (z.word 0) (z.word 0 + (max 1 (z.word 2) : Nat)))

/-- The pool entries of a SPAN zone: XS and XE (R321). -/
def poolRange (m : Mem) (z : ZoneRecord) : List (Nat × Nat) :=
  let base := z.word 1
  let stop := min 16384 (base + max 1 (z.word 2))
  (List.range (stop - base)).map (fun i =>
    (Mem.readLe 0#8 m (poolAddr (base + i)) 1, Mem.readLe 0#8 m (poolAddr (base + i) + 1) 1))

/-- The walk of R321: the row so far and XE of the last span of it. -/
def spanWalk (row : Int) (last : Option Nat) : List (Nat × Nat) → List Seg
  | [] => []
  | (xs, xe) :: rest =>
    if xe < xs then spanWalk (row + 1) none rest
    else
      let further : Bool := match last with
        | none => false
        | some l => decide (l < xs)
      let row := if further then row else row + 1
      clipSeg row (4 * xs) (4 * xe + 4) ++ spanWalk row (some xe) rest

/-- LINE (R322). -/
def lineSegs (z : ZoneRecord) : List Seg :=
  let x0 : Int := z.word 0
  let y0 : Int := z.word 1
  let x1 : Int := z.word 2
  let y1 : Int := z.word 3
  let hw : Nat := z.word 4 % 16
  let s := z.word 5 % 512 + 1
  (List.range s).flatMap (fun k =>
    let x := if s = 1 then x0 else x0 + roundAway (((x1 - x0) * k : Int) / ((s - 1 : Nat) : Rat))
    let y := if s = 1 then y0 else y0 + roundAway (((y1 - y0) * k : Int) / ((s - 1 : Nat) : Rat))
    if (y1 - y0).natAbs ≤ (x1 - x0).natAbs then
      (List.range (2 * hw + 1)).flatMap (fun j => clipSeg (y - hw + j) x (x + 1))
    else clipSeg y (x - hw) (x + hw + 1))

/-- SPOT. -/
def spotSegs (z : ZoneRecord) : List Seg :=
  let r : Nat := z.word 2 % 64
  (List.range (2 * r + 1)).flatMap (fun j =>
    let dy : Int := (j : Int) - r
    let h : Nat := Nat.sqrt (r * r - dy.natAbs * dy.natAbs)
    clipSeg (z.word 1 + dy) ((z.word 0 : Int) - h) ((z.word 0 : Int) + h + 1))

/-- The visits of a zone (R320 to R322). -/
def zoneSegs (m : Mem) (z : ZoneRecord) : List Seg :=
  match z.geom with
  | 0 => rectSegs z
  | 1 => spanWalk ((z.word 0 : Int) - 1) none (poolRange m z)
  | 2 => lineSegs z
  | _ => spotSegs z

/-- The cost of a zone (R132, R323). -/
def zoneCost (m : Mem) (z : ZoneRecord) : Nat := ((zoneSegs m z).map (fun s => s.x1 - s.x0)).sum + 32

/-! ## Budget and plan (R131, R133, R323, R506) -/

/-- B for a work-clock fraction and a period in TIME clocks: 4 × f_work × 0.9 × P (R131). -/
def budgetOf (work : Nat × Nat) (period : Nat) : Nat := 4 * 4 * 9 * period * work.1 / (10 * work.2)

/-- The sum of the costs of the enabled zones (R331, R506). -/
def costSum (m : Mem) : Nat := ((enabledZones m).map (fun z => zoneCost m (zoneIn m z))).sum

/-- The enabled zones in admission order with their costs (R133). -/
def admissionOrder (m : Mem) : List (Nat × Nat) :=
  let zs := (enabledZones m).map (fun z => (z, zoneIn m z))
  [7, 6, 5, 4, 3, 2, 1, 0].flatMap (fun p => (zs.filter (fun x => x.2.prio == p)).map (fun x => (x.1, zoneCost m x.2)))

/-- Admit zones until the first whose cost exceeds what remains (R133). -/
def takeWhileFits (left : Nat) : List (Nat × Nat) → List Nat
  | [] => []
  | (z, c) :: rest => if left < c then [] else z :: takeWhileFits (left - c) rest

/-- BUDGET_PLAN of the commit window (R133): the plan is taken into the frame at its first row. -/
def Block.budgetPlan (b : Block) : Block :=
  let order := admissionOrder b.mem
  let budget := budgetOf b.thermal.work b.planPeriod
  let zs := takeWhileFits budget order
  let b := { b with clock := { b.clock with budget := budget } }
  let b := b.setZe (fun x => { x with
    planned := zs, plannedShed := (order.drop zs.length).map (·.1), plannedTotal := (order.map (·.2)).sum })
  (b.set R.TB_BUDGET.BUDGET (min 0xFFFF (budget / 1024))).set R.TB_BUDGET.ADMITTED (min 0xFFFF ((((order.take zs.length).map (·.2)).sum + 1023) / 1024))

/-! ## Commits that touch zones (R329, R342) -/

/-- The 13 bytes of a zone record whose change R329 names, and the pool entries of a SPAN zone. -/
def zoneKey (m : Mem) (z : Nat) : Nat × List Byte × Nat × List (Nat × Nat) :=
  let x := zoneIn m z
  (x.geom, Mem.readBytes 0#8 m (zoneAddr z + 4) 12, x.stat, if x.geom = 1 then poolRange m x else [])

/-- The resets of R329 when a commit changes memory `old` to `new`; true marks the TREND history invalid. -/
def zoneResets (old new : Mem) : List (Nat × Bool) :=
  (enabledZones new).filterMap (fun z =>
    if !zoneEn old z then some (z, false) else if zoneKey old z ≠ zoneKey new z then some (z, true) else none)

/-- A commit outside a transaction wrote the geometry of an enabled zone, or pool entries of an enabled SPAN zone (R342):
`touched` are the byte addresses it wrote. -/
def geometryTouched (m : Mem) (touched : List Nat) : Bool :=
  (enabledZones m).any (fun z =>
    let x := zoneIn m z
    touched.any (fun a =>
      (decide (zoneAddr z + 4 ≤ a) && decide (a < zoneAddr z + 16)) ||
      (x.geom == 1 && decide (poolAddr (x.word 1) ≤ a) && decide (a < poolAddr (min 16384 (x.word 1 + max 1 (x.word 2)))))))

/-! ## Statistics (R324 to R326) -/

/-- The corrected values of a row of a frame. -/
def Frame.imageRow (fr : Frame) (y : Nat) : Option (List Nat) := (fr.image.find? (fun p => p.1 == y)).map (·.2)

/-- A visit that gives a value. -/
structure Visit where
  x : Nat
  y : Nat
  v : Nat
deriving DecidableEq, Repr

/-- The visits that give a value (R324). -/
def Frame.visits (fr : Frame) (segs : List Seg) : List Visit :=
  segs.flatMap (fun s => match fr.imageRow s.y with
    | none => []
    | some row => (((List.range (s.x1 - s.x0)).map (fun i => (⟨s.x0 + i, s.y, row.getD (s.x0 + i) 65535⟩ : Visit))).filter
        (fun v => v.v != 65535)))

/-- The row was read in the frame. -/
def Frame.reads (fr : Frame) (y : Nat) : Bool := decide (fr.y0 ≤ y) && decide (y < fr.y0 + fr.w)

/-- The histogram bin of a value (R326). -/
def binOf (z : ZoneRecord) (v : Nat) : Nat := min 63 ((v - z.histLo) / z.binW)

/-- The least bin that holds the `k`-th value, with the count before it and its own count. -/
def findBin (k : Nat) (b before : Nat) : List Nat → Nat × Nat × Nat
  | [] => (b, before, 1)
  | n :: rest => if k ≤ before + n then (b, before, n) else findBin k (b + 1) (before + n) rest

/-- QUANTILE (R326). -/
def quantileOf (z : ZoneRecord) (vs : List Nat) (lo hi : Nat) : Nat :=
  let bins := (List.range 64).map (fun b => (vs.filter (fun v => binOf z v == b)).length)
  let k := max 1 ((z.q * vs.length + 65535) / 65536)
  let (b, before, n) := findBin k 0 0 bins
  max lo (min hi (z.histLo + z.binW * b + roundDiv (z.binW * (k - before)) n))

/-- The statistics of a list of visits; none of no visit (R325). -/
def statsOf (z : ZoneRecord) (l : List Visit) : Option ZoneStat :=
  let vs := l.map (·.v)
  match vs with
  | [] => none
  | v :: rest =>
    let lo := rest.foldl min v
    let hi := rest.foldl max v
    let up := l.filter (fun x => decide (z.hi < x.v))
    some { npix := vs.length, statMin := lo, statMax := hi, mean := meanUp vs, quantile := quantileOf z vs lo hi,
           above := up.length, below := (vs.filter (fun v => decide (v < z.lo))).length,
           cx := if up.isEmpty then 0xFFFF else meanUp (up.map (fun x => 16 * x.x)),
           cy := if up.isEmpty then 0xFFFF else meanUp (up.map (fun x => 16 * x.y)) }

/-- What zone close finds for zone `z` (R324, R325, R343). -/
def Frame.closeZone (fr : Frame) (ecc : List Nat) (trendEcc : List (Nat × Nat)) (z : Nat) : ZoneClosed :=
  let x := zoneIn fr.mem z
  let segs := zoneSegs fr.mem x
  { stat := statsOf x (fr.visits segs), partly := segs.any (fun s => !fr.reads s.y), noRow := segs.all (fun s => !fr.reads s.y),
    ecc := ecc.contains z, trendEcc := (trendEcc.filter (fun p => p.1 == z)).map (·.2) }

/-- Replace the first frame that a test picks. -/
def mapFirst (p : Frame → Bool) (f : Frame → Frame) : List Frame → List Frame
  | [] => []
  | x :: rest => if p x then f x :: rest else x :: mapFirst p f rest

/-- The frame whose zones close next: its last row has ended. -/
def Block.closing (b : Block) : Option Frame := b.img.frames.find? (fun fr => !fr.closed && fr.slots ≤ fr.slot)

/-- ZONE_CLOSE: the statistics of the oldest frame that has been read are final (R127), and M7 verifies (R297). -/
def Block.stepZoneClose (b : Block) (ecc : List Nat) (trendEcc : List (Nat × Nat)) : Block :=
  match b.closing with
  | none => b
  | some fr =>
    let fr' := { fr with closed := true, closedAt := b.now, zones := fr.admitted.map (fun z => (z, fr.closeZone ecc trendEcc z)) }
    let b := { b with img := { b.img with frames := mapFirst (fun x => x.n == fr.n) (fun _ => fr') b.img.frames } }
    b.nightVerify fr'

/-! ## The Safety net's predictions (R303, R744) -/

/-- A statistic by number: 0 MIN, 1 MAX, 2 MEAN, 3 QUANTILE, 4 COUNT_ABOVE, 5 COUNT_BELOW, 6 CX, 7 CY. -/
def ZoneStat.at (x : ZoneStat) (i : Nat) : Nat := match i with
  | 0 => x.statMin
  | 1 => x.statMax
  | 2 => x.mean
  | 3 => x.quantile
  | 4 => x.above
  | 5 => x.below
  | 6 => x.cx
  | _ => x.cy

/-- COUNT_ABOVE and COUNT_BELOW are 32 bits wide in a result. -/
def isCount (i : Nat) : Bool := i == 4 || i == 5

/-- The no-value code of a statistic (R325). -/
def noValue (i : Nat) : Nat := if isCount i then 0xFFFFFFFF else 0xFFFF

/-- The value of a statistic, none at its no-value code. -/
def ZoneStat.value (x : ZoneStat) (i : Nat) : Option Nat := if x.at i = noValue i then none else some (x.at i)

/-- The measured value of a statistic in frame `n`. -/
def ZoneRun.measured (x : ZoneRun) (n i : Nat) : Option Nat := (x.hist.find? (fun h => h.1 == n)).bind (fun h => h.2.value i)

/-- Frame numbers `m − 8` to `m − 1`. -/
def framesBefore (m : Nat) : List Nat := (List.range 8).map (fun i => (m + 2 ^ 32 - 8 + i) % 2 ^ 32)

/-- The TREND extrapolation of 8 values (R303). -/
def trendOf (ys : List Nat) (k i : Nat) : Nat :=
  let mean : Rat := (ys.sum : Rat) / 8
  let s := ((ys.zipIdx).map (fun p => ((p.2 : Rat) - 7 / 2) * ((p.1 : Rat) - mean))).sum / 42
  (clampInt 0 (if isCount i then 1048575 else 65534) (roundUp (mean + s * ((k : Rat) + 9 / 2)))).toNat

/-- The predicted value of a statistic in frame `n` of a Safety net that began at frame `m`; `failed` when its history word
was uncorrectable (R303, R329, R343). -/
def ZoneRun.predict (x : ZoneRun) (z : ZoneRecord) (m n : Nat) (failed : Bool) (i : Nat) : Nat :=
  let ys := (framesBefore m).filterMap (fun f => x.measured f i)
  if z.trend ∧ !failed ∧ ys.length = 8 ∧ 8 ≤ x.good then trendOf ys (min 63 ((n + 2 ^ 32 - m) % 2 ^ 32)) i
  else (x.measured ((m + 2 ^ 32 - 1) % 2 ^ 32) i).getD (noValue i)

/-- The statistics a PREDICTED result carries (R303). -/
def ZoneRun.predicted (x : ZoneRun) (z : ZoneRecord) (m n : Nat) (failed : List Nat) : ZoneStat :=
  let v := fun i => x.predict z m n (failed.contains i) i
  { npix := ((x.hist.find? (fun h => h.1 == (m + 2 ^ 32 - 1) % 2 ^ 32)).map (·.2.npix)).getD 0,
    statMin := v 0, statMax := v 1, mean := v 2, quantile := v 3, above := v 4, below := v 5, cx := v 6, cy := v 7 }

/-! ## Limits (R327) -/

/-- The update of R327 with the limit statistic's value, none when it has none (R304); the answer holds the candidate. -/
def ZoneRun.update (x : ZoneRun) (z : ZoneRecord) (v : Option Nat) : ZoneRun × Option LimitState :=
  if 6 ≤ z.stat then ({ x with s := .normal, deb := 0 }, some .normal)
  else match v with
    | none => (x, none)
    | some v =>
      let c : LimitState :=
        if z.highLim < v ∨ (x.s = .high ∧ z.highLim - z.hyst < v) then .high
        else if v < z.lowLim ∨ (x.s = .low ∧ v < min 0xFFFFFFFF (z.lowLim + z.hyst)) then .low
        else .normal
      let x := if c = x.s then { x with deb := 0 }
        else if c = x.p ∧ 0 < x.deb then { x with deb := x.deb + 1 }
        else { x with p := c, deb := 1 }
      (if z.debounce ≤ x.deb then { x with s := c, deb := 0 } else x, some c)

/-- A limit state as R350 codes it. -/
def LimitState.code : LimitState → Nat
  | .normal => 0
  | .high => 1
  | .low => 2

/-- ON of a binding as a limit state. -/
def onState (on : Nat) : Option LimitState := match on with
  | 1 => some .high
  | 2 => some .low
  | 3 => some .normal
  | _ => none

/-- EV_MASK names the state entered (R349). -/
def maskHas (mask : Nat) (s : LimitState) : Bool := bitOf mask (match s with
  | .high => 0
  | .low => 1
  | .normal => 2)

/-! ## Results (R350) -/

/-- A zone's result record. -/
def ZoneResult.encode (r : ZoneResult) (frame : Nat) : List Byte :=
  let x := r.stat.getD {
    npix := 0, statMin := 0xFFFF, statMax := 0xFFFF, mean := 0xFFFF, quantile := 0xFFFF,
    above := 0xFFFFFFFF, below := 0xFFFFFFFF, cx := 0xFFFF, cy := 0xFFFF }
  leBytes 4 frame ++ leBytes 1 (r.state + 8 * r.limit.code) ++ leBytes 1 r.flags ++ leBytes 1 (r.deb % 16) ++ leBytes 1 0 ++
  leBytes 2 x.statMin ++ leBytes 2 x.statMax ++ leBytes 2 x.mean ++ leBytes 2 x.quantile ++ leBytes 4 x.above ++ leBytes 4 x.below ++
  leBytes 2 x.cx ++ leBytes 2 x.cy ++ leBytes 4 x.npix

/-- The published result of zone `z`: before the first publication STALE, later DISABLED where none was formed (R318, R345). -/
def Block.zoneResult (b : Block) (z : Nat) : ZoneResult :=
  match b.zones.results.find? (fun p => p.1 == z) with
  | some (_, r) => r
  | none => { flags := if b.zones.published then 32 else 0 }

/-- The 32 bytes of zone `z`'s published result. -/
def Block.resultBytes (b : Block) (z : Nat) : List Byte := (b.zoneResult z).encode (b.get R.ZN_PUB_FRAME.FRAME)

/-! ## One zone at publication -/

/-- What keeps a zone from publishing a state: flag bits of the result (R318, R324, R330, R343). -/
def Frame.staleFlags (fr : Frame) (z : Nat) : Nat :=
  if !zoneEn fr.mem z then 32
  else match fr.zones.find? (fun p => p.1 == z) with
    | none => 1
    | some (_, c) =>
      let part := if c.partly then 4 else 0
      if c.ecc then 64
      else if c.noRow ∨ (!fr.flags.safetyNet ∧ c.stat.isNone) then 2 + part
      else 0

/-- Where a zone stands at the publication of a frame. -/
structure ZonePub where
  z : Nat
  cfg : ZoneRecord
  run : ZoneRun                      -- after the frame
  before : LimitState                -- S at the frame's start
  last : Option LimitState := none   -- the candidate of the last counted frame before it
  result : ZoneResult
  candidate : Option LimitState      -- c, when the frame is counted (R336)
  value : Nat := 0                   -- the limit statistic
deriving DecidableEq, Repr

/-- A zone's run as the frame finds it: fresh after a restart of read-out, reset after a commit of R329 (R346). -/
def Frame.runOf (fr : Frame) (runs : List (Nat × ZoneRun)) (z : Nat) : ZoneRun :=
  if fr.first then {}
  else
    let x := ((runs.find? (fun p => p.1 == z)).map (·.2)).getD {}
    match fr.resets.find? (fun p => p.1 == z) with
    | none => x
    | some (_, history) => { x with s := .normal, deb := 0, good := if history then 0 else x.good }

/-- Publish zone `z` of a frame (R303, R304, R327, R328, R336). -/
def Frame.publishZone (fr : Frame) (netFrom : Nat) (runs : List (Nat × ZoneRun)) (z : Nat) : ZonePub :=
  let cfg := zoneIn fr.mem z
  let x := fr.runOf runs z
  let stale := fr.staleFlags z
  if stale ≠ 0 then
    { z := z, cfg := cfg, run := x, before := x.s, candidate := none,
      result := { state := 3, limit := x.s, flags := stale + (if 0 < x.deb then 16 else 0), deb := x.deb } }
  else
    let c := ((fr.zones.find? (fun p => p.1 == z)).map (·.2)).getD {}
    let net := fr.flags.safetyNet
    let st := if net then x.predicted cfg netFrom fr.n c.trendEcc else c.stat.getD {}
    let v := if cfg.stat < 6 then st.value cfg.stat else some 0
    let (y, cand) := x.update cfg v
    let y := if net then y else { y with hist := ((fr.n, st) :: y.hist).take 8, good := min 8 (y.good + 1) }
    let counted := if net ∧ cfg.policy ≠ 0 then none else cand
    { z := z, cfg := cfg, run := { y with cand := counted.or y.cand }, before := x.s, last := x.cand, value := v.getD 0,
      candidate := counted,
      result := {
        state := if net then 4 else y.s.code, limit := y.s, deb := y.deb, stat := some st, frozen := net && cfg.policy == 2,
        flags := (if c.partly then 4 else 0) + (if y.s ≠ x.s then 8 else 0) + (if 0 < y.deb then 16 else 0) } }

/-- The zone entered a state in this frame. -/
def ZonePub.entered (p : ZonePub) : Bool := p.run.s != p.before

/-! ## Events (R331, R333) -/

/-- ZONE_ENTER (R333). -/
def Block.zoneEnter (b : Block) (fr : Frame) (p : ZonePub) : Block :=
  if fr.get R.ZN_CTL.EVENT_EN = 1 ∧ p.entered ∧ maskHas p.cfg.mask p.run.s then
    let ok := b.eventRing p.cfg.ring
    b.emit (if ok then p.cfg.ring else 0) 0x20
      { type := 0x0301, source := p.z, pt := fr.exposurePt (fr.y0 + fr.w / 2), frame := fr.n,
        payload := leBytes 2 p.z ++ leBytes 1 p.run.s.code ++ leBytes 1 p.before.code ++ leBytes 4 p.value ++
          leBytes 1 (bit (!ok) + 2 * bit (p.result.state == 4)) }
  else b

/-- An event of ring 0 about a frame that is published. -/
def Block.frameEvent (b : Block) (fr : Frame) (code : Nat) (payload : List Byte) : Block :=
  b.emit 0 (eventSource code) { b.record code (eventSource code) payload with frame := fr.n }

/-- OVERRUN (R134, R331). -/
def Block.overrun (b : Block) (fr : Frame) : Block :=
  if fr.shed.isEmpty then b
  else ((b.inc R.ZN_OVERRUN_CNT.FRAMES).setFlag R.TB_STATUS.SHED true).frameEvent fr 0x0302
    (leBytes 2 fr.shed.length ++ leBytes 2 (fr.shed.headD 0) ++ leBytes 4 (fr.budget / 1024) ++ leBytes 4 ((fr.total + 1023) / 1024))

/-- ZONE_ECC (R343). -/
def Block.zoneEcc (b : Block) (fr : Frame) : Block :=
  let hit := (fr.zones.filter (fun p => p.2.ecc || !p.2.trendEcc.isEmpty)).map (·.1)
  match hit with
  | [] => b
  | z :: rest => b.frameEvent fr 0x0305 (leBytes 2 hit.length ++ leBytes 2 (rest.foldl min z))

/-- OUT_OF_BRACKET and OUT_OF_BRACKET_END (R260). -/
def Block.outOfBracket (b : Block) (fr : Frame) : Block :=
  let was := b.img.oobPrev
  let b := { b with img := { b.img with oobPrev := fr.flags.oob } }
  if was = fr.flags.oob then b
  else b.frameEvent fr (if fr.flags.oob then 0x020E else 0x020F) (leBytes 1 (fr.get R.CP_STATUS.BRACKET) ++ leBytes 2 (unsigned 16 fr.oobT))

/-! ## Bindings (R334 to R338, R354, R355, R360, R364, R367) -/

/-- The reference row of a zone in a frame (R334). -/
def Frame.refRow (fr : Frame) (p : ZonePub) : Nat :=
  let ys := (zoneSegs fr.mem p.cfg).map (·.y)
  let row := match p.result.stat.bind (fun s => s.value 7) with
    | some cy => roundDiv cy 16
    | none => match ys with
      | [] => 0
      | y :: rest => (rest.foldl min y + rest.foldl max y) / 2
  max fr.y0 (min (fr.y0 + fr.w - 1) row)

/-- WP latched at a window row's exposure instant (R334). -/
def Frame.rowWp (fr : Frame) (y : Nat) : WP := ((fr.wps.find? (fun p => p.1 == y)).map (·.2)).getD 0#40

/-- ARG read as a signed number. -/
def Binding.signedArg (x : Binding) : Int := signed 16 x.arg

/-- The entry that binding `i` of a zone builds from its template, before it is aimed (R354, R355, R367). -/
def Frame.bindingEntry (fr : Frame) (p : ZonePub) (i : Nat) (x : Binding) : ArmedEntry :=
  let bs := Mem.readBytes 0#8 fr.mem (templateAddr x.template) 32
  let e := sharedFields bs
  let mode := leField bs 2 1 % 8
  { e with
    tentative := x.tentative, tag := 0x8000 + 0x400 * i + p.z, k := x.k, on := x.on, zone := p.z, mid := 4,
    binding := true,
    frame := some fr.n, confirms := bit x.tentative, seen := x.tentative,
    channel := if mode = 2 then e.channel + x.arg % 16 else e.channel,
    width := if mode = 3 ∧ !isNote e.type then e.width / 65536 * 65536 + x.arg else e.width }

/-- OFFSET of a binding's template with its ARG, in the units of its base (R354, R355). -/
def Frame.bindingOffset (fr : Frame) (wp : Bool) (x : Binding) : Int :=
  let bs := Mem.readBytes 0#8 fr.mem (templateAddr x.template) 32
  (leField bs 8 4 : Nat) + (if leField bs 2 1 % 8 = 1 then x.signedArg * (if wp then 256 else 100) else 0)

/-- A binding's entry reaches the armed table; the arming frame is its first confirmation (R336, R338, R354, R373, R377). -/
def Block.bindingArm (b : Block) (fr : Frame) (p : ZonePub) (i : Nat) (x : Binding) : Block :=
  if !b.sched.admitting then b
  else
    let e := b.resolveRing (fr.bindingEntry p i x)
    if !rangeOk e.type e.channel then b.reject e 5
    else
      let y := fr.refRow p
      let pt := fr.exposurePt y
      let off := fr.bindingOffset e.baseWp x
      let wpt := fr.rowWp y + BitVec.ofInt 40 off
      let e := if e.baseWp then { e with wpt := wpt }.aimed (b.aim wpt pt (fr.rowWp y) b.sched.vel) pt
        else { e with tf := pt + BitVec.ofInt 48 off }
      let n := b.sched.seq
      let b := b.armBinding e
      match b.entryBySeq n with
      | some (_, e) => if e.tentative ∧ e.k = 1 then b.recordEntry 0x0403 e 0 else b
      | none => b

/-- Whether a binding arms at this publication: a tentative one in the first counted frame of a run of counted frames whose
candidate is its ON state, whatever the binding was while the frames before it were counted (R335 to R337). -/
def ZonePub.acts (p : ZonePub) (net bindEn : Bool) (x : Binding) : Bool :=
  match onState x.on with
  | none => false
  | some s =>
    if x.tentative then p.candidate == some s && p.last != some s && bindEn && p.before != s
    else p.entered && p.run.s == s && bindEn && !(net && p.cfg.policy == 2)

/-- The bindings of a zone act, binding 0 before binding 1 (R338). -/
def Block.bind (fr : Frame) (bindEn : Bool) (b : Block) (p : ZonePub) : Block :=
  if p.result.state = 3 then b
  else
    let net := fr.flags.safetyNet
    let b := if p.acts net bindEn p.cfg.bind0 then b.bindingArm fr p 0 p.cfg.bind0 else b
    if p.acts net bindEn p.cfg.bind1 then b.bindingArm fr p 1 p.cfg.bind1 else b

/-- How many bindings of a zone offer an entry. -/
def ZonePub.bindCount (net bindEn : Bool) (p : ZonePub) : Nat :=
  if p.result.state = 3 then 0 else bit (p.acts net bindEn p.cfg.bind0) + bit (p.acts net bindEn p.cfg.bind1)

/-- `n` binding entries reach the table one per CORE clock from now on (R38, R338). -/
def Block.bindingClocks (b : Block) (n : Nat) : Block := { b with sched := { b.sched with bindEnd := b.now + n / 4 } }

/-- The confirmations and denials that a zone's counted frame gives armed tentative entries before their fire time (R336,
R360, R363, R364). -/
def Block.confirmZone (b : Block) (p : ZonePub) : Block :=
  match p.candidate with
  | none => b
  | some c =>
    let hit := b.sched.table.filter (fun x => x.2.tentative && x.2.zone == p.z && (x.2.binding || x.2.zone != 0x3FF) && !b.due x.2)
    hit.foldl (fun b x =>
      if onState x.2.on = some c then b.confirmEntry x.1
      else if x.2.seen then b.cancelEntry x.2 1
      else b) b

/-! ## Publication (R128, R332) -/

/-- Whether a run or a result must be kept in its list. -/
def ZonePub.atRest (p : ZonePub) : Bool :=
  !p.cfg.en && p.run.s == .normal && p.run.deb == 0 && p.run.hist.isEmpty && p.run.cand.isNone

/-- The publication comes later than tick n + 1 plus 40 µs (R128, R142). -/
def Block.latePub (b : Block) (fr : Frame) : Bool :=
  let n := b.get R.TB_FRAME.FRAME
  if n = fr.n then false else if n = (fr.n + 1) % 2 ^ 32 then decide (b.clock.lastTick + usec 40 < b.now) else true

/-- The registers of the published frame (R142, R252, R331, R348). -/
def Block.publishRegs (b : Block) (fr : Frame) : Block :=
  let b := (b.set R.ZN_PUB_FRAME.FRAME fr.n).setFlag R.ZN_STATUS.SAFETY_NET fr.flags.safetyNet
  let b := (b.setFlag R.ZN_STATUS.SHED_LAST (!fr.shed.isEmpty)).set R.ZN_SHED.COUNT fr.shed.length
  let b := (b.set R.ZN_SHED.FIRST (fr.shed.headD 0)).set R.ZN_COUNT.ENABLED (fr.admitted.length + fr.shed.length)
  let b := (b.set R.CP_FRAMESTAT.REPLACED (min 0xFFFFF fr.replaced)).set R.CP_FRAMESTAT.NOVALUE (min 0xFFF fr.noValue)
  let b := b.setFlag R.TB_STATUS.LATE_PUB (b.latePub fr)
  b.set R.ZN_COUNT.ADMITTED fr.admitted.length

/-- The result lines of VC2 (R688). -/
def Block.resultLines (b : Block) : List (List Byte) :=
  (List.range 16).map (fun j => (List.range 64).flatMap (fun i => b.resultBytes (64 * j + i)))

/-- The zones of a frame as they are published, in zone order. -/
def Block.publishZones (b : Block) (fr : Frame) : List ZonePub :=
  ((List.range 1024).map (fr.publishZone b.zones.netFrom b.zones.zones)).filter (fun p => !p.atRest)

/-- Publish a frame: the buffer switches, events, confirmations and bindings follow, then its VC2 frame. -/
def Block.publish (b : Block) (fr : Frame) : Block :=
  let pubs := b.publishZones fr
  let bindEn := fr.get R.ZN_CTL.BIND_EN == 1
  let b := { b with power := { b.power with firstPub := true } }
  let b := (b.publishRegs fr).setZe (fun x => { x with
    zones := pubs.map (fun p => (p.z, p.run)), results := pubs.map (fun p => (p.z, p.result)), published := true,
    loopsDue := x.loopsDue || (x.loopsWait && fr.first), loopsWait := x.loopsWait && !fr.first })
  let b := ((b.outOfBracket fr).overrun fr).zoneEcc fr
  let b := pubs.foldl (fun b p => b.zoneEnter fr p) b
  let b := pubs.foldl Block.confirmZone b
  let b := b.bindingClocks (pubs.map (ZonePub.bindCount fr.flags.safetyNet bindEn)).sum
  let b := pubs.foldl (Block.bind fr bindEn) b
  let (b, fr) := b.lostFrame fr 2
  b.queueVc2 fr b.resultLines

/-- PUBLICATION: the oldest frame whose zones have closed is published, in frame order; the first one published since
read-out started is the first for the zones (R128, R313, R346, R703). -/
def Block.stepPublication (b : Block) : Block :=
  match b.img.frames with
  | [] => b
  | fr :: rest =>
    if !fr.closed then b
    else
      let fr := { fr with first := fr.first || b.zones.fresh }
      let b := ({ b with img := { b.img with frames := rest } }).setZe (fun x => { x with fresh := fr.first && !fr.published })
      if fr.published then b.publish fr else b

/-! ## Lamp PI loops (R339 to R341, R347) -/

/-- Loop `k`'s record. -/
def loopAddr (k : Nat) : Nat := 0x009240C0 + 256 * k

/-- The value that a loop reads from a result: STAT 4 to 7 act as MEAN; none without a value (R339, R341). -/
def loopInput (r : ZoneResult) (stat : Nat) : Option Nat :=
  if r.state = 3 then none else r.stat.bind (fun s => s.value (if stat < 4 then stat else 2))

/-- What one loop update computes: INTEG and OUT (R340). -/
def loopStep (sp kp ki omin omax : Nat) (integ : Int) (m : Nat) : Int × Nat :=
  let e : Int := (sp : Int) - m
  let u : Rat := (kp * e : Int) / 256 + ((integ + ki * e : Int) : Rat) / 65536
  let i := if (omax < u ∧ 0 < e) ∨ (u < omin ∧ e < 0) then integ else integ + ki * e
  let i := clampInt (65536 * omin) (65536 * omax) i
  (i, (clampInt omin omax (roundUp ((kp * e : Int) / 256 + (i : Rat) / 65536))).toNat)

/-- One loop at tick + 40 µs. -/
def Block.loopOnce (b : Block) (k : Nat) : Block :=
  if !b.loopRuns k then ((b.clearBit R.ZN_LOOP_STATUS.HOLDING k).clearBit R.ZN_LOOP_STATUS.SATURATED k).clearBit R.ZN_LOOP_STATUS.FROZEN k
  else
    let a := loopAddr k
    let zone := b.le a 2 % 1024
    let r := b.zoneResult zone
    if r.frozen then b.setBit R.ZN_LOOP_STATUS.FROZEN k
    else
      let b := b.clearBit R.ZN_LOOP_STATUS.FROZEN k
      let note := leBytes 1 k ++ leBytes 2 zone
      match loopInput r (b.le a 2 / 1024 % 8) with
      | none => if b.bitAt R.ZN_LOOP_STATUS.HOLDING k then b else (b.setBit R.ZN_LOOP_STATUS.HOLDING k).event 0x0303 note
      | some m =>
        let b := if b.bitAt R.ZN_LOOP_STATUS.HOLDING k then (b.clearBit R.ZN_LOOP_STATUS.HOLDING k).event 0x0304 note else b
        let omin := b.le (a + 8) 2 % 4096
        let omax := max omin (b.le (a + 10) 2 % 4096)
        let (i, out) := loopStep (b.le (a + 2) 2) (b.le (a + 4) 2) (b.le (a + 6) 2) omin omax (signed 32 (b.le (a + 12) 4)) m
        let b := (b.store (a + 12) (leBytes 4 (unsigned 32 i))).store (a + 16) (leBytes 2 out)
        let b := if out = omin ∨ out = omax then b.setBit R.ZN_LOOP_STATUS.SATURATED k else b.clearBit R.ZN_LOOP_STATUS.SATURATED k
        b.lampRequest k out

/-- The loops' update of this tick is due: they are on, and it has not been made (R340, R347). -/
def Block.loopsUpdate (b : Block) : Bool := b.zones.loopsOn && b.zones.loopTick && decide (b.clock.lastTick + usec 40 ≤ b.now)

/-- LOOP_UPDATE: each running loop updates, once per tick, 40 µs after it (R340). -/
def Block.stepLoops (b : Block) : Block :=
  if b.loopsUpdate then (List.range 8).foldl Block.loopOnce (b.setZe (fun x => { x with loopTick := false })) else b

/-- The loops stop (Dusk step 3, sleep step S1; R347). -/
def Block.stopLoops (b : Block) : Block := b.setZe (fun x => { x with loopsOn := false, loopsWait := false, loopsDue := false })

/-! ## Meanings -/

/-- ZONE_CLOSE (R127). -/
def execZoneClose (dt : Nat) (ecc : List Nat) (trendEcc : List (Nat × Nat)) (s : State) : Host.Outcome State Fault Refusal :=
  s.run dt (fun b => b.stepZoneClose ecc trendEcc)
/-- LOOP_UPDATE (R340). -/
def execLoopUpdate (dt : Nat) (s : State) : Host.Outcome State Fault Refusal := s.run dt Block.stepLoops

end Sys2Proof.Machine
end

