-- ==== Sys2Proof/Machine/Imaging.lean ====
section
/-! DEFINITION. The reading of a frame, slot by slot: FRAME_START and ROW_SLOT with the thermistor, the column check, the
blind rows, the correction of the window rows and the frame's own events (chapters 06 and 07). -/

namespace Sys2Proof.Machine

/-- Change the imager's state. -/
def Block.setImg (b : Block) (f : Imager → Imager) : Block := { b with img := f b.img }

/-- Replace frame `n` in flight. -/
def Block.setFrame (b : Block) (fr : Frame) : Block :=
  b.setImg (fun x => { x with frames := mapFirst (fun y => y.n == fr.n) (fun _ => fr) x.frames })

/-! ## The start of a frame (R29, R126, R205) -/

/-- The bias pulse of a frame is clipped (R195). -/
def Frame.biasClips (fr : Frame) : Bool :=
  decide (biasBound (fr.get R.FP_ROWCFG.ROW_TIME) < fr.get R.FP_ROWPHASE.BIAS_START + biasWidth (fr.get R.FP_ROWPHASE.BIAS_WIDTH))

/-- ΔT lies outside ±DT_MAX (R231). -/
def Frame.clamped (fr : Frame) : Bool := fr.dtUsed != fr.dt

/-- The frame of the tick that has come, with everything in force for it (R29). -/
def Block.newFrame (b : Block) : Frame :=
  let n := b.get R.TB_FRAME.FRAME
  let w := b.window
  let t := b.brk.measured
  { n := n, regs := b.regs, mem := b.mem, shutBad := b.night.shutBadWork, tickPt := b.clock.tickPt, tickAt := b.clock.lastTick,
    startAt := b.clock.lastTick + usec b.clock.row0, row0 := b.clock.row0, y0 := w.1, w := w.2,
    dt := b.thermal.dT, tfpa := b.img.lastGood, overlay := b.get R.CFG_OVERLAY.ACTIVE,
    period := b.periodInForce, admitted := b.zones.planned, shed := b.zones.plannedShed, total := b.zones.plannedTotal,
    resets := b.zones.resets, oobT := t, budget := b.clock.budget, first := b.img.restart, published := !b.night.dawn,
    flags := { oob := b.outOf b.bracket t, safetyNet := b.zones.net, throttled := b.throttled, biasSettle := b.img.settle != 0 } }

/-- BIAS_CLIP of a frame: the status bit, and the event of the first clipped frame after one that was not (R195). -/
def Block.biasClip (b : Block) (fr : Frame) : Block :=
  let clip := fr.biasClips
  let was := b.img.clipPrev
  let b := (b.setImg (fun x => { x with clipPrev := clip })).setFlag R.FP_STATUS.BIAS_CLIP clip
  if clip ∧ !was then b.frameEvent fr 0x0207
    (leBytes 1 (fr.get R.FP_ROWPHASE.BIAS_START) ++ leBytes 1 (fr.get R.FP_ROWPHASE.BIAS_WIDTH) ++
      leBytes 2 (biasBound (fr.get R.FP_ROWCFG.ROW_TIME)))
  else b

/-- FRAME_START: the first row slot of the tick's frame starts; a frame still being read then is the undefined case of R205. -/
def Block.stepFrameStart (b : Block) : Block :=
  let n := b.get R.TB_FRAME.FRAME
  if !b.img.enabled || !b.clock.ticked || b.power.mode != .run || b.img.lastStart == some n ||
      decide (b.now < b.clock.lastTick + usec b.clock.row0) then b
  else
    let fr := b.newFrame
    if b.img.frames.any (fun x => decide (fr.startAt < x.startAt + x.slots * x.rowClocks)) then b.enterUndef .readoutMinimum
    else if b.img.frames.any (fun x => decide (x.slot < x.slots)) then b
    else
      let fr := { fr with flags := { fr.flags with biasClip := fr.biasClips } }
      let b := b.setImg (fun x => { x with
        frames := x.frames ++ [fr], lastStart := some n, reading := true, cpRun := true, restart := false })
      ((b.setFlag R.FP_STATUS.READING true).setFlag R.CP_STATUS.RUNNING true).biasClip fr

/-! ## Slots 0 to 5 (R203, R210, R211, R225) -/

/-- A thermistor reading: the sum of the 16 codes of the blind columns; the answer is the TFPA held after it (R203, R211). -/
def Block.thermistor (b : Block) (n : Nat) (sum : Nat) : Block × Int :=
  let b := b.set R.FP_TFPA.RAW (min 16383 (roundDiv sum 16))
  let rec_ := fun (b : Block) (code : Nat) (payload : List Byte) =>
    b.emit 0 (eventSource code) { b.record code (eventSource code) payload with frame := n }
  if sum < 16 * 256 ∨ 16 * 16127 < sum then
    let was := b.img.tfpaFault
    let b := (b.setImg (fun x => { x with tfpaFault := true })).setFlag R.FP_STATUS.TFPA_FAULT true
    (if was then b else rec_ b 0x0202 (leBytes 2 (roundDiv sum 16)), b.img.lastGood)
  else
    let t := clampInt (-32768) 32767 (Config.tfpaOf sum)
    let was := b.img.tfpaFault
    let b := (b.setImg (fun x => { x with tfpaFault := false, lastGood := t })).set R.FP_TFPA.TFPA (unsigned 16 t)
    let b := b.setBrk (fun x => { x with measured := t })
    (if was then rec_ b 0x0203 (leBytes 2 (unsigned 16 t)) else b, t)

/-- Slot 1: the column check (R210). -/
def Block.columnCheck (b : Block) (fr : Frame) (codes : List Nat) : Block :=
  let bad := (List.range 1040).filter (fun c => let v := codes.getD c 0; decide (v < 8128) || decide (8256 < v))
  let b := b.setFrame { fr with faulty := bad }
  let b := (b.set R.FP_COLFAULT.COUNT bad.length).set R.FP_COLFAULT.FIRST (bad.headD 0)
  if bad.isEmpty then b
  else (b.setFlag R.FP_STATUS.COL_FAULT true).frameEvent fr 0x0201 (leBytes 2 bad.length ++ leBytes 2 (bad.headD 0))

/-- The blind-row means of the 1,024 active columns. -/
def Frame.blindMeans (fr : Frame) : List (Option Rat) := (List.range 1024).map (fun i => fr.blindRowMean (i + 8))

/-- A blind row; after the fourth the column terms advance (R225, R250, R298). -/
def Block.blindRow (b : Block) (fr : Frame) (codes : List Nat) : Block :=
  let fr := { fr with blind := fr.blind ++ [codes] }
  if fr.blind.length < 4 then b.setFrame fr
  else
    let dC := fr.colTerms (fr.first || b.img.restartDC) b.img.dC
    (b.setFrame { fr with accCols := fr.blindMeans }).setImg (fun x => { x with dC := dC, restartDC := false })

/-! ## ECC and bias, in every slot (R212, R244 to R246) -/

/-- The ECC failures of a slot: counted, and kept for the frame (R244 to R246). -/
def Block.slotEcc (b : Block) (fr : Frame) (inp : RowInput) : Block × Frame :=
  let served := inp.histUncorr.map (fun g => recordAddr (g.foldl min (g.headD 0)))
  let n := inp.uncorr.length + served.length
  let b := (b.add R.CP_ECC.CORR inp.corr).add R.CP_ECC.UNCORR n
  let b := if n = 0 then b else b.setFlag R.CP_STATUS.ECC_UNCORR true
  let low := (inp.uncorr ++ served).foldl min (fr.eccLow.getD 0xFFFFFFFF)
  (b, { fr with eccBad := fr.eccBad ++ inp.uncorr, eccCount := fr.eccCount + n,
                eccLow := if n = 0 then fr.eccLow else some low })

/-- The bias amplitude measured in a slot against the one of R199: the level's in a pulse, 0 V in a slot without one (R199,
R212). -/
def Block.slotBias (b : Block) (fr : Frame) (mv : Nat) : Block × Frame :=
  let want := if fr.pulsed fr.slot then bias255 (fr.get R.FP_BIAS.LEVEL) else 0
  let fr := if fr.pulsed fr.slot then { fr with biasMv := mv } else fr
  if want + 12750000 < 255000 * mv ∨ 255000 * mv + 12750000 < want then
    let was := b.img.biasFault
    let b := (b.setImg (fun x => { x with biasFault := true })).setFlag R.FP_STATUS.BIAS_FAULT true
    (if was then b else b.frameEvent fr 0x0204 (leBytes 2 mv), { fr with flags := { fr.flags with biasFault := true } })
  else (b, fr)

/-! ## Window rows (R220 to R241) -/

/-- DRIFT_CLAMP and DRIFT_CLAMP_END of a frame (R231), and DT_USED. -/
def Block.driftClamp (b : Block) (fr : Frame) : Block × Frame :=
  let now := fr.clamped
  let was := b.img.driftPrev
  let b := (b.setImg (fun x => { x with driftPrev := now })).setFlag R.CP_STATUS.DRIFT_CLAMP now
  let b := b.set R.CP_DRIFT.DT_USED (unsigned 16 fr.dtUsed)
  let b := if now ∧ !was then b.frameEvent fr 0x020A (leBytes 2 (unsigned 16 fr.dt))
    else if was ∧ !now then b.frameEvent fr 0x020B (leBytes 2 (unsigned 16 fr.dt)) else b
  (b, { fr with flags := { fr.flags with driftClamp := now } })

/-- The cycle accumulates, or may accumulate, the frames being read (R294). -/
def Block.nightGathers (b : Block) : Bool := b.night.running && decide (2 ≤ b.night.step) && decide (b.night.step ≤ 4)

/-- Correct window row `y` of a frame through stages 1 to 5, and write its history (R220 to R235). -/
def Block.correctRow (b : Block) (fr : Frame) (y : Nat) (codes : List Nat) (histUncorr : List (List Nat)) : Block × Frame :=
  let r := fr.readRow y
  let (dR, short) := fr.rowTerm r codes
  let t : RowTerms := { dR := dR, dC := b.img.dC, dCmean := colMean b.img.dC, dt := fr.dtUsed }
  let px := (List.range 1024).map (fr.staged t r codes (historyOf b.img.hist fr.n fr.first histUncorr r))
  let kept := (List.range 1024).map (fun i =>
    let x := if fr.get R.FP_CTL.SHLX = 1 then 1023 - i else i
    match px[x]? with
    | some s => if s.bad then none else some s.x4
    | none => none)
  let row : RowResult := { y := y, vals := px.map (·.y), bad := px.map (·.bad) }
  let fr := { fr with
    lastRowTerm := dR, short := if short then fr.short ++ [r] else fr.short, rows := fr.rows ++ [row],
    acc := if b.nightGathers then fr.acc ++ [fr.accRow r codes] else fr.acc }
  (b.setImg (fun x => { x with hist := putHistory x.hist r fr.n kept }), fr)

/-- Row `y` is complete: its corrected values join the image and its line, number y + 1, is queued (R236 to R241, R685, R690). -/
def Block.completeRow (b : Block) (fr : Frame) (y : Nat) : Block × Frame :=
  let fr := fr.finishRow y
  match fr.imageRow y with
  | none => (b, fr)
  | some vals => b.queueLine fr 0 (y + 1) (vc0Line vals)

/-- The read row of a slot that reads the array (R187, R190). -/
def Frame.lineRow (fr : Frame) : Nat := if fr.slot < 6 then fr.slot - 2 else fr.readRow (fr.y0 + (fr.slot - 6))

/-- The VC1 line of a slot whose codes were latched: its number is the read row + 1 (R685, R687, R690). -/
def Block.rawLine (b : Block) (fr : Frame) (codes : List Nat) : Block × Frame :=
  b.queueLine fr 1 (fr.lineRow + 1) (vc1Line fr.faulty codes)

/-- A window slot: row `slot − 6` is corrected, and the row before it completes. -/
def Block.windowSlot (b : Block) (fr : Frame) (inp : RowInput) : Block :=
  let k := fr.slot - 6
  let (b, fr) := if k = 0 then b.driftClamp fr else (b, fr)
  let (b, fr) := b.correctRow fr (fr.y0 + k) inp.codes inp.histUncorr
  let (b, fr) := if k = 0 then (b, fr) else b.completeRow fr (fr.y0 + k - 1)
  let (b, fr) := b.rawLine fr inp.codes
  b.setFrame fr

/-- The first trailing slot: the last row completes, and the image channels end (R690). -/
def Block.imageEnd (b : Block) (fr : Frame) : Block :=
  let (b, fr) := b.completeRow fr (fr.y0 + fr.w - 1)
  let b := b.setFlag R.CP_STATUS.OUT_OF_BRACKET fr.flags.oob
  ((b.queueEnd fr 1).queueEnd fr 0).setFrame fr

/-! ## The end of a frame -/

/-- ECC_UNCORR of a frame (R245). -/
def Block.eccEvent (b : Block) (fr : Frame) : Block :=
  match fr.eccLow with
  | some low => b.frameEvent fr 0x0208 (leBytes 2 (min 0xFFFF fr.eccCount) ++ leBytes 4 low)
  | none => b

/-- BLIND_SHORT of a frame (R247). -/
def Block.blindShort (b : Block) (fr : Frame) : Block :=
  match fr.short with
  | [] => b
  | r :: _ => (b.setFlag R.CP_STATUS.BLIND_SHORT true).frameEvent fr 0x0209 (leBytes 2 fr.short.length ++ leBytes 2 r)

/-- BIAS_RESTORED at the end of the first good frame after a bias fault; its payload is the amplitude of the frame's last slot that
gave a pulse, 0 where none did (R212, the model's choice in log entry 173). -/
def Block.biasRestored (b : Block) (fr : Frame) : Block :=
  if b.img.biasFault ∧ !fr.flags.biasFault then
    (b.setImg (fun x => { x with biasFault := false })).frameEvent fr 0x0205 (leBytes 2 fr.biasMv)
  else b

/-- The last row of a frame has ended: its own events, and the Midnight cycle counts it. -/
def Block.frameEnd (b : Block) (fr : Frame) : Block :=
  (((b.biasRestored fr).eccEvent fr).blindShort fr).nightFrame fr

/-- The frame being read: its last row has not ended. -/
def Block.readingFrame (b : Block) : Option Frame := b.img.frames.find? (fun fr => decide (fr.slot < fr.slots))

/-- What slot `fr.slot` reads (R190). -/
def Block.slotWork (b : Block) (fr : Frame) (inp : RowInput) : Block :=
  if fr.slot = 0 then
    let (b, t) := b.thermistor fr.n ((blindCols.map (fun c => inp.codes.getD c 0)).sum)
    b.setFrame { fr with tfpa := t }
  else if fr.slot = 1 then b.columnCheck fr inp.codes
  else if fr.slot < 6 then
    let (b, fr) := b.rawLine fr inp.codes
    b.blindRow fr inp.codes
  else if fr.slot < fr.w + 6 then b.windowSlot fr inp
  else if fr.slot = fr.w + 6 then b.imageEnd fr
  else b.setFrame fr

/-- A slot begins: with slot 2 the frame start of VC1 is queued, with slot 6 that of VC0, unless output is lost (R690, R696). -/
def Block.slotOpens (b : Block) (fr : Frame) : Block :=
  if fr.slot = 2 ∨ fr.slot = 6 then
    let vc := if fr.slot = 2 then 1 else 0
    let r := b.lostFrame fr vc
    (r.1.queueStart r.2 vc).setFrame r.2
  else b.setFrame fr

/-- The thermistor row that IDLE reads alone is due: one slot after tick + ROW0_DELAY, once per tick (R216). -/
def Block.idleRowDue (b : Block) : Bool :=
  b.power.mode == .idle && b.clock.ticked && b.img.lastStart != some (b.get R.TB_FRAME.FRAME) &&
  decide (b.clock.lastTick + usec b.clock.row0 + 2 * rowTime (b.get R.FP_ROWCFG.ROW_TIME) ≤ b.now)

/-- IDLE reads the thermistor row of a tick (R203, R216). -/
def Block.idleRow (b : Block) (inp : RowInput) : Block :=
  let n := b.get R.TB_FRAME.FRAME
  (b.thermistor n ((blindCols.map (fun c => inp.codes.getD c 0)).sum)).1.setImg (fun x => { x with lastStart := some n })

/-- ROW_SLOT: the next row slot of the frame being read, or the row that IDLE reads, ends (R190, R194, R216). -/
def Block.stepRowSlot (b : Block) (inp : RowInput) : Block :=
  let b := b.latchWps
  match b.readingFrame with
  | none => if b.idleRowDue then b.idleRow inp else b
  | some fr =>
    if b.now < fr.startAt + (fr.slot + 1) * fr.rowClocks then b
    else
      let (b, fr) := b.slotEcc fr inp
      let (b, fr) := b.slotBias fr inp.bias
      let b := b.slotWork fr inp
      match b.readingFrame with
      | none => b
      | some fr =>
        let fr := { fr with slot := fr.slot + 1 }
        let b := b.slotOpens fr
        if fr.slot = fr.slots then b.frameEnd fr else b

/-! ## The stop of read-out (R208, R698) -/

/-- A frame whose last row has not ended is abandoned: its image channels close with ABANDONED set, what its rows showed of ECC
and of short rows is reported, and it is not published (R208, R245, R247). -/
def Block.abandon (b : Block) (fr : Frame) : Block :=
  let fr := { fr with flags := { fr.flags with abandoned := true } }
  let b := (b.eccEvent fr).blindShort fr
  let b := if 2 ≤ fr.slot ∧ fr.slot ≤ fr.w + 6 then b.queueEnd fr 1 else b
  let b := if 6 ≤ fr.slot ∧ fr.slot ≤ fr.w + 6 then b.queueEnd fr 0 else b
  b.setImg (fun x => { x with frames := x.frames.filter (fun y => y.n != fr.n) })

/-- The signals of the array now, of the slot that the frame being read has reached (R194). -/
def Block.slotSignals (b : Block) : Option SlotSignals :=
  b.readingFrame.map (fun fr => fr.signals fr.slot (b.now - (fr.startAt + fr.slot * fr.rowClocks)))

/-- Read-out stops (Dusk step 6, sleep step S2). -/
def Block.stopReadout (b : Block) : Block :=
  let b := b.setImg (fun x => { x with enabled := false, reading := false, restart := true })
  let b := b.setFlag R.FP_STATUS.READING false
  match b.readingFrame with
  | some fr => b.abandon fr
  | none => b

/-- Read-out may start from the next tick's frame on (D5, a wake, leaving IDLE). -/
def Block.startReadout (b : Block) : Block :=
  let b := (b.setImg (fun x => { x with enabled := true, restart := true })).setOut (fun x => { x with started := false })
  b.setZe (fun x => { x with loopsWait := true })

/-- The CP block stops once read-out has stopped and the last frame is published (R249). -/
def Block.cpStop (b : Block) : Block :=
  if !b.img.enabled && b.img.frames.isEmpty && b.img.cpRun then
    (b.setImg (fun x => { x with cpRun := false })).setFlag R.CP_STATUS.RUNNING false
  else b

/-! ## Meanings -/

/-- FRAME_START (R126). -/
def execFrameStart (dt : Nat) (s : State) : Host.Outcome State Fault Refusal := s.run dt Block.stepFrameStart
/-- ROW_SLOT (R194). -/
def execRowSlot (dt : Nat) (inp : RowInput) (s : State) : Host.Outcome State Fault Refusal := s.run dt (fun b => b.stepRowSlot inp)
/-- PUBLICATION (R128). -/
def execPublication (dt : Nat) (s : State) : Host.Outcome State Fault Refusal := s.run dt (fun b => b.stepPublication.cpStop)

end Sys2Proof.Machine
end

