-- ==== Sys2Proof/Machine/MemPort.lean ====
section
/-! DEFINITION. The memory port: the wire, the write path, line fills, read-ahead, commands and software transfers
(chapters 14 and 18). -/

namespace Sys2Proof.Machine

/-- Change the memory port's state. -/
def Block.setMp (b : Block) (f : MemPort → MemPort) : Block := { b with mp := f b.mp }

/-! ## Selects, addresses and the length of transfers (R590 to R592, R596 to R598) -/

/-- ADDR4 of a select. -/
def Block.addr4 (b : Block) (sel : Nat) : Bool := if sel = 0 then b.flag R.MP_SEL0.ADDR4 else b.flag R.MP_SEL1.ADDR4

/-- The select that a select-1 window access, a page program or an erase reaches (R598, R604). -/
def Block.writeSel (b : Block) : Nat := if b.flag R.MP_CTL.S0_WRITE then 0 else 1

/-- A flash address as sent: address bits 25 and 24 are not sent with 3-byte addressing (R598). -/
def Block.sent (b : Block) (sel addr : Nat) : Nat := if b.addr4 sel then addr else addr % 2 ^ 24

/-- Select and flash address of an address in a memory-port window, the select in bit 32 (R598). -/
def Block.flashAddr (b : Block) (a : Nat) : Nat :=
  if a < 0x14000000 then b.sent 0 (a - 0x10000000)
  else b.writeSel * 2 ^ 32 + b.sent b.writeSel (a - 0x14000000)

/-- The select of a flash address. -/
def selOf (a : Nat) : Nat := a / 2 ^ 32

/-- The flash address without its select. -/
def flashOf (a : Nat) : Nat := a % 2 ^ 32

/-- The address lies in a memory-port window. -/
def inFlash (a : Nat) : Bool := decide (0x10000000 ≤ a) && decide (a < 0x18000000)

/-- MP clocks that a select adds to each transfer: tPRE, tPOST and tGAP, of which 0 acts as 1 (R592). -/
def Block.gaps (b : Block) (sel : Nat) : Nat :=
  if sel = 0 then max 1 (b.get R.MP_SEL0.TPRE) + max 1 (b.get R.MP_SEL0.TPOST) + max 1 (b.get R.MP_SEL0.TGAP)
  else max 1 (b.get R.MP_SEL1.TPRE) + max 1 (b.get R.MP_SEL1.TPOST) + max 1 (b.get R.MP_SEL1.TGAP)

/-- DIV as it acts on a transfer: below 4 it acts as 4, and an SFDP read runs at 8 or more (R590, R595, R612). -/
def Block.divisor (b : Block) (t : Transfer) : Nat :=
  let div := max 4 (b.get R.MP_CTL.DIV)
  match t with
  | .command op _ _ => if op = 0x5A then max 8 div else div
  | _ => div

/-- CORE clocks of each MP_SCK period, and for how many of them SCK is high (R590). -/
def Block.sckShape (b : Block) (t : Transfer) : Nat × Nat := (b.divisor t, b.divisor t / 2)

/-- The address bits beyond 24. -/
def Block.moreBits (b : Block) (sel : Nat) : Nat := if b.addr4 sel then 8 else 0

/-- The select of a write. -/
def WriteOp.sel : WriteOp → Nat
  | .program a _ => selOf a
  | .erase s _ _ => s

/-- The flash range of a write: address and length. -/
def WriteOp.range : WriteOp → Nat × Nat
  | .program a bs => (flashOf a, bs.length)
  | .erase _ a n => (a - a % n, n)

/-- The MP clocks that a transfer occupies the wire (R591). -/
def Block.transferClocks (b : Block) (t : Transfer) : Nat :=
  match t with
  | .fill f =>
    let sel := selOf f.addr
    let slow := if sel = 0 then b.flag R.MP_SEL0.READ_CMD else b.flag R.MP_SEL1.READ_CMD
    (if slow then 2080 else 2088) + b.moreBits sel + b.gaps sel
  | .enable w => 8 + b.gaps w.sel
  | .write w =>
    let bits := match w with
      | .program _ bs => 32 + 8 * bs.length
      | .erase _ _ _ => 32
    bits + b.moreBits w.sel + b.gaps w.sel
  | .poll sel => 16 + b.gaps sel
  | .command op sel _ => (if op = 0x05 then 16 else if op = 0x9F then 32 else if op = 0x5A then 72 else 8) + b.gaps sel
  | .software len _ => len

/-- TIME clocks that a transfer occupies the wire, rounded up (R590, R591). -/
def Block.transferTime (b : Block) (t : Transfer) : Nat := (b.transferClocks t * b.divisor t + 3) / 4

/-- The address bytes of a command on a select, the highest first (R591, R597). -/
def Block.addressBytes (b : Block) (sel addr : Nat) : List Byte := (leBytes (if b.addr4 sel then 4 else 3) addr).reverse

/-- The bytes that MP_SDO sends in a transfer, each most significant bit first: the opcode, the address, and the data of a write;
dummy clocks and the clocks of read data follow (R591, R594, R597). -/
def Block.sentBytes (b : Block) (t : Transfer) : List Byte :=
  match t with
  | .fill f =>
    let sel := selOf f.addr
    let slow := if sel = 0 then b.flag R.MP_SEL0.READ_CMD else b.flag R.MP_SEL1.READ_CMD
    (if slow then 0x03#8 else 0x0B#8) :: b.addressBytes sel (flashOf f.addr)
  | .enable _ => [0x06#8]
  | .write (.program a bs) => 0x02#8 :: b.addressBytes (selOf a) (flashOf a) ++ bs
  | .write (.erase sel a n) => (if n = 4096 then 0x20#8 else 0xD8#8) :: b.addressBytes sel a
  | .poll _ => [0x05#8]
  | .command op _ a => BitVec.ofNat 8 op :: (if op = 0x5A then (leBytes 3 a).reverse else [])
  | .software len tx => (leBytes 4 tx).reverse.take (len / 8)

/-- Put a transfer on the wire. -/
def Block.drive (b : Block) (t : Transfer) : Block :=
  b.setMp (fun x => { x with wire := some t, wireEnd := b.now + b.transferTime t, sent := b.sentBytes t })

/-- The port runs: from D2 until Dusk step 7, and not in NAP (R111, R610). -/
def Block.portRuns (b : Block) : Bool :=
  b.power.d2 && !(b.phase == 7 && b.get R.PW_STATUS.DUSK_STEP == 7) && (b.power.mode == .run || b.power.mode == .idle) && b.power.valid.contains .vddioB

/-- Every request on the select ends at once: STUCK is set, or VDDIO_B is not valid (R607). -/
def Block.refuses (b : Block) (sel : Nat) : Bool :=
  b.bitAt R.MP_STATUS.STUCK sel || !b.power.valid.contains .vddioB

/-- A software select is low, so that no transfer starts on select 0 or 1 (R593). -/
def Block.softLow (b : Block) : Bool := !b.mp.s2 || !b.mp.s3

/-- The wire is free: the levels of the software selects take effect (R593). -/
def Block.wireFree (b : Block) : Block :=
  b.setMp (fun x => { x with wire := none, s2 := b.flag R.MP_SW.S2, s3 := b.flag R.MP_SW.S3 })

/-- POLL as it acts, in TIME clocks (R612). -/
def Block.pollTime (b : Block) : Nat := usec (max 1 (b.get R.MP_TMO.POLL))

/-- A write enable whose transfer has ended lets its write follow; a write whose transfer has ended is in its device, and its polls
begin (R602). -/
def Block.settleWire (b : Block) : Block :=
  match b.mp.wire with
  | some (.enable _) => if b.mp.wireEnd ≤ b.now then b.wireFree.setMp (fun x => { x with enabled := true }) else b
  | some (.write w) =>
    if b.mp.wireEnd ≤ b.now then
      let e := b.mp.wireEnd
      b.wireFree.setMp (fun x => { x with writing := some { op := w, startedAt := e, nextPoll := e + b.pollTime } })
    else b
  | _ => b

/-! ## Read-ahead (R478 to R480) -/

/-- Who a port is as a requester. -/
def fillFor : Port → FillFor
  | .a => .portA
  | .b => .portB

/-- Change a port's read-ahead buffer. -/
def Block.setRa (b : Block) (p : Port) (f : ReadAhead → ReadAhead) : Block := b.setPort p (fun x => { x with ra := f x.ra })

/-- A port wants a line: nothing when it is held or being filled, else the line replaces any line not yet filled (R478). -/
def Block.wantLine (b : Block) (p : Port) (line : Nat) : Block :=
  let ra := (b.port p).ra
  let addr := b.flashAddr (256 * line)
  let who := fillFor p
  if (ra.ready ∧ ra.line = line) ∨ (ra.filling ∧ ra.want = some line) then b
  else
    let b := b.setRa p (fun x => { x with ready := false, filling := true, want := some line, timedOut := none })
    match b.mp.wire with
    | some (.fill f) =>
      if f.who = who then
        b.setMp (fun x => { x with wire := some (.fill { f with dead := f.addr != addr }), fills := x.fills.filter (fun g => g.who != who) })
      else (b.dropFills who).askFill who addr
    | _ => (b.dropFills who).askFill who addr

/-- WIN_ADDR came to address `a` from another line, or was written (R478). -/
def Block.readAhead (b : Block) (p : Port) (a : Nat) : Block := if inFlash a then b.wantLine p (a / 256) else b

/-- A port's fill ends with its data (R478). -/
def Block.portFill (b : Block) (p : Port) (f : Fill) (data : List Byte) : Block :=
  match (b.port p).ra.want with
  | none => b
  | some line =>
    if f.dead then b.askFill (fillFor p) (b.flashAddr (256 * line))
    else b.setRa p (fun x => { x with line := line, data := data, ready := true, filling := false, want := none })

/-- A port's fill ended with MP_TIMEOUT (R479, R608). -/
def Block.portTimeout (b : Block) (p : Port) : Block :=
  b.setRa p (fun x => { x with filling := false, want := none, timedOut := x.want })

/-- A range of flash on a select overlaps the line a port holds (R480, R603). -/
def Block.overlaps (b : Block) (p : Port) (w : WriteOp) : Bool :=
  let ra := (b.port p).ra
  let a := b.flashAddr (256 * ra.line)
  let lo := b.sent w.sel w.range.1
  ra.ready && selOf a == w.sel && decide (flashOf a < lo + w.range.2) && decide (lo < flashOf a + 256)

/-- READAHEAD_INVALIDATE: a completed write over a buffered line clears RA_READY, and the line is filled again (R480, R603). -/
def Block.refill (w : WriteOp) (b : Block) (p : Port) : Block :=
  if b.overlaps p w then
    let line := (b.port p).ra.line
    (b.setRa p (fun x => { x with ready := false })).wantLine p line
  else b

/-! ## The write path (R601 to R603) -/

/-- The write path holds an operation (R602). -/
def Block.writeBusy (b : Block) : Bool :=
  b.mp.queued.isSome || b.mp.writing.isSome || b.mp.waiting.isSome ||
  (match b.mp.wire with
   | some (.write _) => true
   | _ => false)

/-- A request enters the write path when it has a place (R602). -/
def Block.enterWrite (b : Block) (w : WriteOp) : Option Block :=
  if !b.writeBusy then some (b.setMp (fun x => { x with queued := some w }))
  else if b.mp.waiting.isNone then some (b.setMp (fun x => { x with waiting := some w, waitAt := b.now }))
  else none

/-- A request is refused: WR_REFUSED for a page program, CMD_ERR for an erase (R602). -/
def Block.refuseWrite (b : Block) (w : WriteOp) : Block := match w with
  | .program _ _ => b.setFlag R.MP_STATUS.WR_REFUSED true
  | .erase _ _ _ => b.setFlag R.MP_STATUS.CMD_ERR true

/-- The operation in progress has ended, and the waiting one takes its place. -/
def Block.nextWrite (b : Block) : Block :=
  b.setMp (fun x => { x with writing := none, queued := x.waiting, waiting := none, enabled := false })

/-- The operation in progress has ended with a timeout, and the waiting one is refused (R606). -/
def Block.dropWrites (b : Block) : Block :=
  let w := b.mp.waiting
  let b := b.setMp (fun x => { x with writing := none, queued := none, waiting := none, enabled := false })
  match w with
  | some w => b.refuseWrite w
  | none => b

/-- The bytes of a page program: from the lowest to the highest byte written, 0xFF where nothing wrote (R601). -/
def pageBytes (items : List (Nat × Word)) : Nat × List Byte :=
  let lo := items.foldl (fun m i => min m i.1) (2 ^ 32)
  let hi := items.foldl (fun m i => max m (i.1 + 4)) 0
  let start := List.replicate (hi - lo) (0xFF#8 : Byte)
  (lo, items.foldl (fun bs i => bs.take (i.1 - lo) ++ leBytes 4 i.2.toNat ++ bs.drop (i.1 - lo + 4)) start)

/-- The select-1 window items of a frame form one page program request: those in the page of the first (R601, R602).
The answer is the result of the items in the page. -/
def Block.pageRequest (b : Block) (items : List (Nat × Word)) : HostResult × Block :=
  match items with
  | [] => (.ok, b)
  | (a, _) :: _ =>
    let page := (items.filter (fun i => i.1 / 256 == a / 256)).map (fun i => (b.sent b.writeSel (i.1 - 0x14000000), i.2))
    let (lo, bs) := pageBytes page
    let w := WriteOp.program (b.writeSel * 2 ^ 32 + lo) bs
    if b.refuses b.writeSel then (.mpTimeout, b)
    else match b.enterWrite w with
      | some b => (.ok, b)
      | none => (.windowFault, b.refuseWrite w)

/-! ## Commands and software transfers (R594, R605) -/

/-- An erase is in the write path. -/
def Block.eraseQueued (b : Block) : Bool :=
  let isErase : Option WriteOp → Bool := fun w => match w with
    | some (.erase _ _ _) => true
    | _ => false
  isErase b.mp.queued || isErase b.mp.waiting || isErase (b.mp.writing.map (·.op)) ||
  (match b.mp.wire with
   | some (.write w) => isErase (some w)
   | _ => false)

/-- CMD_BUSY: a command is queued or running (R605, log entry 28). -/
def Block.cmdBusy (b : Block) : Bool :=
  b.mp.command.isSome || b.eraseQueued ||
  (match b.mp.wire with
   | some (.command _ _ _) => true
   | _ => false)

/-- MP_SW.BUSY: a software transfer is queued or shifting (R594). -/
def Block.swBusy (b : Block) : Bool :=
  b.mp.software.isSome ||
  (match b.mp.wire with
   | some (.software _ _) => true
   | _ => false)

/-- A write of MP_CMD (R605). -/
def Block.mpCommand (b : Block) (mid op sel : Nat) : HostResult × Block :=
  let addr := b.get R.MP_CMD_ADDR.ADDR
  if b.cmdBusy then (.locked, b)
  else if op = 0x20 ∨ op = 0xD8 then
    if sel = 0 ∧ !b.flag R.MP_CTL.S0_WRITE then (.ok, b.setFlag R.MP_STATUS.CMD_ERR true)
    else if b.refuses b.writeSel then (.mpTimeout, b)
    else
      let w := WriteOp.erase b.writeSel addr (if op = 0x20 then 4096 else 65536)
      match b.enterWrite w with
      | some b => (.ok, b)
      | none => (.windowFault, b.refuseWrite w)
  else if op = 0x05 ∨ op = 0x9F ∨ op = 0x5A ∨ op = 0x06 then
    if b.refuses sel then (.mpTimeout, b)
    else (.ok, b.setMp (fun x => { x with command := some (op, sel, addr), commandAt := b.now, commandMid := mid }))
  else (.ok, b.setFlag R.MP_STATUS.CMD_ERR true)

/-- A write of MP_SW_TX (R594). -/
def Block.softTransfer (b : Block) (tx : Nat) : Block :=
  if b.swBusy then b
  else b.setMp (fun x => { x with software := some (8 * (b.get R.MP_SW.LEN + 1), tx), softwareAt := b.now })

/-- A write of MP_SW: a select driven low waits for the transfer on the wire; one released rises at once (R593). -/
def Block.softSelects (b : Block) (s2 s3 : Bool) : Block :=
  let b := (b.setFlag R.MP_SW.S2 s2).setFlag R.MP_SW.S3 s3
  if b.mp.wire.isNone then b.setMp (fun x => { x with s2 := s2, s3 := s3 })
  else b.setMp (fun x => { x with s2 := x.s2 || s2, s3 := x.s3 || s3 })

/-! ## The next transfer (R600, R603) -/

/-- The device of a select has a write in progress. -/
def Block.deviceBusy (b : Block) (sel : Nat) : Bool :=
  (match b.mp.queued with
   | some w => w.sel == sel
   | none => false) ||
  (match b.mp.writing with
   | some w => w.op.sel == sel
   | none => false)

/-- A read of a select asked for at a time waits for a write on that device (R603). -/
def Block.readWaits (b : Block) (sel at_ : Nat) : Bool :=
  b.deviceBusy sel ||
  (match b.mp.waiting with
   | some w => w.sel == sel && decide (b.mp.waitAt < at_)
   | none => false)

/-- The write path's next step, when one is due (R600, class 1; R607). -/
def Block.writeStep (b : Block) : Option Transfer :=
  if b.softLow then none
  else match b.mp.writing with
    | some w => if w.nextPoll ≤ b.now then some (.poll w.op.sel) else none
    | none =>
      match b.mp.queued with
      | some w => if b.mp.pollOnce.contains w.sel then some (.poll w.sel) else some (if b.mp.enabled then .write w else .enable w)
      | none => b.mp.pollOnce.head?.map Transfer.poll

/-- Fills of some requesters that may start, oldest first. -/
def Block.readyFills (b : Block) (p : FillFor → Bool) : List Fill :=
  b.mp.fills.filter (fun f => p f.who && !b.softLow && !b.readWaits (selOf f.addr) f.askedAt && !b.mp.pollOnce.contains (selOf f.addr))

/-- A queued command may start: status and identification reads wait as fills do (R603). -/
def Block.commandReady (b : Block) : Bool :=
  match b.mp.command with
  | some (op, sel, _) => !b.softLow && !((op == 0x05 || op == 0x9F) && b.readWaits sel b.mp.commandAt) && !b.mp.pollOnce.contains sel
  | none => false

/-- Host read-ahead fills, commands and software transfers that may start, with the time each was asked for (class 2). -/
def Block.hostRequests (b : Block) : List (Nat × Transfer) :=
  ((b.readyFills (fun w => w == .portA || w == .portB)).map (fun f => (f.askedAt, Transfer.fill f))) ++
  (match b.mp.command with
   | some (op, sel, addr) => if b.commandReady then [(b.mp.commandAt, Transfer.command op sel addr)] else []
   | none => []) ++
  (match b.mp.software with
   | some (len, tx) => [(b.mp.softwareAt, Transfer.software len tx)]
   | none => [])

/-- The next transfer in the order of precedence, the oldest first within a class (R600). -/
def Block.nextTransfer (b : Block) : Option Transfer :=
  match b.writeStep with
  | some t => some t
  | none =>
    match (sortBy (fun x y => decide (x.1 < y.1)) b.hostRequests).head? with
    | some (_, t) => some t
    | none =>
      match (b.readyFills (· == .sequencer)).head? with
      | some f => some (.fill f)
      | none => (b.readyFills (· == .bracket)).head?.map Transfer.fill

/-- Take a transfer out of what waits. -/
def Block.takeTransfer (b : Block) (t : Transfer) : Block :=
  b.setMp (fun x => match t with
    | .fill f => { x with fills := x.fills.erase f }
    | .enable _ => x
    | .write _ => { x with queued := none, enabled := false }
    | .poll sel => { x with pollOnce := x.pollOnce.erase sel }
    | .command _ _ _ => { x with command := none }
    | .software _ _ => { x with software := none })

/-- MP_TRANSFER_START: with the wire free, the next transfer starts (R600). -/
def Block.stepTransfer (b : Block) : Block :=
  let b := b.settleWire
  if b.mp.wire.isSome || !b.portRuns then b
  else match b.nextTransfer with
    | none => b
    | some t =>
      let first := b.now + b.transferTime t
      let b := (b.takeTransfer t).drive t
      match t with
      | .poll _ => b.setMp (fun x => { x with writing := x.writing.map (fun w =>
          { w with firstPoll := some (w.firstPoll.getD first), nextPoll := first + b.pollTime }) })
      | _ => b

/-! ## Ends of transfers -/

/-- A write's last poll shows it complete: MP_ERASE_DONE, refills, and the next write (R480, R602, R603, R609). -/
def Block.writeDone (b : Block) (w : Writing) : Block :=
  let b := match w.op with
    | .erase sel a _ =>
      let ms := (Config.quantise ((b.now - w.startedAt : Nat) / 100000)).toNat
      b.event 0x0A13 (leBytes 1 sel ++ leBytes 4 a ++ leBytes 2 ms)
    | .program _ _ => b
  [Port.a, Port.b].foldl (Block.refill w.op) b.nextWrite

/-- STATUS_POLL: the poll on the wire ends with the status byte read; bit 0 is write in progress (R602). -/
def Block.stepPoll (b : Block) (status : Nat) : Block :=
  match b.mp.wire with
  | some (.poll _) =>
    if b.now < b.mp.wireEnd then b
    else
      let b := b.wireFree
      match b.mp.writing with
      | some w => if bitOf status 0 then b else b.writeDone w
      | none => b
  | _ => b

/-- A program or erase still shows write in progress after its limit (R606). -/
def Block.writeLate (b : Block) (w : Writing) : Bool :=
  match w.firstPoll with
  | none => false
  | some t =>
    let limit := match w.op with
      | .program _ _ => 10000 * max 1 (b.get R.MP_TMO.PROG_MS)
      | .erase _ _ _ => 1000000 * max 1 (b.get R.MP_TMO.ERASE_MS)
    decide (t + limit ≤ b.now) &&
    (match b.mp.wire with
     | some (.poll _) => false
     | _ => true)

/-- The operation ends with a timeout: STUCK, its event and MP_ERRADDR (R606). -/
def Block.writeTimeout (b : Block) (w : Writing) (code : Nat) : Block :=
  let b := (b.setBit R.MP_STATUS.STUCK w.op.sel).set R.MP_ERRADDR.ADDR w.op.range.1
  (b.event code (leBytes 1 w.op.sel ++ leBytes 4 w.op.range.1)).dropWrites

/-- MP_PROG_TIMEOUT (R606). -/
def Block.stepProgTimeout (b : Block) : Block :=
  match b.mp.writing with
  | some w => match w.op with
    | .program _ _ => if b.writeLate w then b.writeTimeout w 0x0A11 else b
    | .erase _ _ _ => b
  | none => b

/-- MP_ERASE_TIMEOUT (R606). -/
def Block.stepEraseTimeout (b : Block) : Block :=
  match b.mp.writing with
  | some w => match w.op with
    | .erase _ _ _ => if b.writeLate w then b.writeTimeout w 0x0A12 else b
    | .program _ _ => b
  | none => b

/-- MP_TRANSFER_END: a command or a software transfer finishes on the wire (R594, R605). -/
def Block.stepTransferEnd (b : Block) (data : Nat) : Block :=
  if b.now < b.mp.wireEnd then b
  else match b.mp.wire with
    | some (.command op _ _) =>
      let n := if op = 0x05 then 8 else if op = 0x9F then 24 else if op = 0x5A then 32 else 0
      let old := b.get R.MP_CMD_DATA.DATA
      b.wireFree.set R.MP_CMD_DATA.DATA (old - old % 2 ^ n + data % 2 ^ n)
    | some (.software len _) =>
      let old := b.get R.MP_SW_RX.RX
      b.wireFree.set R.MP_SW_RX.RX (old - old % 2 ^ len + data % 2 ^ len)
    | _ => b

/-! ## Timeouts of fills (R607, R608) -/

/-- FILL_MS as it acts, in TIME clocks. -/
def Block.fillLimit (b : Block) : Nat := msec (max 1 (b.get R.MP_TMO.FILL_MS))

/-- The requester MID of a fill in MP_FILL_TIMEOUT (R609). -/
def FillFor.mid : FillFor → Nat
  | .portA => 0
  | .portB => 1
  | .sequencer => 2
  | .bracket => 6

/-- MP_FILL_TIMEOUT's event and MP_ERRADDR (R607). -/
def Block.fillEvent (b : Block) (sel addr mid : Nat) : Block :=
  (b.set R.MP_ERRADDR.ADDR addr).event 0x0A10 (leBytes 1 sel ++ leBytes 4 addr ++ leBytes 1 mid)

/-- The first fill that is overdue, or that its select refuses (R607). -/
def Block.lateFill (b : Block) (p : Block → Fill → Bool) : Option Fill := b.mp.fills.find? (p b)

/-- A fill is overdue. -/
def Block.overdue (b : Block) (f : Fill) : Bool := decide (f.askedAt + b.fillLimit ≤ b.now)

/-! ## Meanings -/

/-- MP_TRANSFER_START (R600). -/
def execMpTransferStart (dt : Nat) (s : State) : Host.Outcome State Fault Refusal := s.run dt Block.stepTransfer
/-- STATUS_POLL (R602). -/
def execStatusPoll (dt status : Nat) (s : State) : Host.Outcome State Fault Refusal := s.run dt (fun b => b.settleWire.stepPoll status)
/-- MP_PROG_TIMEOUT (R606). -/
def execMpProgTimeout (dt : Nat) (s : State) : Host.Outcome State Fault Refusal := s.run dt (fun b => b.settleWire.stepProgTimeout)
/-- MP_ERASE_TIMEOUT (R606). -/
def execMpEraseTimeout (dt : Nat) (s : State) : Host.Outcome State Fault Refusal := s.run dt (fun b => b.settleWire.stepEraseTimeout)
/-- MP_SW_TRANSFER (R594). -/
def execMpSwTransfer (dt : Nat) (port : Port) (value : Word) (s : State) : Host.Outcome State Fault Refusal :=
  s.runPort dt port (fun b => (.ok, b.settleWire.softTransfer value.toNat))
/-- MP_TRANSFER_END (R605). -/
def execMpTransferEnd (dt data : Nat) (s : State) : Host.Outcome State Fault Refusal := s.run dt (fun b => b.stepTransferEnd data)

/-- MP_READ_STATUS (R605). -/
def execMpReadStatus (dt : Nat) (port : Port) (sel : Nat) (s : State) : Host.Outcome State Fault Refusal :=
  s.runPort dt port (fun b => b.settleWire.mpCommand port.mid 0x05 sel)
/-- MP_READ_ID (R605). -/
def execMpReadId (dt : Nat) (port : Port) (sel : Nat) (s : State) : Host.Outcome State Fault Refusal :=
  s.runPort dt port (fun b => b.settleWire.mpCommand port.mid 0x9F sel)
/-- MP_READ_SFDP (R605). -/
def execMpReadSfdp (dt : Nat) (port : Port) (sel : Nat) (s : State) : Host.Outcome State Fault Refusal :=
  s.runPort dt port (fun b => b.settleWire.mpCommand port.mid 0x5A sel)
/-- MP_WRITE_ENABLE (R605). -/
def execMpWriteEnable (dt : Nat) (port : Port) (sel : Nat) (s : State) : Host.Outcome State Fault Refusal :=
  s.runPort dt port (fun b => b.settleWire.mpCommand port.mid 0x06 sel)
/-- MP_ERASE_4K (R605). -/
def execMpErase4k (dt : Nat) (port : Port) (sel : Nat) (s : State) : Host.Outcome State Fault Refusal :=
  s.runPort dt port (fun b => b.settleWire.mpCommand port.mid 0x20 sel)
/-- MP_ERASE_64K (R605). -/
def execMpErase64k (dt : Nat) (port : Port) (sel : Nat) (s : State) : Host.Outcome State Fault Refusal :=
  s.runPort dt port (fun b => b.settleWire.mpCommand port.mid 0xD8 sel)

end Sys2Proof.Machine
end

