-- ==== Sys2Proof/Machine/Nv.lean ====
section
/-! DEFINITION. The non-volatile store: write operations, tearing, Trapeze pairs, Carousels, the save log and the
non-volatile flush (chapter 19). -/

namespace Sys2Proof.Machine

/-- Change the store's state. -/
def Block.setNv (b : Block) (f : NvState → NvState) : Block := { b with nv := f b.nv }

/-- The store is busy (R618). -/
def Block.nvBusy (b : Block) : Bool := b.nv.op.isSome

/-- `n` bytes of the store at an offset. -/
def Block.nvBytes (b : Block) (off n : Nat) : List Byte := Mem.readBytes 0xFF#8 b.nv.cells off n

/-- The flawed groups among those that hold `n` bytes at an offset (R616). -/
def Block.nvFound (b : Block) (off n : Nat) : NvFound :=
  let held := fun g => decide (off / 8 ≤ g) && decide (8 * g < off + n)
  { bad := b.nv.bad.filter held, soft := b.nv.soft.filter held }

/-- Flawed groups were read: corrected ones are counted; of uncorrectable ones NV_STATUS.UNCORR, the count, NV_ERRADDR, and one
NV_UNCORR event unless the operation has written one (R616). -/
def Block.nvTell (b : Block) (x : NvFound) (told : Bool := false) : Block :=
  let b := if x.soft.isEmpty then b else b.add R.NV_ECC.CORR x.soft.length
  match x.bad, x.bad.getLast? with
  | g :: _, some l =>
    let b := ((b.setFlag R.NV_STATUS.UNCORR true).add R.NV_ECC.UNCORR x.bad.length).set R.NV_ERRADDR.ADDR (8 * l)
    if told then b else b.event 0x0A02 (leBytes 4 (8 * g) ++ leBytes 2 x.bad.length)
  | _, _ => b

/-! ## Write operations (R617 to R620) -/

/-- A group's old bytes with some of them replaced; later items win. -/
def mergeGroup (old : List Byte) (g : Nat) (items : List (Nat × List Byte)) : List Byte :=
  items.foldl (fun bs it => (bs.zipIdx).map (fun p =>
    let a := 8 * g + p.2
    if it.1 ≤ a ∧ a < it.1 + it.2.length then it.2.getD (a - it.1) p.1 else p.1)) old

/-- The groups that a list of byte strings touches. -/
def touches (items : List (Nat × List Byte)) (g : Nat) : Bool :=
  items.any (fun it => decide (it.1 < 8 * g + 8) && decide (8 * g < it.1 + it.2.length))

/-- Groups in SPAN touch order: ascending through the addressed range (R620). -/
def spanGroups (items : List (Nat × List Byte)) : List Nat :=
  let hi := items.foldl (fun m it => max m (it.1 + it.2.length)) 0
  let lo := items.foldl (fun m it => min m it.1) hi
  ((List.range ((hi + 7) / 8 - lo / 8)).map (· + lo / 8)).filter (touches items)

/-- Groups in WRAP touch order: from the first item's group, wrapping within its page (R620). -/
def wrapGroups (first : Nat) (items : List (Nat × List Byte)) : List Nat :=
  let page := first / 64
  ((List.range 8).map (fun i => 8 * page + (first / 8 + i) % 8)).filter (touches items)

/-- The writes of an operation: each group in touch order with its new bytes. -/
def Block.nvWrites (b : Block) (groups : List Nat) (items : List (Nat × List Byte)) : List (Nat × List Byte) :=
  groups.map (fun g => (g, mergeGroup (b.nvBytes (8 * g) 8) g items))

/-- A write operation touches the base Trapeze pair (R642). -/
def touchesBase (ws : List (Nat × List Byte)) : Bool := ws.any (fun w => decide (0x4000 ≤ 8 * w.1) && decide (8 * w.1 < 0x6000))

/-- A write operation starts, as part of an operation (R617, R642). -/
def Block.startWrite (b : Block) (op : NvOp) (ws : List (Nat × List Byte)) (span : Bool) : Block :=
  let b := b.setNv (fun x => { x with op := some { op with writes := ws, span := span, writing := true, startedAt := b.now } })
  let b := b.inc R.NV_COUNT.WRITES
  if touchesBase ws then b.setFlag R.NV_STATUS.BASE_WRITTEN true else b

/-- Groups programmed with good ECC. -/
def NvState.program (x : NvState) (ws : List (Nat × List Byte)) : NvState :=
  ws.foldl (fun x w => { x with cells := Mem.writeBytes 0xFF#8 x.cells (8 * w.1) w.2, bad := x.bad.filter (· != w.1), soft := x.soft.filter (· != w.1) }) x

/-- A group turns uncorrectable: its bytes are indeterminate (R616). -/
def Block.spoil (b : Block) (g : Nat) : Block :=
  let r := b.freeBytes 8
  r.2.setNv (fun x => { x with cells := Mem.writeBytes 0xFF#8 x.cells (8 * g) r.1, bad := x.bad.filter (· != g) ++ [g], soft := x.soft.filter (· != g) })

/-- A group turns out to hold a single-bit error: it reads as written (R616). -/
def Block.soften (b : Block) (g : Nat) : Block := b.setNv (fun x => { x with soft := x.soft.filter (· != g) ++ [g] })

/-- A write operation stopped part of the way: some groups are programmed, one may hold old or new data or be
uncorrectable, the rest hold old data; which is a free value (R644). -/
def Block.tearWrite (b : Block) : Block :=
  match b.nv.op with
  | none => b
  | some op =>
    if !op.writing then b.setNv (fun x => { x with op := none })
    else
      let (n, b) := b.freeNat
      let (how, b) := b.freeNat
      let k := n % (op.writes.length + 1)
      let b := b.setNv (fun x => { x.program (op.writes.take k) with op := none })
      match op.writes[k]?, how % 3 with
      | some w, 0 => b.setNv (fun x => x.program [w])
      | some w, 1 => b.spoil w.1
      | _, _ => b

/-! ## Block protection (R623, R624) -/

/-- The first protected offset. -/
def Block.nvLimit (b : Block) : Nat := match b.get R.NV_CTL.BP with
  | 0 => 0x40000
  | 1 => 0x30000
  | 2 => 0x20000
  | _ => 0x4000

/-- A write into the protected range is refused: PROTECTED and one event (R624). -/
def Block.nvProtected (b : Block) (off : Nat) : Block := (b.setFlag R.NV_STATUS.PROTECTED true).event 0x0A04 (leBytes 4 off)

/-! ## Window writes (R619) -/

/-- Where the items of a frame go: the offset and result of each, and the first accepted offset. -/
def placeItems (span : Bool) (limit : Nat) (items : List (Nat × Word)) : Option Nat × List (Nat × Word × HostResult) :=
  match items.find? (fun i => decide (i.1 < limit)) with
  | none => (none, items.map (fun i => (i.1, i.2, .windowFault)))
  | some (first, _) =>
    (some first, items.map (fun i =>
      if limit ≤ i.1 then (i.1, i.2, .windowFault)
      else if span then
        if first ≤ i.1 ∧ i.1 / 64 < first / 64 + 64 then (i.1, i.2, .ok) else (i.1, i.2, .windowFault)
      else (64 * (first / 64) + i.1 % 64, i.2, .ok)))

/-- The window write items of a frame that fall in the user area form one write operation (R619, R624). The items are
offsets and words in item order; the answer is each item's result. -/
def Block.nvWindow (b : Block) (items : List (Nat × Word)) : List HostResult × Block :=
  if b.nvBusy then (items.map (fun _ => .nvBusy), b)
  else
    let span := b.flag R.NV_CTL.MODE
    let placed := placeItems span b.nvLimit items
    let b := match items.find? (fun i => decide (b.nvLimit ≤ i.1)) with
      | some (off, _) => b.nvProtected off
      | none => b
    let results := placed.2.map (·.2.2)
    match placed.1 with
    | none => (results, b)
    | some first =>
      let bytes := (placed.2.filter (fun p => p.2.2 == .ok)).map (fun p => (p.1, leBytes 4 p.2.1.toNat))
      let groups := if span then spanGroups bytes else wrapGroups first bytes
      (results, b.startWrite { kind := .window, addr := first } (b.nvWrites groups bytes) span)

/-! ## Trapeze pairs (R625 to R629) -/

/-- What the check of a copy finds. -/
structure CopyInfo where
  valid : Bool
  seq : Nat
  len : Nat
  found : NvFound
deriving DecidableEq, Repr

/-- Check one copy (R625, R626). -/
def Block.copyInfo (b : Block) (off pages : Nat) : CopyInfo :=
  let sealB := b.nvBytes (off + 64 * pages - 8) 8
  let seq := leField sealB 0 4
  let len := leField sealB 4 2
  let fits := decide (len % 8 = 0) && decide (len ≤ 64 * pages - 8)
  let found := (b.nvFound (off + 64 * pages - 8) 8).join (if fits then b.nvFound off len else {})
  { valid := found.bad.isEmpty && fits && seq != 0xFFFFFFFF && leField sealB 6 2 == crc16 (b.nvBytes off len ++ sealB.take 6),
    seq := seq, len := len, found := found }

/-- SEQ `x` is newer than `y` modulo 2^w (R626, R631). -/
def newer (w x y : Nat) : Bool := let d := (x + 2 ^ w - y % 2 ^ w) % 2 ^ w; decide (1 ≤ d) && decide (d < 2 ^ (w - 1))

/-- The copy in force of a pair: 0 A or 1 B, none when the pair is EMPTY (R626). -/
def Block.inForce (b : Block) (addr pages : Nat) : Option (Nat × CopyInfo) :=
  let x := b.copyInfo addr pages
  let y := b.copyInfo (addr + 64 * pages) pages
  if x.valid && y.valid then if newer 32 y.seq x.seq then some (1, y) else some (0, x)
  else if x.valid then some (0, x)
  else if y.valid then some (1, y)
  else none

/-- Flawed groups read while both copies are checked. -/
def Block.pairFound (b : Block) (addr pages : Nat) : NvFound :=
  (b.copyInfo addr pages).found.join (b.copyInfo (addr + 64 * pages) pages).found

/-- An NV_OP operation ends: outcome and NV_OP_DONE (R647, R650). -/
def Block.nvOpEnd (b : Block) (kind : NvKind) (outcome : Nat) : Block :=
  let b := (b.setNv (fun x => { x with op := none })).set R.NV_OUTCOME.OUTCOME outcome
  b.event 0x0A01 (leBytes 1 (kind.code - 1) ++ leBytes 1 outcome ++ leBytes 4 (b.get R.NV_RESULT_SEQ.SEQ))

/-- The arguments of an operation as the registers give them (R650). -/
def Block.nvArgs (b : Block) (kind : NvKind) : NvOp :=
  { kind := kind, startedAt := b.now, addr := b.get R.NV_ADDR.ADDR, pages := b.get R.NV_LEN.PAGES, len := b.get R.NV_LEN.LEN,
    slots := b.get R.NV_LEN.SLOTS, src := b.get R.NV_SRC.SRC }

/-- The pair's arguments are in order (R646). -/
def pairArgsOk (op : NvOp) : Bool :=
  decide (op.addr % 64 = 0) && decide (1 ≤ op.pages) && decide (op.pages ≤ 64) && decide (op.addr + 128 * op.pages ≤ 0x40000)

/-- TRAPEZE_WRITE starts: both copies are checked and the payload write begins (R627 steps 1 and 2). -/
def Block.stepTrapezeWrite (b : Block) : Block :=
  if b.nvBusy then b
  else
    let op := b.nvArgs .trapezeWrite
    if !pairArgsOk op ∨ op.addr < 0x4000 ∨ op.len % 8 ≠ 0 ∨ 64 * op.pages < op.len + 8 ∨ 0x80000 < op.src + op.len then
      b.nvOpEnd .trapezeWrite 4
    else
      let cur := b.inForce op.addr op.pages
      let found := b.pairFound op.addr op.pages
      let b := b.nvTell found
      let (copy, seq) := match cur with
        | some (c, i) => (1 - c, (i.seq + 1) % 2 ^ 32)
        | none => (0, 1)
      let target := op.addr + 64 * op.pages * copy
      if b.nvLimit < target + 64 * op.pages then b.nvOpEnd .trapezeWrite 3
      else
        let items := [(target, b.bytes (0x00800000 + op.src) op.len)]
        b.startWrite { op with copy := copy, seq := seq, told := !found.bad.isEmpty } (b.nvWrites (spanGroups items) items) true

/-- TRAPEZE_READ starts (R629). -/
def Block.stepTrapezeRead (b : Block) : Block :=
  if b.nvBusy then b
  else
    let op := b.nvArgs .trapezeRead
    if !pairArgsOk op then b.nvOpEnd .trapezeRead 4 else b.setNv (fun x => { x with op := some op })

/-- TRAPEZE_READ completes: the payload in force is copied to ring SRAM (R629). -/
def Block.trapezeReadDone (b : Block) (op : NvOp) : Block :=
  let cur := b.inForce op.addr op.pages
  let b := b.nvTell (b.pairFound op.addr op.pages)
  match cur with
  | none => b.nvOpEnd .trapezeRead 1
  | some (c, i) =>
    if 0x80000 < op.src + i.len then b.nvOpEnd .trapezeRead 4
    else
      let b := b.store (0x00800000 + op.src) (b.nvBytes (op.addr + 64 * op.pages * c) i.len)
      let b := ((b.set R.NV_RESULT_SEQ.SEQ i.seq).set R.NV_OUTCOME.COPY c).set R.NV_LEN.LEN i.len
      b.nvOpEnd .trapezeRead 0

/-! ## Carousels (R630 to R633) -/

/-- SEQ and VALUE of slot `i` when it is valid (R630, R631). -/
def Block.slotAt (b : Block) (addr i : Nat) : Option (Nat × Nat) :=
  let g := b.nvBytes (addr + 8 * i) 8
  if (b.nvFound (addr + 8 * i) 8).bad.isEmpty ∧ leField g 7 1 = crc8 (g.take 7) ∧ leField g 4 3 ≠ 0xFFFFFF then
    some (leField g 4 3, leField g 0 4)
  else none

/-- The newest slot: index, SEQ and VALUE (R631). -/
def Block.newestSlot (b : Block) (addr slots : Nat) : Option (Nat × Nat × Nat) :=
  (List.range slots).foldl (fun best i =>
    match b.slotAt addr i, best with
    | none, _ => best
    | some (s, v), none => some (i, s, v)
    | some (s, v), some (_, t, _) => if newer 24 s t then some (i, s, v) else best) none

/-- The Carousel's arguments are in order (R646). -/
def carouselArgsOk (op : NvOp) : Bool :=
  decide (op.addr % 8 = 0) && decide (8 ≤ op.slots) && decide (op.slots ≤ 256) && decide (op.addr + 8 * op.slots ≤ 0x40000)

/-- The 8 bytes of a slot (R630). -/
def slotBytes (value seq : Nat) : List Byte :=
  let g := leBytes 4 value ++ leBytes 3 seq
  g ++ leBytes 1 (crc8 g)

/-- CAROUSEL_PUSH starts: the next slot is written (R632). -/
def Block.stepCarouselPush (b : Block) : Block :=
  if b.nvBusy then b
  else
    let op := b.nvArgs .carouselPush
    if !carouselArgsOk op ∨ op.addr < 0x4000 then b.nvOpEnd .carouselPush 4
    else
      let cur := b.newestSlot op.addr op.slots
      let b := b.nvTell (b.nvFound op.addr (8 * op.slots))
      let (slot, seq) := match cur with
        | some (i, s, _) => ((i + 1) % op.slots, if s + 1 = 0xFFFFFF then 0 else s + 1)
        | none => (0, 0)
      let off := op.addr + 8 * slot
      if b.nvLimit < off + 8 then b.nvOpEnd .carouselPush 3
      else b.startWrite { op with slot := slot, seq := seq } [(off / 8, slotBytes (b.get R.NV_DATA.VALUE) seq)] false

/-- CAROUSEL_READ starts (R633). -/
def Block.stepCarouselRead (b : Block) : Block :=
  if b.nvBusy then b
  else
    let op := b.nvArgs .carouselRead
    if !carouselArgsOk op then b.nvOpEnd .carouselRead 4 else b.setNv (fun x => { x with op := some op })

/-- CAROUSEL_READ completes (R633). -/
def Block.carouselReadDone (b : Block) (op : NvOp) : Block :=
  let cur := b.newestSlot op.addr op.slots
  let b := b.nvTell (b.nvFound op.addr (8 * op.slots))
  match cur with
  | none => (b.set R.NV_DATA.VALUE 0).nvOpEnd .carouselRead 1
  | some (i, s, v) => (((b.set R.NV_DATA.VALUE v).set R.NV_RESULT_SEQ.SEQ s).set R.NV_OUTCOME.SLOT i).nvOpEnd .carouselRead 0

/-! ## The save log (R635 to R640) -/

/-- SEG_SEQ and CAUSE, FL_FIRST, FL_COUNT of segment `s` when it is valid (R635, R636). -/
structure SegInfo where
  index : Nat
  seq : Nat
  cause : Nat
  first : Nat
  count : Nat
deriving DecidableEq, Repr

/-- Offset of segment `s`. -/
def segOff (s : Nat) : Nat := 0x6000 + 4096 * s

/-- Segment `s`, when it is valid. -/
def Block.segment (b : Block) (s : Nat) : Option SegInfo :=
  let bs := b.nvBytes (segOff s) 4096
  let sealB := bs.drop 4064
  if (b.nvFound (segOff s + 4064) 32).bad.isEmpty ∧ leField sealB 0 2 = 0x0A5E ∧ leField sealB 4 4 ≠ 0xFFFFFFFF ∧
     leField sealB 28 4 = crc32 (bs.take 4092) then
    some { index := s, seq := leField sealB 4 4, cause := leField sealB 22 1, first := leField sealB 8 4, count := leField sealB 12 2 }
  else none

/-- The newest valid segment (R636). -/
def Block.newestSegment (b : Block) : Option SegInfo :=
  ((List.range 8).filterMap b.segment).foldl (fun best x =>
    match best with
    | none => some x
    | some y => if newer 32 x.seq y.seq then some x else best) none

/-- The marker slot and record slots of a persistent ring in the slots left, none when fewer than 2 remain (R637). -/
def Block.ringSlots (b : Block) (k left : Nat) : List (List Byte) :=
  let r := b.ring k
  if left < 2 then []
  else
    let n := min r.count (left - 1)
    let skip := r.count - n
    let recs := (List.range n).map (fun i => b.bytes (r.slot ((r.tail + skip + i) % r.depth)) r.esize)
    let seq := if r.role = 1 then leField (recs.headD (leBytes 8 0)) 4 4 else if r.role = 2 then (r.seq + 2 ^ 32 - n) % 2 ^ 32 else 0
    (leBytes 2 0x0A0F ++ leBytes 2 k ++ leBytes 4 seq ++ leBytes 2 n ++ leBytes 4 skip ++ leBytes 1 r.esize ++ leBytes 17 0) ::
      recs.map (padTo 32 0#8)

/-- Unsaved fault records, oldest first. -/
def Block.unsaved (b : Block) : List LogEntry := b.nv.log.filter (fun e => !e.saved)

/-- The record slots of a segment, with the bits of RING_MAP (R637). -/
def Block.segmentSlots (b : Block) : List (List Byte) × Nat :=
  let un := b.unsaved
  let fault := (un.drop (un.length - 127)).map (fun e => e.entry.long e.seq)
  ((List.range 32).filter (fun k => (b.ring k).en && R.RG_CFG.PERSIST.get (b.ring k).cfg == 1)).foldl
    (fun acc k =>
      let ss := b.ringSlots k (127 - acc.1.length)
      (acc.1 ++ ss, if ss.length ≤ 1 then acc.2 else orBit acc.2 k)) (fault, 0)

/-- The fault records below a sequence number become saved (R637). -/
def NvState.markSaved (x : NvState) (to_ : Nat) : NvState :=
  { x with log := x.log.map (fun e => if newer 32 to_ e.seq then { e with saved := true } else e) }

/-- A segment write starts (R637, R639): CAUSE 0 NV_FLUSH, 1 Dusk, 2 sleep, 3 LOG_CLEAR. The records that it skips are marked saved
as its slots are filled. -/
def Block.startSegment (b : Block) (cause : Nat) (flush : Bool := false) : Block :=
  let b := if cause = 3 then b.setNv (fun x => { x with log := [] }) else b
  let newest := b.newestSegment
  let index := match newest with
    | some x => (x.index + 1) % 8
    | none => 0
  let seq := match newest with
    | some x => (x.seq + 1) % 2 ^ 32
    | none => 1
  let (slots, map) := if cause = 3 then ([], 0) else b.segmentSlots
  let un := b.unsaved
  let n := min 127 un.length
  let first := match un.drop (un.length - 127) with
    | e :: _ => e.seq
    | [] => b.nv.nextSeq
  let body := padTo 4064 0xFF#8 slots.flatten
  let sealB := leBytes 2 0x0A5E ++ leBytes 2 slots.length ++ leBytes 4 seq ++ leBytes 4 first ++ leBytes 2 n ++
    leBytes 2 (un.length - n) ++ leBytes 6 b.clock.pt.toNat ++ leBytes 1 cause ++ leBytes 1 0 ++ leBytes 4 map
  let bytes := body ++ sealB ++ leBytes 4 (crc32 (body ++ sealB))
  let items := [(segOff index, bytes)]
  let b := b.setNv (fun x => x.markSaved first)
  b.startWrite { kind := .segment, addr := segOff index, seq := seq, savedTo := b.nv.nextSeq, used := slots.length, flush := flush }
    (b.nvWrites (spanGroups items) items) true

/-! ## The non-volatile flush routine (R638, R639) -/

/-- The flush waits in F0, and the segment write starts once no operation is in progress (R638). -/
def Block.flushStart (b : Block) : Block :=
  if b.seq.routine = some .flush ∧ b.seq.step = 0 ∧ !b.nvBusy then b.startSegment b.nv.flushCause true else b

/-- A slice of the flush: in F0 it starts the segment write when it can, and with the segment written it ends with its reply
(R559, R638). -/
def Block.flushSlice (b : Block) : Block :=
  if b.seq.routine = some .flush ∧ b.seq.step = 64 then
    b.finishRoutine .completed 0 (if b.nv.flushCause = 3 then [] else [32 * (b.nv.flushUsed + 1)])
  else b.flushStart

/-- The write operation in progress, if any, is no write of the flush routine. -/
def Block.disownFlush (b : Block) : Block := b.setNv (fun x => { x with op := x.op.map (fun op => { op with flush := false }) })

/-- NV_FLUSH or LOG_CLEAR starts its routine (R638). -/
def Block.startFlush (b : Block) (cause : Nat) (dst : Option ReplyTo) : Block :=
  ((b.setNv (fun x => { x with flushCause := cause })).disownFlush.startRoutine .flush 0 dst).flushStart

/-- The segment of a flush routine is complete: IC_ROUTINE.STEP reads 64 (R638). -/
def Block.flushDone (b : Block) (op : NvOp) : Block :=
  if b.seq.routine = some .flush ∧ op.flush then (b.setNv (fun x => { x with flushUsed := op.used })).toStep 64 else b

/-- The segment of a flush routine failed; the cause in its reply is a value the manual leaves open (R556). -/
def Block.flushFailed (b : Block) (op : NvOp) : Block :=
  if b.seq.routine = some .flush ∧ op.flush then
    let (w, b) := b.freeNat
    b.finishRoutine .failed 5 [w]
  else b

/-! ## Ends of write operations -/

/-- The payload of a Trapeze write is in place: it is compared with its source, and the seal is written (R627 steps 3, 4). -/
def Block.trapezeSeal (b : Block) (op : NvOp) : Block :=
  let target := op.addr + 64 * op.pages * op.copy
  let payload := b.bytes (0x00800000 + op.src) op.len
  let found := b.nvFound target op.len
  let b := b.nvTell found op.told
  if !found.bad.isEmpty ∨ b.nvBytes target op.len ≠ payload then b.nvOpEnd .trapezeWrite 2
  else
    let head := leBytes 4 op.seq ++ leBytes 2 op.len
    let sealB := head ++ leBytes 2 (crc16 (payload ++ head))
    b.startWrite { op with sealing := true } [((target + 64 * op.pages - 8) / 8, sealB)] false

/-- The operation's next step after its write operation, or its end (R617, R627, R632, R637, R643). -/
def Block.afterWrite (b : Block) (op : NvOp) : Block :=
  let b := b.setNv (fun x => { x with op := none })
  if op.halted then b
  else match op.kind with
    | .trapezeWrite =>
      if op.sealing then ((b.set R.NV_RESULT_SEQ.SEQ op.seq).set R.NV_OUTCOME.COPY op.copy).nvOpEnd .trapezeWrite 0
      else b.trapezeSeal op
    | .carouselPush => ((b.set R.NV_RESULT_SEQ.SEQ op.seq).set R.NV_OUTCOME.SLOT op.slot).nvOpEnd .carouselPush 0
    | .segment => (b.setNv (fun x => x.markSaved op.savedTo)).flushDone op
    | .window => b
    | .trapezeRead => b
    | .carouselRead => b
    | .seqRead => b

/-- NV_WRITE_DONE: the groups of the write operation are programmed; those listed turn out uncorrectable, or with a single-bit
error (R616, R617, R627). -/
def Block.stepWriteDone (b : Block) (badGroups softGroups : List Nat) : Block :=
  match b.nv.op with
  | none => b
  | some op =>
    if !op.writing then b
    else
      let own := fun g => op.writes.any (fun w => w.1 == g)
      let b := (badGroups.filter own).foldl Block.spoil (b.setNv (fun x => x.program op.writes))
      let b := (softGroups.filter (fun g => own g && !badGroups.contains g)).foldl Block.soften b
      (b.afterWrite op).flushStart

/-- NV_TIMEOUT: a write operation not completed 10 ms after its start is ended (R645). -/
def Block.stepNvTimeout (b : Block) : Block :=
  match b.nv.op with
  | none => b
  | some op =>
    if !op.writing ∨ b.now < op.startedAt + msec 10 then b
    else
      let off := match op.writes with
        | w :: _ => 8 * w.1
        | [] => op.addr
      let b := b.tearWrite.event 0x0A05 (leBytes 1 op.kind.code ++ leBytes 4 off)
      let b := match op.kind with
        | .trapezeWrite => if op.halted then b.set R.NV_OUTCOME.OUTCOME 5 else b.nvOpEnd .trapezeWrite 5
        | .carouselPush => if op.halted then b.set R.NV_OUTCOME.OUTCOME 5 else b.nvOpEnd .carouselPush 5
        | .segment => b.flushFailed op
        | .window => b.set R.NV_OUTCOME.OUTCOME 5
        | .trapezeRead => b
        | .carouselRead => b
        | .seqRead => b
      b.flushStart

/-- Dusk starts, or sleep entry reaches S4: none of the later steps of a Trapeze write or Carousel push runs (R643). -/
def Block.haltNvOp (b : Block) : Block :=
  match b.nv.op with
  | some op =>
    if op.writing then b.setNv (fun x => { x with op := some { op with halted := op.kind == .trapezeWrite || op.kind == .carouselPush } })
    else b
  | none => b

/-! ## Dawn (R641, R649) -/

/-- A fault record as it stands in a segment. -/
def recordOf (bs : List Byte) : Record :=
  { type := leField bs 0 2, source := leField bs 2 2, pt := BitVec.ofNat 48 (leField bs 8 6), frame := leField bs 14 4,
    payload := (bs.drop 18).take 14 }

/-- The fault records of a segment, saved. -/
def Block.segmentLog (b : Block) (x : SegInfo) : List LogEntry :=
  (List.range x.count).map (fun i =>
    let bs := b.nvBytes (segOff x.index + 32 * i) 32
    { seq := leField bs 4 4, entry := recordOf bs, saved := true })

/-- Segments that were begun and are not valid: each is torn (R647). -/
def Block.tornSegments (b : Block) : List Nat :=
  (List.range 8).filter (fun s => (b.segment s).isNone &&
    (b.nv.cells.any (fun c => decide (segOff s ≤ c.1) && decide (c.1 < segOff s + 4096)) || !(b.nvFound (segOff s) 4096).bad.isEmpty))

/-- The fault log rebuilt from the save log in D1 (R639, R649). -/
def Block.rebuildLog (b : Block) : Block :=
  let segs := (List.range 8).filterMap b.segment
  let byAge := sortBy (fun x y => newer 32 y.seq x.seq) segs
  let fresh := byAge.foldl (fun acc x => if x.cause = 3 then [] else acc ++ [x]) []
  let log := fresh.flatMap b.segmentLog
  let next := match b.newestSegment with
    | some x => (x.first + x.count) % 2 ^ 32
    | none => 0
  b.setNv (fun x => { x with log := log.drop (log.length - 512), nextSeq := next })

/-! ## Meanings -/

/-- NV_WINDOW_WRITE: the items of one frame, addressed in the internal map (R619). -/
def Block.stepNvWindow (b : Block) (items : List WindowItem) : HostResult × Block :=
  let r := b.nvWindow (items.map (fun i => (i.addr - 0x00A00000, i.value)))
  ((r.1.find? (· != .ok)).getD .ok, r.2)

/-- An NV_OP write of one operation: NV_BUSY while the store is busy (R618). -/
def Block.stepNvOp (b : Block) (f : Block → Block) : HostResult × Block := if b.nvBusy then (.nvBusy, b) else (.ok, f b)

/-- NV_WINDOW_WRITE: items that do not all lie in the user area are no command of this row (R619). -/
def execNvWindowWrite (dt : Nat) (port : Port) (items : List WindowItem) (s : State) : Host.Outcome State Fault Refusal :=
  if items.all (fun i => decide (0x00A04000 ≤ i.addr) && decide (i.addr < 0x00A40000)) then
    s.runPort dt port (fun b => b.stepNvWindow items)
  else s.run dt id
/-- NV_WRITE_DONE (R617). -/
def execNvWriteDone (dt : Nat) (badGroups softGroups : List Nat) (s : State) : Host.Outcome State Fault Refusal :=
  s.run dt (fun b => b.stepWriteDone badGroups softGroups)
/-- NV_TIMEOUT (R645). -/
def execNvTimeout (dt : Nat) (s : State) : Host.Outcome State Fault Refusal := s.run dt Block.stepNvTimeout
/-- TRAPEZE_WRITE (R627). -/
def execTrapezeWrite (dt : Nat) (port : Port) (s : State) : Host.Outcome State Fault Refusal :=
  s.runPort dt port (fun b => b.stepNvOp Block.stepTrapezeWrite)
/-- TRAPEZE_READ (R629). -/
def execTrapezeRead (dt : Nat) (port : Port) (s : State) : Host.Outcome State Fault Refusal :=
  s.runPort dt port (fun b => b.stepNvOp Block.stepTrapezeRead)
/-- CAROUSEL_PUSH (R632). -/
def execCarouselPush (dt : Nat) (port : Port) (s : State) : Host.Outcome State Fault Refusal :=
  s.runPort dt port (fun b => b.stepNvOp Block.stepCarouselPush)
/-- CAROUSEL_READ (R633). -/
def execCarouselRead (dt : Nat) (port : Port) (s : State) : Host.Outcome State Fault Refusal :=
  s.runPort dt port (fun b => b.stepNvOp Block.stepCarouselRead)

end Sys2Proof.Machine
end

