-- ==== Sys2Proof/Machine/Txn.lean ====
section
/-! DEFINITION. Transactions: staged writes, the journal, implicit commits, commit windows, rollbacks and the over-budget
estimate (chapter 15). -/

namespace Sys2Proof.Machine

/-- Change the transaction machine. -/
def Block.setTxn (b : Block) (f : Txn → Txn) : Block := { b with txn := f b.txn }

/-- Change the overlay machine. -/
def Block.setOv (b : Block) (f : Overlay → Overlay) : Block := { b with overlay := f b.overlay }

/-! ## What is staged (R487) -/

/-- The masks of the first bytes of a record, 0 beyond them. -/
def maskAt (l : List Nat) (o : Nat) : Nat := l.getD o 0

/-- The staged bits of a zone record (R349). -/
def zoneMasks : List Nat :=
  [0x7F, 0x3F, 0x07] ++ List.replicate 33 0xFF ++ [0x07, 0xFF, 0x0F, 0, 0xFF, 0xFF, 0, 0] ++ [0x07, 0xFF, 0x0F, 0, 0xFF, 0xFF]
/-- The staged bits of an action template (R380). -/
def templateMasks : List Nat := [0, 0xEF, 0x07, 0, 0x1F, 0x1F, 0x1F, 0, 0xFF, 0xFF, 0xFF, 0xFF, 0, 0, 0, 0] ++ List.replicate 16 0xFF
/-- The staged bits of a valve profile (R428). -/
def profileMasks : List Nat := [0x01] ++ List.replicate 8 0xFF ++ [0x0F] ++ List.replicate 18 0xFF
/-- The staged bits of a valve channel's parameters (R429). -/
def valveMasks : List Nat := List.replicate 13 0xFF ++ [0x0F] ++ List.replicate 6 0xFF
/-- The staged bits of a lamp channel's parameters (R459). -/
def lampMasks : List Nat := [0xFF, 0xFF, 0xFF, 0xFF, 0xFF, 0x0F, 0xFF, 0x03] ++ List.replicate 13 0xFF ++ [0, 0xFF, 0xFF]
/-- The staged bits of a lamp PI loop record (R339). -/
def loopMasks : List Nat := [0xFF, 0x1F] ++ List.replicate 7 0xFF ++ [0x0F, 0xFF, 0x0F] ++ List.replicate 4 0xFF

/-- The staged table that an address lies in, by number; 0 for none (R487). -/
def stagedTable (a : Nat) : Nat :=
  if 0x00782000 ≤ a ∧ a < 0x00782800 then 1
  else if 0x00783000 ≤ a ∧ a < 0x00783100 then 2
  else if 0x00900000 ≤ a ∧ a < 0x00910000 then 3
  else if 0x00920000 ≤ a ∧ a < 0x00922000 then 4
  else if 0x00922000 ≤ a ∧ a < 0x00923000 then 5
  else if 0x00923000 ≤ a ∧ a < 0x00924000 then 6
  else if 0x00924000 ≤ a ∧ a < 0x00924800 then 7
  else if 0x00928000 ≤ a ∧ a < 0x00930000 then 8
  else 0

/-- The bits of the byte at an address that a commit writes (R487, R497). -/
def stagedMask (a : Nat) : Nat :=
  match stagedTable a with
  | 0 => 0
  | 3 => maskAt zoneMasks (a % 64)
  | 4 => maskAt templateMasks (a % 32)
  | 5 => maskAt profileMasks (a % 128)
  | 6 => maskAt valveMasks (a % 256)
  | 7 => if a % 256 < 0xC0 then maskAt lampMasks (a % 256) else maskAt loopMasks (a % 256 - 0xC0)
  | _ => 0xFF

/-- A write to the word at an address reaches a staged byte. -/
def stagedWord (a : Nat) : Bool := (List.range 4).any (fun i => stagedMask (a + i) != 0)

/-- The S-class fields of a register (R14). -/
def stagedFields (idx : Nat) : List RegField := (fieldsOf idx).filter (fun f => f.cls == .S && f.acc == .rw)

/-- The register holds S-class fields. -/
def stagedReg (idx : Nat) : Bool := !(stagedFields idx).isEmpty

/-! ## The journal (R501 to R503) -/

/-- The bytes of an entry (R501). -/
def JournalEntry.bytes : JournalEntry → List Byte
  | .register idx v => [1#8] ++ leBytes 1 idx ++ leBytes 2 0 ++ leBytes 4 v.toNat
  | .table a bs => [2#8, 0#8] ++ leBytes 2 bs.length ++ leBytes 4 a ++ padTo ((bs.length + 7) / 8 * 8) 0#8 bs
  | .raw bs => padTo 8 0#8 bs

/-- The bytes an entry takes in the journal (R501). -/
def JournalEntry.size : JournalEntry → Nat
  | .register _ _ => 8
  | .table _ bs => 8 + (bs.length + 7) / 8 * 8
  | .raw _ => 8

/-- The bytes a list of entries takes. -/
def journalSize (l : List JournalEntry) : Nat := (l.map JournalEntry.size).sum

/-- CFG_JOURNAL.USED (R522). -/
def Block.journalUsed (b : Block) : Nat := journalSize b.txn.journal

/-- `n` bytes of the journal view from an offset; bytes beyond USED read 0 (R501). -/
def Block.journalBytes (b : Block) (off n : Nat) : List Byte :=
  padTo n 0#8 (((b.txn.journal.flatMap JournalEntry.bytes).drop off).take n)

/-- Where the staged items of one host frame stand: a group of implicit writes was begun, and the address at which a window
item continues the run of the one before it (R502, R504). -/
structure FrameRun where
  group : Bool := false
  next : Option Nat := none
deriving DecidableEq, Repr

/-- A new item joins the TABLE entry before it, of at most 256 bytes, or makes an entry of its own (R502). -/
def addEntry (next : Option Nat) (l : List JournalEntry) (e : JournalEntry) : List JournalEntry :=
  match e, l.getLast? with
  | .table a bs, some (.table a0 bs0) =>
    if next = some a ∧ a0 + bs0.length = a ∧ bs0.length + bs.length ≤ 256 then l.dropLast ++ [.table a0 (bs0 ++ bs)] else l ++ [e]
  | _, _ => l ++ [e]

/-- The run after an item was taken (R502). -/
def nextRun (e : JournalEntry) : Option Nat :=
  match e with
  | .table a bs => if stagedTable (a + bs.length) = stagedTable a then some (a + bs.length) else none
  | .register _ _ => none
  | .raw _ => none

/-- The transaction is doomed by an entry that does not fit (R503). -/
def Block.doom (b : Block) (owner : Nat) : Block :=
  (b.setTxn (fun x => { x with doomed := true })).event 0x0903 (leBytes 1 owner ++ leBytes 4 b.journalUsed)

/-- The bytes of an item in a TABLE entry that change the geometry of an enabled zone outside a transaction (R342). -/
def Block.geometryHit (b : Block) (e : JournalEntry) : Bool :=
  match e with
  | .table a bs => geometryTouched b.mem ((List.range bs.length).map (a + ·))
  | .register _ _ => false
  | .raw _ => false

/-- A staged item joins the implicit commit of its frame, in the 4 KiB buffer (R504). -/
def Block.stageImplicit (b : Block) (run : FrameRun) (e : JournalEntry) : HostResult × FrameRun × Block :=
  let before := if run.group then b.txn.implicit.dropLast else b.txn.implicit
  let group := if run.group then b.txn.implicit.getLast?.getD [] else []
  let group := addEntry run.next group e
  if 4096 < journalSize before.flatten + journalSize group then (.txnRefused, { run with next := none }, b)
  else
    let b := b.setTxn (fun x => { x with implicit := before ++ [group] })
    (.ok, { group := true, next := nextRun e }, if b.geometryHit e then b.enterUndef .zoneGeometry else b)

/-- A staged item of a host: refused, journalled, or part of an implicit commit (R491, R492, R495, R502 to R504). -/
def Block.stage (b : Block) (mid : Nat) (run : FrameRun) (e : JournalEntry) : HostResult × FrameRun × Block :=
  match b.txn.owner with
  | none => b.stageImplicit run e
  | some o =>
    if o ≠ mid ∨ b.txn.pending.isSome ∨ b.txn.doomed then (.txnRefused, { run with next := none }, b)
    else
      let journal := addEntry run.next b.txn.journal e
      if 65536 < journalSize journal then (.ok, { run with next := none }, b.doom o)
      else (.ok, { run with next := nextRun e }, b.setTxn (fun x => { x with journal := journal }))

/-! ## Begin, commit requests and rollback (R490 to R499) -/

/-- A transaction opens (R490, R498). -/
def Block.openTxn (b : Block) (mid timeout : Nat) : Block :=
  b.setTxn (fun x => { x with owner := some mid, pending := none, beganAt := b.now, timeout := timeout, doomed := false, journal := [] })

/-- BEGIN (R490). -/
def Block.stepBegin (b : Block) (mid : Nat) : HostResult × Block :=
  if b.txn.owner.isSome then (.txnRefused, b) else (.ok, b.openTxn mid (b.get R.CFG_TIMEOUT.MS))

/-- A commit may be asked for by a MID: it owns the transaction, which is neither pending nor doomed (R493, R495, R503). -/
def Block.mayCommit (b : Block) (mid : Nat) : Bool :=
  b.txn.owner == some mid && b.txn.pending.isNone && !b.txn.doomed

/-- The number of the current tick; before tick 0 it is −1 modulo 2^32. -/
def Block.tickNow (b : Block) : Nat := if b.clock.ticked then b.get R.TB_FRAME.FRAME else 2 ^ 32 - 1

/-- The number of the next tick (R124). -/
def Block.tickNext (b : Block) : Nat := (b.tickNow + 1) % 2 ^ 32

/-- A pending commit for tick `t`, late when the tick has passed: LATE and COMMIT_LATE (R496). -/
def Block.pendAt (b : Block) (t : Nat) : Block :=
  if (b.tickNow + 2 ^ 32 - t % 2 ^ 32) % 2 ^ 32 < 2 ^ 31 then
    ((b.setTxn (fun x => { x with pending := some .next })).setFlag R.CFG_STATUS.LATE true).event 0x0904
      (leBytes 4 t ++ leBytes 4 b.tickNext)
  else b.setTxn (fun x => { x with pending := some (.at (t % 2 ^ 32)) })

/-- COMMIT_NEXT (R493). -/
def Block.stepCommitNext (b : Block) (mid : Nat) : HostResult × Block :=
  if b.mayCommit mid then (.ok, b.setTxn (fun x => { x with pending := some .next })) else (.txnRefused, b)

/-- COMMIT_AT, for the tick in CFG_COMMIT_TICK (R493, R496). -/
def Block.stepCommitAt (b : Block) (mid : Nat) : HostResult × Block :=
  if b.mayCommit mid then (.ok, b.pendAt (b.get R.CFG_COMMIT_TICK.TICK)) else (.txnRefused, b)

/-- The transaction closes and its journal empties. -/
def Block.closeTxn (b : Block) : Block :=
  b.setTxn (fun x => { x with owner := none, pending := none, doomed := false, journal := [] })

/-- The armed overlay is gone (R518). -/
def Block.disarm (b : Block) : Block := (b.set R.CFG_OVERLAY.ARMED 0x7F).set R.CFG_OVERLAY.STATE 0

/-- A rollback: 0 HOST, 1 FORCE, 2 TIMEOUT, 3 DUSK, 4 ROUTINE (R499, R520, R522). -/
def Block.rollbackTxn (b : Block) (cause : Nat) : Block :=
  match b.txn.owner with
  | none => b
  | some o =>
    let b := (b.closeTxn.set R.CFG_STATUS.LAST_OUTCOME (2 + cause)).inc R.CFG_COUNT.ROLLBACKS
    let b := b.event 0x0902 (leBytes 1 o ++ leBytes 1 cause)
    if o = 2 then b.disarm else b

/-- ROLLBACK by a host: its own transaction, or with FORCE one of either host (R493, R494). -/
def Block.stepRollback (b : Block) (mid : Nat) (force : Bool) : HostResult × Block :=
  match b.txn.owner with
  | none => (.txnRefused, b)
  | some o =>
    if o = mid then (.ok, b.rollbackTxn (bit force))
    else if force ∧ o < 2 then (.ok, b.rollbackTxn 1)
    else (.txnRefused, b)

/-- A write of CFG_TXN (R522): other operations are ignored. -/
def Block.txnOp (b : Block) (mid op : Nat) (force : Bool) : HostResult × Block :=
  match op with
  | 1 => b.stepBegin mid
  | 2 => b.stepCommitNext mid
  | 3 => b.stepCommitAt mid
  | 4 => b.stepRollback mid force
  | _ => (.ok, b)

/-- TXN_TIMEOUT: a host's transaction with no pending commit reaches its timeout (R498). -/
def Block.stepTxnTimeout (b : Block) : Block :=
  match b.txn.owner with
  | none => b
  | some o =>
    if o < 2 ∧ b.txn.timeout ≠ 0 ∧ b.txn.pending.isNone ∧ b.txn.beganAt + msec b.txn.timeout ≤ b.now then b.rollbackTxn 2 else b

/-! ## Commits (R497, R504 to R506) -/

/-- Apply one entry: a register's S-class fields, or the staged bits of a table's bytes (R497, R519). -/
def Block.applyEntry (b : Block) (e : JournalEntry) : Block :=
  match e with
  | .register idx v => (stagedFields idx).foldl (fun b f => b.set f (f.get v)) b
  | .table a bs => { b with mem := (bs.zipIdx).foldl (fun m p =>
      let k := BitVec.ofNat 8 (stagedMask (a + p.2))
      if k = 0#8 then m else Mem.write 0#8 m (a + p.2) ((Mem.read 0#8 m (a + p.2) &&& ~~~ k) ||| (p.1 &&& k))) b.mem }
  | .raw _ => b

/-- An entry writes DUTY_CMD of lamp channel `k` (R436). -/
def JournalEntry.writesDuty (e : JournalEntry) (k : Nat) : Bool :=
  match e with
  | .table a bs => decide (a < 0x00924006 + 256 * k) && decide (0x00924004 + 256 * k < a + bs.length)
  | .register _ _ => false
  | .raw _ => false

/-- The lamp channels take a commit: DUTY_CMD requests, and channels that it disables (R436, R458). -/
def Block.lampCommit (entries : List JournalEntry) (before b : Block) : Block :=
  (List.range 8).foldl (fun b k =>
    let b := if (entries.any (·.writesDuty k)) && !b.loopRuns k then b.lampRequest k (b.lampParam k 4 2 % 4096) else b
    if before.lampOn k && !b.lampOn k then b.disableLamp k else b) b

/-- The registers whose change aborts a Midnight cycle (R307). -/
def nightRegs : List Nat := [0x34, 0x32, 0x35, 0x36, 0x21]

/-- Resets of R329 of two commits in one window. -/
def mergeResets (x y : List (Nat × Bool)) : List (Nat × Bool) :=
  x.filter (fun p => !y.any (fun q => q.1 == p.1)) ++
    y.map (fun q => (q.1, q.2 || x.any (fun p => p.1 == q.1 && p.2)))

/-- The over-budget estimate at a commit (R506). -/
def Block.overBudget (b : Block) : Block :=
  let sum := costSum b.mem
  let over_ := fun d => decide (budgetOf (1, d) b.planPeriod < sum)
  let was := b.flag R.CFG_STATUS.OVER_FULL
  let est := min 0xFFFF ((sum + 1023) / 1024)
  let full := min 0xFFFF (budgetOf (1, 1) b.planPeriod / 1024)
  let b := ((b.setFlag R.CFG_STATUS.OVER_FULL (over_ 1)).setFlag R.CFG_STATUS.OVER_DIV2 (over_ 2)).setFlag R.CFG_STATUS.OVER_DIV4 (over_ 4)
  let b := (b.set R.CFG_BUDGET.ESTIMATE est).set R.CFG_BUDGET.B_FULL full
  if over_ 1 && !was then b.event 0x0905 (leBytes 2 est ++ leBytes 2 full) else b

/-- What follows from a commit that took the block from `before` (R307, R329, R409, R436, R506, R692). -/
def Block.afterCommit (before : Block) (entries : List JournalEntry) (b : Block) : Block :=
  let b := (Block.lampCommit entries before b).boostSync
  let b := if nightRegs.any (fun i => before.word i != b.word i) then b.configAbort else b
  let b := b.setZe (fun x => { x with resets := mergeResets x.resets (zoneResets before.mem b.mem) })
  let b := if b.flag R.VO_CTL.EN && !before.flag R.VO_CTL.EN then b.setOut (fun x => { x with started := false }) else b
  b.overBudget.outputRate

/-- One commit takes effect as a whole (R497). -/
def Block.commitEntries (b : Block) (entries : List JournalEntry) : Block :=
  Block.afterCommit b entries (entries.foldl Block.applyEntry b)

/-- The implicit commits of a window, in frame order (R505). -/
def Block.commitImplicit (b : Block) : Block :=
  let groups := b.txn.implicit
  groups.foldl Block.commitEntries (b.setTxn (fun x => { x with implicit := [] }))

/-- A pending commit is due in the window of tick `n` (R493, R496). -/
def Txn.due (x : Txn) (n : Nat) : Bool :=
  match x.pending with
  | none => false
  | some .next => true
  | some (.at t) => t == n

/-- The registers and byte ranges that a body writes (R515). -/
def bodyRegs (l : List JournalEntry) : List Nat :=
  (l.filterMap (fun e => match e with
    | .register i _ => some i
    | .table _ _ => none
    | .raw _ => none)).dedup

/-- The byte ranges that a body writes (R515). -/
def bodyRanges (l : List JournalEntry) : List (Nat × Nat) :=
  l.filterMap (fun e => match e with
    | .table a bs => some (a, bs.length)
    | .register _ _ => none
    | .raw _ => none)

/-- An overlay has committed: OVERLAY_COMMIT, the new undo list, and the reply (R513, R515, R559). -/
def Block.overlayCommitted (b : Block) (n : Nat) : Block :=
  let old := b.get R.CFG_OVERLAY.ACTIVE
  let new := b.overlay.id
  let b := (b.disarm.set R.CFG_OVERLAY.ACTIVE new).setOv (fun x => { x with
    undoRegs := bodyRegs x.body, undoBytes := bodyRanges x.body })
  let b := b.event 0x0907 (leBytes 1 old ++ leBytes 1 new ++ leBytes 4 n)
  let b := b.replyOpt b.seq.reply 0 [old + 256 * new, n]
  (b.setSeq (fun x => { x with reply := none })).toStep 6

/-- The transaction's commit in the window of tick `n` (R497, R513). -/
def Block.commitTxn (b : Block) (n : Nat) : Block :=
  match b.txn.owner with
  | none => b
  | some o =>
    if !b.txn.due n then b
    else
      let entries := b.txn.journal
      let used := b.journalUsed
      let b := (b.commitEntries entries).closeTxn
      let b := ((b.set R.CFG_LAST_TICK.TICK n).set R.CFG_STATUS.LAST_OUTCOME 1).inc R.CFG_COUNT.COMMITS
      if o = 2 then b.overlayCommitted n else b.event 0x0901 (leBytes 1 o ++ leBytes 4 n ++ leBytes 4 used)

/-- Step 3 of R28 in the window of tick `n`: implicit commits, then the transaction (R505). -/
def Block.commitWindow (b : Block) (n : Nat) : Block := b.commitImplicit.commitTxn n

/-! ## Meanings -/

/-- BEGIN (R490). -/
def execBeginTxn (dt : Nat) (port : Port) (s : State) : Host.Outcome State Fault Refusal :=
  s.runPort dt port (fun b => b.stepBegin port.mid)
/-- COMMIT_NEXT (R493). -/
def execCommitNext (dt : Nat) (port : Port) (s : State) : Host.Outcome State Fault Refusal :=
  s.runPort dt port (fun b => b.stepCommitNext port.mid)
/-- COMMIT_AT (R496). -/
def execCommitAt (dt : Nat) (port : Port) (s : State) : Host.Outcome State Fault Refusal :=
  s.runPort dt port (fun b => b.stepCommitAt port.mid)
/-- ROLLBACK (R494). -/
def execRollback (dt : Nat) (port : Port) (force : Bool) (s : State) : Host.Outcome State Fault Refusal :=
  s.runPort dt port (fun b => b.stepRollback port.mid force)
/-- TXN_TIMEOUT (R498). -/
def execTxnTimeout (dt : Nat) (s : State) : Host.Outcome State Fault Refusal := s.run dt Block.stepTxnTimeout

/-- The journal entry of a staged item, none for an item that is not staged (R487, R491). -/
def stagedEntry : StagedItem → Option JournalEntry
  | .register idx v => if stagedReg idx then some (.register idx v) else none
  | .table a v => if stagedWord a then some (.table a (leBytes 4 v.toNat)) else none

/-- STAGED_WRITE: one staged item of a port, as a frame of its own; an item that is not staged is no command of this row
(R491, R504). -/
def execStagedWrite (dt : Nat) (port : Port) (entry : StagedItem) (s : State) : Host.Outcome State Fault Refusal :=
  match stagedEntry entry with
  | some e => s.runPort dt port (fun b => let r := b.stage port.mid {} e; (r.1, r.2.2))
  | none => s.run dt id

end Sys2Proof.Machine
end

