-- ==== Sys2Proof/Machine/Overlay.lean ====
section
/-! DEFINITION. Overlays: records, the slots of the base pair, the apply routine O0 to O6 and its failures (chapter 15), and
the ends of line fills and of reads of the non-volatile store that it and other requesters wait for (chapters 18 and 19). -/

namespace Sys2Proof.Machine

/-! ## Records (R501, R509, R510) -/

/-- The entries of a record's body; a table entry that runs past the body takes the bytes there are. -/
def parseBody : Nat → List Byte → List JournalEntry
  | 0, _ => []
  | fuel + 1, bs =>
    if bs.isEmpty then []
    else match leField bs 0 1 with
      | 1 => .register (leField bs 1 1) (BitVec.ofNat 32 (leField bs 4 4)) :: parseBody fuel (bs.drop 8)
      | 2 =>
        let len := if leField bs 2 2 = 0 then 65528 else leField bs 2 2
        .table (leField bs 4 4) ((bs.drop 8).take len) :: parseBody fuel (bs.drop (8 + (len + 7) / 8 * 8))
      | _ => .raw (bs.take 8) :: parseBody fuel (bs.drop 8)

/-- A record's ID, FLAGS, BODY_LEN, SEQ and CRC (R510). -/
def recId (bs : List Byte) : Nat := leField bs 0 2
@[inherit_doc recId] def recFlags (bs : List Byte) : Nat := leField bs 2 2
@[inherit_doc recId] def recBody (bs : List Byte) : Nat := leField bs 4 4
@[inherit_doc recId] def recSeq (bs : List Byte) : Nat := leField bs 24 4
@[inherit_doc recId] def recCrc (bs : List Byte) : Nat := leField bs 28 4

/-- The CRC of a record checks (R510). -/
def recCrcOk (bs : List Byte) : Bool := crc32 (bs.take 28 ++ (bs.drop 32).take (recBody bs)) == recCrc bs

/-- The writes of a record's body. -/
def recEntries (bs : List Byte) : List JournalEntry :=
  let body := (bs.drop 32).take (recBody bs)
  parseBody body.length body

/-- SLOT[id] of the base pair: SRC, record length and address (R509). -/
structure Slot where
  src : Nat
  len : Nat
  addr : Nat
deriving DecidableEq, Repr

/-- The slot of an overlay id; an id above 63 has none and acts as absent. -/
def Block.slotOf (b : Block) (id : Nat) : Slot :=
  if 64 ≤ id then { src := 2, len := 0, addr := 0 }
  else
    let bs := (b.overlay.pair.drop (16 + 8 * id)).take 8
    { src := min 2 (leField bs 0 1), len := leField bs 2 2, addr := leField bs 4 4 }

/-- PAGES of the Trapeze pair of an overlay whose record has a length. -/
def slotPages (len : Nat) : Nat := (len + 8 + 63) / 64

/-- The directory entry of an overlay in the Woler image (R511). -/
def Block.overlayEntry (b : Block) (id : Nat) : Option DirEntry := b.brk.dir.find? (fun e => e.type == 6 && e.index == id)

/-! ## Failure and abort (R518, R519) -/

/-- The sequencer's read of a record is given up. -/
def Block.dropRead (b : Block) : Block :=
  let b := b.dropFills .sequencer
  match b.nv.op with
  | some op => if op.kind = .seqRead then b.setNv (fun x => { x with op := none }) else b
  | none => b

/-- The apply routine fails or is aborted: its journal is rolled back, OVERLAY_FAIL, and the reply (R519, R559). `own` says
whether the open transaction is its own. -/
def Block.overlayFail (b : Block) (cause : Nat) (own : Bool) : Block :=
  let id := b.overlay.want
  let b := b.dropRead
  let b := if own then b.rollbackTxn 4 else b
  let b := (b.set R.CFG_OVERLAY.LAST_FAIL cause).event 0x0908 (leBytes 1 id ++ leBytes 1 cause)
  if cause = 6 then b.finishRoutine .aborted 6 [] else b.finishRoutine .failed 5 [cause]

/-! ## The steps (R513) -/

/-- O0: APPLY_OVERLAY or ARM_OVERLAY is accepted; `tick` is none for the next window. -/
def Block.startApply (b : Block) (id : Nat) (tick : Option Nat) (arm : Bool) (dst : Option ReplyTo) : Block :=
  let id := if id = 0xFF then 0x7F else id
  let b := (b.startRoutine .overlay 1 dst).setOv (fun x => { x with want := id, stop := arm, tick := tick, got := [] })
  if arm then b else b.replyOpt dst 1 []

/-- An overlay is armed (R513). -/
def Block.overlayArmed (b : Block) : Bool := b.txn.owner == some 2 && b.get R.CFG_OVERLAY.STATE == 2

/-- COMMIT_ARMED: O5 and O6 on the armed overlay, refused when nothing is armed (R513, R559). -/
def Block.startCommitArmed (b : Block) (tick : Option Nat) (dst : Option ReplyTo) : Block :=
  if b.overlayArmed ∧ b.seq.routine.isNone then
    ((b.startRoutine .overlay 5 dst).setOv (fun x => { x with tick := tick })).replyOpt dst 1 []
  else b.replyOpt dst 4 []

/-- O1: BEGIN as SEQ (R490). -/
def Block.overlayO1 (b : Block) : Block :=
  if b.txn.owner.isSome then b.overlayFail 5 false
  else
    let b := (b.openTxn 2 0).set R.CFG_OVERLAY.STATE 1
    (b.setOv (fun x => { x with id := x.want, body := [], flags := 0, got := [] })).toStep 2

/-- The record of O2 has been read: its ID, length and CRC are checked, and O3 is next (R519). -/
def Block.overlayRecord (b : Block) (bs : List Byte) : Block :=
  if recId bs ≠ b.overlay.id then b.overlayFail 1 true
  else if !recCrcOk bs then b.overlayFail 2 true
  else (b.setOv (fun x => { x with body := recEntries bs, flags := recFlags bs, got := [] })).toStep 3

/-- What of a flash record has come: the header tells how much more is needed (R510, R519). -/
def Block.overlayHave (b : Block) (bs : List Byte) : Option Block :=
  if bs.length < 32 then none
  else if recId bs ≠ b.overlay.id then some (b.overlayFail 1 true)
  else if 65536 < recBody bs then some (b.overlayFail 4 true)
  else if bs.length < 32 + recBody bs then none
  else some (b.overlayRecord bs)

/-- The sequencer has a line fill waiting or on the wire. -/
def Block.seqFilling (b : Block) : Bool :=
  b.mp.fills.any (fun f => f.who == .sequencer) ||
  (match b.mp.wire with
   | some (.fill f) => f.who == .sequencer && !f.dead
   | _ => false)

/-- Ask for the next line of the record of an overlay in flash. -/
def Block.overlayLine (b : Block) (e : DirEntry) : Block :=
  b.askFill .sequencer (e.offset - e.offset % 256 + b.overlay.got.length)

/-- A line of the record came in O2. -/
def Block.overlayFill (b : Block) (data : List Byte) : Block :=
  if b.seq.routine ≠ some .overlay ∨ b.seq.step ≠ 2 then b
  else match b.overlayEntry b.overlay.id with
    | none => b.overlayFail 0 true
    | some e =>
      let b := b.setOv (fun x => { x with got := x.got ++ data })
      (b.overlayHave (b.overlay.got.drop (e.offset % 256))).getD (b.overlayLine e)

/-- The NV_TORN events of a pair: each copy found invalid while the other is valid (R641, R650). -/
def Block.tornCopies (b : Block) (addr pages : Nat) : List Nat :=
  let x := (b.copyInfo addr pages).valid
  let y := (b.copyInfo (addr + 64 * pages) pages).valid
  (if !x && y then [0] else []) ++ (if x && !y then [1] else [])

/-- The read of an overlay's own Trapeze pair is complete (R511, R519, R650). -/
def Block.overlayNvDone (b : Block) (op : NvOp) : Block :=
  let b := b.setNv (fun x => { x with op := none })
  if b.seq.routine ≠ some .overlay ∨ b.seq.step ≠ 2 then b
  else
    let cur := b.inForce op.addr op.pages
    let b := (b.tornCopies op.addr op.pages).foldl (fun b c => b.event 0x0A03 (leBytes 1 2 ++ leBytes 1 c)) b
    let b := b.nvTell (b.pairFound op.addr op.pages)
    match cur with
    | none => b.overlayFail 0 true
    | some (c, i) => b.overlayRecord (b.nvBytes (op.addr + 64 * op.pages * c) i.len)

/-- O2: the record of the id is read from flash or from the non-volatile store (R511); the base has an empty record. -/
def Block.overlayO2 (b : Block) : Block :=
  let id := b.overlay.id
  if id = 0x7F then (b.setOv (fun x => { x with body := [], flags := 0 })).toStep 3
  else
    let slot := b.slotOf id
    match slot.src with
    | 0 =>
      match b.overlayEntry id with
      | none => b.overlayFail 0 true
      | some e => if b.seqFilling then b else b.overlayLine e
    | 1 =>
      if b.nvBusy then b
      else b.setNv (fun x => { x with op := some { kind := .seqRead, startedAt := b.now, addr := slot.addr, pages := slotPages slot.len, len := slot.len } })
    | _ => b.overlayFail 0 true

/-- The parts of a byte range outside another. -/
def cutRange (r : Nat × Nat) (c : Nat × Nat) : List (Nat × Nat) :=
  let lo := r.1
  let hi := r.1 + r.2
  if c.1 + c.2 ≤ lo ∨ hi ≤ c.1 then [r]
  else (if lo < c.1 then [(lo, c.1 - lo)] else []) ++ (if c.1 + c.2 < hi then [(c.1 + c.2, hi - (c.1 + c.2))] else [])

/-- The parts of a list of byte ranges that a body does not write. -/
def uncovered (rs : List (Nat × Nat)) (body : List (Nat × Nat)) : List (Nat × Nat) :=
  body.foldl (fun rs c => rs.flatMap (fun r => cutRange r c)) rs

/-- The revert entries of O3 (R515). -/
def Block.reverts (b : Block) : List JournalEntry :=
  let regs := bodyRegs b.overlay.body
  let ranges := uncovered b.overlay.undoBytes (bodyRanges b.overlay.body)
  ((b.overlay.undoRegs.filter (fun i => !regs.contains i)).map (fun i => JournalEntry.register i (b.overlay.baseRegs.getD i 0#32))) ++
    ranges.map (fun r => JournalEntry.table r.1 (Mem.readBytes 0#8 b.overlay.baseMem r.1 r.2))

/-- Journal entries of the sequencer, until one does not fit: none when the transaction is doomed by it (R503). -/
def fitEntries (l : List JournalEntry) : List JournalEntry → List JournalEntry × Bool
  | [] => (l, true)
  | e :: rest => if 65536 < journalSize l + e.size then (l, false) else fitEntries (l ++ [e]) rest

/-- O3 and O4: entries go to the journal, or the routine fails with OVERFLOW (R503, R513, R519). -/
def Block.overlayJournal (b : Block) (es : List JournalEntry) (next : Block → Block) : Block :=
  let r := fitEntries b.txn.journal es
  let b := b.setTxn (fun x => { x with journal := r.1 })
  if r.2 then next b else (b.doom 2).overlayFail 4 true

/-- O4 is done: OVERLAY_ARMED; ARM_OVERLAY ends here (R513, R559). -/
def Block.overlayArm (b : Block) : Block :=
  let used := b.journalUsed
  let n := b.txn.journal.length
  let b := ((b.set R.CFG_OVERLAY.ARMED b.overlay.id).set R.CFG_OVERLAY.STATE 2).event 0x0906
    (leBytes 1 b.overlay.id ++ leBytes 4 used ++ leBytes 2 n)
  if b.overlay.stop then b.finishRoutine .completed 0 [used, n] else b.toStep 5

/-- O5: the commit is asked for (R513). -/
def Block.overlayO5 (b : Block) : Block :=
  if b.txn.pending.isSome then b
  else
    let b := b.set R.CFG_OVERLAY.STATE 3
    match b.overlay.tick with
    | none => b.setTxn (fun x => { x with pending := some .next })
    | some t => b.pendAt t

/-- O6: the routine ends, and a record with FLAGS.MIDNIGHT requests a cycle, behind what already waits (R301, R513). -/
def Block.overlayO6 (b : Block) : Block :=
  let night := bitOf b.overlay.flags 0
  let b := b.endRoutine .completed
  if !night then b else if b.seqFree then b.beginMidnight 3 false none else b.hold (.midnight 3)

/-- One slice of the apply routine (R513, R580). -/
def Block.overlaySlice (b : Block) : Block :=
  match b.seq.step with
  | 1 => b.overlayO1
  | 2 => b.overlayO2
  | 3 => b.overlayJournal b.reverts (fun b => b.toStep 4)
  | 4 => b.overlayJournal b.overlay.body Block.overlayArm
  | 5 => b.overlayO5
  | 6 => b.overlayO6
  | _ => b

/-- ABORT_ROUTINE on the apply routine: O1 to O4 roll back; at or after O5 it has no effect (R518). -/
def Block.abortOverlay (b : Block) : Block := if b.seq.step < 5 then b.overlayFail 6 (1 < b.seq.step) else b

/-! ## Ends of fills and of reads of the store -/

/-- A line fill ends with its data: it goes to its requester, unless that no longer wants it (R478, R261, R513, R599). -/
def Block.stepFillDone (b : Block) (data : List Byte) : Block :=
  match b.mp.wire with
  | some (.fill f) =>
    if b.now < b.mp.wireEnd then b
    else
      let b := b.wireFree
      let data := padTo 256 0xFF#8 data
      match f.who with
      | .portA => b.portFill .a f data
      | .portB => b.portFill .b f data
      | .bracket => if f.dead then b else b.bracketFill data
      | .sequencer => if f.dead then b else b.overlayFill data
  | _ => b

/-- A fill ends with MP_TIMEOUT: its requester learns of it (R607, R608, R283, R519). -/
def Block.fillTimedOut (b : Block) (f : Fill) : Block :=
  let b := { b with mp := { b.mp with fills := b.mp.fills.erase f } }
  match f.who with
  | .portA => b.portTimeout .a
  | .portB => b.portTimeout .b
  | .bracket => b.loadFail 1
  | .sequencer => b.overlayFail 3 true

/-- Every request on a select that refuses requests ends at once, with no event (R607). -/
def Block.endRefused (b : Block) : Block :=
  let b := b.mp.fills.foldl (fun b f => if b.refuses (selOf f.addr) then b.fillTimedOut f else b) b
  match b.mp.command with
  | some (_, sel, _) => if b.refuses sel then b.setMp (fun x => { x with command := none }) else b
  | none => b

/-- MP_FILL_TIMEOUT: the oldest fill, or else the command, that has not started FILL_MS after its request ends (R607). -/
def Block.stepFillTimeout (b : Block) : Block :=
  let b := b.endRefused
  match b.lateFill (fun b f => b.overdue f) with
  | some f => (b.fillEvent (selOf f.addr) (flashOf f.addr) f.who.mid).fillTimedOut f
  | none =>
    match b.mp.command with
    | some (_, sel, addr) =>
      if b.mp.commandAt + b.fillLimit ≤ b.now then
        (b.setMp (fun x => { x with command := none })).fillEvent sel addr b.mp.commandMid
      else b
    | none => b

/-- NV_OP_DONE: a read of the store completes (R629, R633, R511). -/
def Block.stepNvOpDone (b : Block) : Block :=
  match b.nv.op with
  | none => b
  | some op =>
    match op.kind with
    | .trapezeRead => b.trapezeReadDone op
    | .carouselRead => b.carouselReadDone op
    | .seqRead => b.overlayNvDone op
    | .window => b
    | .trapezeWrite => b
    | .carouselPush => b
    | .segment => b

/-! ## Meanings -/

/-- LINE_FILL_DONE (R599). -/
def execLineFillDone (dt : Nat) (data : List Byte) (s : State) : Host.Outcome State Fault Refusal :=
  s.run dt (fun b => (b.settleWire.stepFillDone data).endRefused)
/-- MP_FILL_TIMEOUT (R607). -/
def execMpFillTimeout (dt : Nat) (s : State) : Host.Outcome State Fault Refusal := s.run dt (fun b => b.settleWire.stepFillTimeout)
/-- NV_OP_DONE (R629). -/
def execNvOpDone (dt : Nat) (s : State) : Host.Outcome State Fault Refusal := s.run dt (fun b => b.stepNvOpDone.flushStart)

end Sys2Proof.Machine
end

