-- ==== Sys2Proof/Machine/Flags.lean ====
section
/-! DEFINITION. What a read returns: the live fields of the direct registers (R19), the per-port registers, and the views of
the internal address map (R43). -/

namespace Sys2Proof.Machine

/-! ## Small readings -/

/-- A field with the value it reads. -/
abbrev Live := RegField × Nat

/-- A flag as a live field. -/
def live (f : RegField) (v : Bool) : Live := (f, bit v)

/-- The result codes (R468). -/
def HostResult.code : HostResult → Nat
  | .ok => 0
  | .nvBusy => 1
  | .badIndex => 2
  | .txnRefused => 3
  | .windowFault => 4
  | .mpTimeout => 5
  | .locked => 6
  | .frameRejected => 7

/-- Ticks are being issued: from tick 0 until Dusk step 7, and not in NAP (R139, R140). -/
def Block.ticking (b : Block) : Bool := b.clock.ticked && (b.power.mode == .run || b.power.mode == .idle)

/-- The tick source in force: 3 acts as 0 (R142). -/
def Block.tickSource (b : Block) : Nat := let s := b.get R.TB_CTL.TICK_SRC; if s = 3 then 0 else s

/-- The block of BIAS_OFF_CAL (R200). -/
def Block.biasOffCal (b : Block) : Bool :=
  b.get R.FP_BIAS.LEVEL != b.get R.FP_BIAS.FACTORY_LEVEL || b.get R.FP_ROWPHASE.BIAS_WIDTH != b.get R.FP_ROWPHASE.FACTORY_WIDTH ||
  b.flag R.FP_STATUS.BIAS_CLIP

/-- The window in force: first row and height after clipping (R192). -/
def Block.windowNow (b : Block) : Nat × Nat :=
  let a := windowAsked (b.get R.FP_WIN.Y0_8) (b.get R.FP_WIN.H_8)
  (a.1, min a.2 (768 - a.1))

/-- The window asked for is clipped (R192). -/
def Block.winClipped (b : Block) : Bool :=
  let a := windowAsked (b.get R.FP_WIN.Y0_8) (b.get R.FP_WIN.H_8)
  decide (768 < a.1 + a.2)

/-- Row slots of a frame and their time in µs, rounded up (R218). -/
def Block.rowSlots (b : Block) : Nat := b.windowNow.2 + 12
@[inherit_doc Block.rowSlots] def Block.readMicros (b : Block) : Nat := (b.rowSlots * rowTime (b.get R.FP_ROWCFG.ROW_TIME) + 49) / 50

/-- The code of the shadow's state (R263). -/
def ShadowState.code : ShadowState → Nat
  | .idle => 0
  | .loading => 1
  | .ready => 2
  | .inForce => 2

/-- The code of what the shadow holds (R286). -/
def ShadowContent.code : ShadowContent → Nat
  | .nothing => 0
  | .gain => 1
  | .offsets => 2

/-- The code of how a routine ended (R589). -/
def RoutineEnd.code : RoutineEnd → Nat
  | .none => 0
  | .completed => 1
  | .aborted => 2
  | .failed => 3
  | .abandoned => 4

/-- The code of the running routine, 0 for none (R583). -/
def Block.routineCode (b : Block) : Nat := match b.seq.routine with
  | some k => k.code
  | none => 0

/-- The highest eligible source of a target and its priority, 0 and 0 for none (R572). -/
def Block.nextSource (b : Block) (target run : Nat) : Nat × Nat := (b.highest target run).getD (0, 0)

/-- IC_RUN_x (R589). -/
def Block.runFields (b : Block) (target : Nat) (n : Nest) (r d s : RegField) : List Live :=
  [(r, n.running), (d, n.stack.length), (s, (b.nextSource target n.running).1)]

/-- The nest of a host port. -/
def Nests.port (n : Nests) (p : Port) : Nest := match p with
  | .a => n.a
  | .b => n.b

/-- The bits 0 to 6 of a booth entry as MB_BOOTH shows them (R564). -/
def BoothEntry.byte (e : BoothEntry) : Nat := e.midA % 8 + 8 * (e.midB % 8) + 64 * bit e.en

/-- Words waiting for a MID on channel `c`, 0 when it is not bound to it. -/
def Block.rxWords (b : Block) (c mid : Nat) : Nat := if (b.otherEnd c mid).isSome then (b.toward c mid).length else 0

/-- Free words toward the other end of channel `c`, 0 when it is not bound to the MID (R564). -/
def Block.txSpace (b : Block) (c mid : Nat) : Nat := match b.otherEnd c mid with
  | some o => 8 - (b.toward c o).length
  | none => 0

/-- The four booth entries that a booth register shows, as one word. -/
def Block.boothWord (b : Block) (lo : Nat) : Nat :=
  ((List.range 4).map (fun i => (b.booth (lo + i)).byte * 2 ^ (8 * i))).sum

/-- A whole word as a field. -/
def whole (idx : Nat) : RegField := ⟨idx, 0, 32, .ro, .L, 0⟩

/-- The operation in progress in the write path is an erase (R612). -/
def Block.erasing (b : Block) : Bool :=
  let isErase : WriteOp → Bool := fun w => match w with
    | .erase _ _ _ => true
    | .program _ _ => false
  (b.mp.queued.map isErase).getD false || (b.mp.writing.map (fun w => isErase w.op)).getD false ||
  (match b.mp.wire with
   | some (.write w) => isErase w
   | _ => false)

/-- Fills outstanding on select 0 (R612). -/
def Block.fillsS0 (b : Block) : Nat :=
  (b.mp.fills.filter (fun f => selOf f.addr == 0)).length +
  (match b.mp.wire with
   | some (.fill f) => if selOf f.addr = 0 then 1 else 0
   | _ => 0)

/-- VD_PHASE of four bits a channel, from channel `lo` (R427). -/
def Block.phaseWord (b : Block) (lo : Nat) : Nat := ((List.range 8).map (fun i => b.phaseCode (lo + i) * 2 ^ (4 * i))).sum

/-- The fields of SYS, PW and TH registers that are read live (R486, R113, R678). -/
def Block.liveSys (b : Block) (p : Port) (idx : Nat) : List Live :=
  let x := b.port p
  match idx with
  | 0x01 => [(R.SYS_FW.ROM_VER, Config.romVersion)]
  | 0x04 => [(R.SYS_STATUS.TXN_OWNER, b.txn.owner.getD 0), live R.SYS_STATUS.TXN_OPEN b.txn.owner.isSome,
             live R.SYS_STATUS.MB_LOCKED b.mail.locked, (R.SYS_STATUS.ROUTINE, b.routineCode)]
  | 0x07 => [(R.SYS_PORT.REJECTED, x.rejected), (R.SYS_PORT.NOT_ACCEPTED, x.notAccepted),
             (R.SYS_PORT.LAST_RESULT, x.lastResult.code), live R.SYS_PORT.MODE3 x.mode3, (R.SYS_PORT.MID, p.mid)]
  | 0x08 => [(whole idx, x.winAddr)]
  | 0x09 => [(R.WIN_CTL.INC, x.winInc)]
  | 0x0B => [live R.WIN_STATUS.RA_READY x.ra.ready, live R.WIN_STATUS.RA_FILLING x.ra.filling, live R.WIN_STATUS.RA_MISS x.raMiss,
             live R.WIN_STATUS.FAULT x.winFault, (R.WIN_STATUS.RA_LINE, x.ra.line)]
  | 0x0C => [(R.WIN_FAULT_ADDR.ADDR, x.winFaultAddr)]
  | 0x15 => [(R.PW_RAIL.VALID, ((b.power.valid ++ b.power.restoring).map (fun r => 2 ^ Rail.bit r)).sum)]
  | 0x1D =>
    let ok := decide (x.thSite < 12) && b.thermal.sampled
    [(R.TH_SITE.SEL, x.thSite), (R.TH_SITE.TEMP, if ok then unsigned 13 (b.site x.thSite) else 0),
     live R.TH_SITE.VALID (ok && !b.thermal.excluded.contains x.thSite)]
  | _ => []

/-- The fields of TB, FP and CP registers that are read live (R142, R185, R218, R252, R286, R316). -/
def Block.liveImage (b : Block) (idx : Nat) : List Live :=
  match idx with
  | 0x23 => [(R.TB_STATUS.SRC, b.tickSource), live R.TB_STATUS.RUNNING b.ticking]
  | 0x26 => [(R.TB_PT_LO.PT_LO, b.clock.captured.toNat)]
  | 0x27 => [(R.TB_PT_HI.PT_HI, b.clock.captured.toNat / 2 ^ 32)]
  | 0x28 => [(R.TB_WP_CNT.CNT, b.clock.capturedWp.toNat / 256)]
  | 0x29 => [(R.TB_WP_SUB.SUB, b.clock.capturedWp.toNat)]
  | 0x31 => [live R.FP_STATUS.BIAS_ON b.power.bias, live R.FP_STATUS.WIN_CLIP b.winClipped, live R.FP_STATUS.BIAS_OFF_CAL (b.power.filled && b.biasOffCal)]
  | 0x38 => [(R.FP_ROWS.N, b.rowSlots), (R.FP_ROWS.READ_US, b.readMicros)]
  | 0x41 => [(R.CP_STATUS.SHADOW, b.brk.shadow.code)]
  | 0x49 => [(R.CP_BRK_STATUS.CONTENT, b.brk.content.code), live R.CP_BRK_STATUS.COPYBACK b.brk.copyback,
             live R.CP_BRK_STATUS.FORCED b.brk.forced.isSome, (R.CP_BRK_STATUS.TARGET, b.brk.target),
             live R.CP_BRK_STATUS.LATE b.brk.late, live R.CP_BRK_STATUS.REC_VALID b.brk.recValid]
  | 0x4A => [(R.CP_BRK_RANGE.T_LO, unsigned 16 (b.brk.tLo b.bracket)), (R.CP_BRK_RANGE.T_HI, unsigned 16 (b.brk.tHi b.bracket))]
  | 0x4D => [(R.CP_SHT_STATUS.ON_2S, min 511 (b.onTime / msec 1))]
  | 0x4F => [(R.CP_MN_STATUS.MIN_SINCE, b.minSince)]
  | 0x51 => [live R.ZN_STATUS.RUNNING b.img.cpRun]
  | _ => []

/-- The fields of AS, VD, LD and CFG registers that are read live (R379, R427, R458, R522). -/
def Block.liveDrive (b : Block) (idx : Nat) : List Live :=
  let x := b.valves.boost
  match idx with
  | 0x61 => [live R.AS_STATUS.ADMITTING b.sched.admitting, live R.AS_STATUS.FULL b.tableFull,
             live R.AS_STATUS.HELD (b.sched.table.any (fun p => p.2.state == .held))]
  | 0x62 => [(R.AS_COUNT.ARMED, b.sched.table.length), (R.AS_COUNT.PEAK, b.sched.peak)]
  | 0x72 => [(R.VD_BST_STATUS.VBOOST, min 1023 x.vboost), (R.VD_BST_STATUS.VBAT, min 1023 x.vbat), live R.VD_BST_STATUS.RUNNING x.running,
             live R.VD_BST_STATUS.OV_STOP x.ovStop, live R.VD_BST_STATUS.SOFTSTART b.softStart,
             live R.VD_BST_STATUS.UV_ARMED x.uvArmed]
  | 0x74 => [(R.VD_STATUS.BUSY, packBits (b.valves.banks.toList.map (·.owner.isSome))),
             (R.VD_STATUS.WAITING, packBits (b.valves.banks.toList.map (!·.waiting.isEmpty))),
             (R.VD_STATUS.OWNER, ((b.valves.banks.toList.zipIdx).map (fun k => (k.1.owner.getD 0) * 16 ^ k.2)).sum),
             (R.VD_STATUS.FALLBACK, packBits (b.valves.banks.toList.map (·.fallback)))]
  | 0x75 => [(whole idx, b.phaseWord 0)]
  | 0x76 => [(whole idx, b.phaseWord 8)]
  | 0x78 => [(R.VD_TRIP.THERMAL, packBits (b.valves.chans.toList.map (·.tripped)))]
  | 0x84 => [(R.LD_STATUS.INRUSH, packBits (b.lamps.chans.toList.map (·.state == .inrush))),
             (R.LD_STATUS.PAUSED, packBits (b.lamps.chans.toList.map (·.state == .paused))),
             (R.LD_STATUS.SHORT_LE_LIM, packBits ((List.range 8).map (fun k => b.power.d2 && decide (b.lampParam k 16 2 ≤ b.lampParam k 14 2)))),
             live R.LD_STATUS.RUNNING b.lamps.running, live R.LD_STATUS.LIMITED (decide (b.get R.LD_FACTOR.F < 65536))]
  | 0x93 => [live R.CFG_STATUS.OPEN b.txn.owner.isSome, (R.CFG_STATUS.OWNER, b.txn.owner.getD 0),
             live R.CFG_STATUS.PENDING b.txn.pending.isSome, live R.CFG_STATUS.DOOMED b.txn.doomed]
  | 0x94 => [(R.CFG_JOURNAL.USED, b.journalUsed), (R.CFG_JOURNAL.ENTRIES, b.txn.journal.length)]
  | _ => []

/-- The fields of RG, MB and IC registers that are read live (R564, R589). -/
def Block.liveShared (b : Block) (n : Nests) (p : Port) (idx : Nat) : List Live :=
  let x := b.port p
  let r := b.ring x.rgSel
  let ch := b.chan x.mbCh
  let v := ch.view p.mid
  let s := b.irq.getD x.icSel ⟨0, 0, false⟩
  let g := 32 * (x.icSel / 32)
  match idx with
  | 0xA0 => [(R.RG_SEL.RING, x.rgSel)]
  | 0xA1 => [(R.RG_BASE.BASE, r.base)]
  | 0xA2 => [(whole idx, r.cfg.toNat)]
  | 0xA3 => [(R.RG_HEAD.INDEX, r.head)]
  | 0xA4 => [(R.RG_TAIL.INDEX, r.tail)]
  | 0xA5 => [(R.RG_STATUS.COUNT, r.count), live R.RG_STATUS.FULL r.full, live R.RG_STATUS.LOST_PENDING (r.pendLost != 0),
             live R.RG_STATUS.DROPPED r.dropped, live R.RG_STATUS.CFG_ERR r.cfgErr]
  | 0xA6 => [(R.RG_SEQ.SEQ, r.seq)]
  | 0xA7 => [(R.RG_LOST.LOST, r.lost)]
  | 0xA8 => [(R.RG_ENABLED.MAP, packBits (b.rings.toList.map Ring.en))]
  | 0xA9 => [(R.RG_NONEMPTY.MAP, packBits (b.rings.toList.map (fun r => r.en && r.count != 0)))]
  | 0xB0 => [(whole idx, b.boothWord 0)]
  | 0xB1 => [(whole idx, b.boothWord 4)]
  | 0xB2 => [live R.MB_CTL.EDIT b.mail.edit, live R.MB_CTL.LOCKED b.mail.locked, (R.MB_CTL.EDITOR, b.mail.editor)]
  | 0xB3 => [(R.MB_CH.CH, x.mbCh)]
  | 0xB5 => [(R.MB_RX.WORD, if (b.otherEnd x.mbCh p.mid).isSome then ((b.toward x.mbCh p.mid).headD 0#32).toNat else 0)]
  | 0xB6 => [(R.MB_QSTAT.RX_WORDS, b.rxWords x.mbCh p.mid), (R.MB_QSTAT.TX_SPACE, b.txSpace x.mbCh p.mid), live R.MB_QSTAT.FULL v.full,
             live R.MB_QSTAT.ABORTED v.aborted, (R.MB_QSTAT.DISCARDED, v.discarded),
             live R.MB_QSTAT.BOUND (b.otherEnd x.mbCh p.mid).isSome, live R.MB_QSTAT.ERR v.err,
             (R.MB_QSTAT.OTHER, (b.otherEnd x.mbCh p.mid).getD 0)]
  | 0xB7 => [(R.MB_DB.DB, match p with
      | .a => b.dbA.toNat
      | .b => b.dbB.toNat)]
  | 0xB8 => [(R.MB_DB_MASK.MASK, x.dbMask)]
  | 0xB9 => [(R.MB_DB_SEQ.DB, b.dbSeq.toNat)]
  | 0xBC => [(R.MB_PENDING.RX, packBits ((List.range 8).map (fun c => b.rxWords c p.mid != 0))),
             (R.MB_PENDING.SPACE, packBits ((List.range 8).map (fun c => b.txSpace c p.mid != 0)))]
  | 0xC1 => [(R.IC_SEL.SRC, x.icSel)]
  | 0xC2 => [(R.IC_CFG.PRIO, s.prio), (R.IC_CFG.TARGET, s.target), live R.IC_CFG.PENDING s.pending]
  | 0xC3 => [(R.IC_PEND.PEND, packBits ((List.range 32).map (fun i => (b.irq.getD (g + i) ⟨0, 0, false⟩).pending)))]
  | 0xC4 => let k := b.nextSource 0 n.a.running; [(R.IC_ACK_A.SRC, k.1), (R.IC_ACK_A.PRIO, k.2)]
  | 0xC6 => let k := b.nextSource 1 n.b.running; [(R.IC_ACK_B.SRC, k.1), (R.IC_ACK_B.PRIO, k.2)]
  | 0xC8 => b.runFields 0 n.a R.IC_RUN_A.RUNNING R.IC_RUN_A.DEPTH R.IC_RUN_A.NEXT
  | 0xC9 => b.runFields 1 n.b R.IC_RUN_B.RUNNING R.IC_RUN_B.DEPTH R.IC_RUN_B.NEXT
  | 0xCA => b.runFields 2 n.seq R.IC_RUN_SEQ.RUNNING R.IC_RUN_SEQ.DEPTH R.IC_RUN_SEQ.NEXT
  | 0xCC => [(R.IC_ROUTINE.ROUTINE, b.routineCode), (R.IC_ROUTINE.STEP, b.seq.step),
             live R.IC_ROUTINE.ABORT_PENDING b.abortPending, (R.IC_ROUTINE.LAST_ROUTINE, b.seq.lastRoutine),
             (R.IC_ROUTINE.LAST_END, b.seq.lastEnd.code)]
  | _ => []

/-- The fields of MP, NV and VO registers that are read live (R612, R650, R700). -/
def Block.liveStore (b : Block) (idx : Nat) : List Live :=
  match idx with
  | 0xD4 => [live R.MP_STATUS.WIRE b.mp.wire.isSome, live R.MP_STATUS.WBUSY b.writeBusy, live R.MP_STATUS.WAITING b.mp.waiting.isSome,
             live R.MP_STATUS.ERASING b.erasing, live R.MP_STATUS.CMD_BUSY b.cmdBusy, (R.MP_STATUS.FILLS_S0, b.fillsS0)]
  | 0xD8 => [live R.MP_SW.BUSY b.swBusy]
  | 0xE0 => [live R.NV_STATUS.BUSY b.nvBusy, (R.NV_STATUS.OP, match b.nv.op with
      | some op => op.kind.code
      | none => 0)]
  | 0xEC => [(R.NV_LOG.HELD, b.nv.log.length), (R.NV_LOG.UNSAVED, b.unsaved.length)]
  | 0xED => [(R.NV_SAVE.SEG_SEQ, match b.newestSegment with
      | some x => x.seq
      | none => 0)]
  | 0xF4 => [live R.VO_STATUS.RUNNING b.outputRuns, live R.VO_STATUS.STREAMING (!b.out.opened.isEmpty),
             live R.VO_STATUS.PHY_LOST (!b.power.valid.contains .vddphy)]
  | _ => []

/-- The live fields of a register. -/
def Block.liveFields (b : Block) (n : Nests) (p : Port) (idx : Nat) : List Live :=
  if idx < 0x20 then b.liveSys p idx
  else if idx < 0x60 then b.liveImage idx
  else if idx < 0xA0 then b.liveDrive idx
  else if idx < 0xD0 then b.liveShared n p idx
  else b.liveStore idx

/-- The stored part of a register word; a per-port register is all live. -/
def Block.storedWord (b : Block) (idx : Nat) : Word := if perPort idx then 0#32 else b.word idx

/-- A read of register `idx` by a port: the live value (R19). WIN_DATA is a window access and is not read here. -/
def Block.readReg (b : Block) (n : Nests) (p : Port) (idx : Nat) : Word :=
  (b.liveFields n p idx).foldl (fun w f => f.1.put w f.2) (b.storedWord idx)

/-! ## The views of the internal address map (R43, R253, R381, R565) -/

/-- The regions of the map. -/
inductive Region
  | pixels | shadow | bref | staged | work | ring | results | armed | journal | booth | vendor | store | interrupt | flash0 | flash1 | absent
deriving DecidableEq, Repr

/-- The region of an address (R43, R44, R253). -/
def regionOf (a : Nat) : Region :=
  if a < 0x00600000 then .pixels
  else if a < 0x00780000 then .shadow
  else if a < 0x00780600 then .bref
  else if a < 0x00780800 then .absent
  else if a < 0x00781000 then .bref
  else if a < 0x00784000 then (if stagedTable a = 0 then .absent else .staged)
  else if a < 0x00800000 then .work
  else if a < 0x00880000 then .ring
  else if a < 0x00900000 then .absent
  else if a < 0x00910000 then .staged
  else if a < 0x00918000 then .results
  else if a < 0x0091C000 then .armed
  else if a < 0x00920000 then .absent
  else if a < 0x00930000 then (if stagedTable a = 0 then .absent else .staged)
  else if a < 0x00940000 then .journal
  else if a < 0x00941000 then .booth
  else if a < 0x00A00000 then .absent
  else if a < 0x00A04000 then .vendor
  else if a < 0x00A40000 then .store
  else if a = 0x00C00000 then .interrupt
  else if a < 0x10000000 then .absent
  else if a < 0x14000000 then .flash0
  else if a < 0x18000000 then .flash1
  else .absent

/-- STATE of an armed-table entry (R381). -/
def EntryState.code : EntryState → Nat
  | .armed => 1
  | .held => 2
  | .leadin => 3

/-- The 32 bytes of an armed-table entry in its view (R381). -/
def ArmedEntry.view (e : ArmedEntry) : List Byte :=
  let note := isNote e.type
  leBytes 1 e.state.code ++
  leBytes 1 (e.type + 8 * bit e.baseWp + 16 * bit e.tentative + 32 * bit e.unconf + 64 * bit e.repArmed + 128 * bit e.repFired) ++
  leBytes 2 e.tag ++ leBytes 1 e.channel ++ leBytes 1 e.profile ++ leBytes 1 e.rsp ++ leBytes 1 (e.k + 16 * e.on) ++
  leBytes 6 (if e.state = .held then 0 else e.tf.toNat) ++ leBytes 2 e.zone ++
  (if note then padTo 2 0#8 e.note else leBytes 2 e.leadUs) ++ leBytes 1 e.confirms ++ leBytes 1 e.mid ++
  (if note then padTo 4 0#8 (e.note.drop 4) else leBytes 4 e.width) ++ leBytes 5 (if e.baseWp then e.wpt.toNat else 0) ++ leBytes 3 e.seq

/-- 32 bytes of the armed-table view (R381). -/
def Block.armedView (b : Block) (i : Nat) : List Byte := match b.entry i with
  | some e => e.view
  | none => List.replicate 32 0#8

/-- One byte of the booth table and mailbox queue view (R565). -/
def Block.boothView (b : Block) (o : Nat) : List Byte :=
  if o < 0x20 then
    let c := o / 4
    let e := b.booth c
    let ch := b.chan c
    (leBytes 1 e.byte ++ leBytes 1 ch.aToB.length ++ leBytes 1 ch.bToA.length ++ leBytes 1 0)
  else if o < 0x100 ∨ 0x300 ≤ o then leBytes 4 0
  else
    let ch := b.chan ((o - 0x100) / 0x40)
    let i := (o - 0x100) % 0x40 / 4
    leBytes 4 (if i < 8 then ch.aToB.getD i 0#32 else ch.bToA.getD (i - 8) 0#32).toNat

/-- The live bytes of a valve channel's parameters, from byte 0x80 (R429). -/
def Block.valveView (b : Block) (n : Nat) : List Byte :=
  let c := b.valve n
  leBytes 2 (unsigned 16 (Config.quantise (16 * c.temp))) ++ leBytes 2 (unsigned 16 c.iMeas) ++
  leBytes 4 (if c.phase = .boost ∨ c.phase = .hold then (b.now - c.boostAt) / 1000 else 0) ++ leBytes 1 c.cause ++ leBytes 1 (b.phaseCode n) ++
  leBytes 2 (unsigned 16 (Config.quantise c.debt))

/-- STATE of a lamp channel (R459). -/
def LampState.code : LampState → Nat
  | .off => 0
  | .inrush => 1
  | .paused => 2
  | .on => 3
  | .fault => 4

/-- The live bytes of a lamp channel's parameters, from byte 0x80 (R459). -/
def Block.lampView (b : Block) (k : Nat) : List Byte :=
  let c := b.lamp k
  leBytes 2 c.req ++ leBytes 2 c.applied ++ leBytes 2 c.iMeas ++ leBytes 2 c.resCode ++
  leBytes 1 (bit c.resValid + 2 * c.state.code) ++ leBytes 1 c.cause ++ leBytes 2 c.ceil ++
  leBytes 2 (unsigned 16 (Config.quantise c.debt)) ++ leBytes 2 c.limitCyc ++ leBytes 2 c.refused ++ leBytes 2 c.replaced

/-- Four bytes of a staged table: reserved and live bytes as their chapters show them (R12, R429, R459, R380). -/
def Block.stagedView (b : Block) (a : Nat) : List Byte :=
  match stagedTable a with
  | 4 =>
    let o := a % 32
    let note := isNote (b.le (a - o + 1) 1 % 8)
    let keep := fun i => note || !(decide (i = 18) || decide (i = 19) || decide (24 ≤ i))
    (List.range 4).map (fun i => if keep (o + i) then Mem.read 0#8 b.mem (a + i) else 0#8)
  | 6 =>
    let o := a % 256
    if 0x80 ≤ o then padTo 4 0#8 ((b.valveView ((a - 0x00923000) / 256)).drop (o - 0x80)) else b.bytes a 4
  | 7 =>
    let o := a % 256
    if 0x80 ≤ o ∧ o < 0xC0 then padTo 4 0#8 ((b.lampView ((a - 0x00924000) / 256)).drop (o - 0x80)) else b.bytes a 4
  | _ => b.bytes a 4

/-- The four bytes at an aligned address of the ranges that answer at once; the working area's contents are not laid down,
so they are free values (R253). -/
def Block.viewBytes (b : Block) (a : Nat) : List Byte :=
  match regionOf a with
  | .pixels => b.bytes a 4
  | .shadow => b.bytes a 4
  | .bref => b.bytes a 4
  | .staged => b.stagedView a
  | .work => (b.freeBytes 4).1
  | .ring => b.bytes a 4
  | .results => ((b.resultBytes ((a - 0x00910000) / 32)).drop (a % 32)).take 4
  | .armed => ((b.armedView ((a - 0x00918000) / 32)).drop (a % 32)).take 4
  | .journal => b.journalBytes (a - 0x00930000) 4
  | .booth => b.boothView (a - 0x00940000)
  | .vendor => (b.freeBytes 4).1
  | .store => b.nvBytes (a - 0x00A00000) 4
  | .interrupt => leBytes 4 0
  | .flash0 => leBytes 4 0
  | .flash1 => leBytes 4 0
  | .absent => leBytes 4 0

end Sys2Proof.Machine
end

