-- ==== Sys2Proof/Machine/Operands.lean ====
section
/-! DEFINITION. What an access does: writes to direct registers by access code and class (R11 to R19), to the views of the
rings, mailboxes and interrupt controller, window items (R475, R43), and the clearing of read-clear fields (R474). -/

namespace Sys2Proof.Machine

/-! ## Classes (R16 to R18) -/

/-- The memory port counts as running for its X- and U-class fields: something is queued or in progress (chapter 18). -/
def Block.portActive (b : Block) : Bool :=
  b.mp.wire.isSome || b.writeBusy || b.cmdBusy || b.swBusy || !b.mp.fills.isEmpty

/-- The block that owns a register's X- and U-class fields runs. -/
def Block.ownerRuns (b : Block) (idx : Nat) : Bool :=
  match idx with
  | 0x2A => b.flag R.TB_ENC_CTL.EN
  | 0x2E => b.tickSource == 1 && b.ticking
  | 0x30 => b.img.reading
  | 0x33 => b.img.reading
  | 0x71 => b.valves.running
  | 0x81 => b.lamps.running
  | 0xD0 => b.portActive
  | 0xD2 => b.portActive
  | 0xF0 => b.outputRuns
  | 0xF1 => b.outputRuns
  | 0xF2 => b.outputRuns
  | 0xF3 => b.outputRuns
  | _ => false

/-- The case of the catalogue that a write of a register with U-class fields is (R219, R611, R699). -/
def undefWrite (idx : Nat) : Option UndefCase :=
  match idx with
  | 0x33 => some .rowPhase
  | 0xD0 => some .mpDiv
  | 0xF1 => some .voLanes
  | _ => none

/-- One field of a word written at once, by access code and class; S-class fields wait (R11, R16, R488). -/
def Block.putField (locked : Bool) (w : Word) (acc : HostResult × Block) (f : RegField) : HostResult × Block :=
  match f.acc with
  | .rw =>
    if f.cls == .S then acc
    else if locked && f.cls == .X then (if f.get w = acc.2.get f then acc else (.locked, acc.2))
    else (acc.1, acc.2.set f (f.get w))
  | .w1c => (acc.1, acc.2.set f (f.get (acc.2.word f.idx &&& ~~~ w)))
  | .ro => acc
  | .wo => acc
  | .rc => acc

/-- The part of a register write that takes effect at once. -/
def Block.putFields (b : Block) (idx : Nat) (w : Word) : HostResult × Block :=
  (fieldsOf idx).foldl (Block.putField (b.ownerRuns idx) w) (.ok, b)

/-- What follows from latches that a write cleared, and from EN of the encoder going to 0 (R183, R316, R421, R453, R607). -/
def Block.clearedLatches (b : Block) (idx : Nat) (before : Block) : Block :=
  match idx with
  | 0x2A => if before.flag R.TB_ENC_CTL.EN && !b.flag R.TB_ENC_CTL.EN then before.freezeWp.setWord 0x2A (b.word 0x2A) else b
  | 0x4D =>
    if b.flag R.CP_SHT_STATUS.SHT_FAULT then b
    else (b.setFlag R.CP_SHT_STATUS.OVERCURRENT false).setFlag R.CP_SHT_STATUS.POS_ERR false
  | 0x77 => (List.range 16).foldl (fun b n =>
      if before.latched n && !b.latched n then b.setValve n (fun c => { c with cause := 0xFF }) else b) b
  | 0x85 => (List.range 8).foldl (fun b k => if before.lampLatched k && !b.lampLatched k then b.clearLamp k else b) b
  | 0xD4 => (List.range 2).foldl (fun b s =>
      if before.bitAt R.MP_STATUS.STUCK s && !b.bitAt R.MP_STATUS.STUCK s then
        b.setMp (fun x => { x with pollOnce := x.pollOnce ++ [s] })
      else b) b
  | _ => b

/-- A write to a register that no view serves: its fields at once, then its S-class fields as a staged item (R488). -/
def Block.writePlain (b : Block) (mid : Nat) (run : FrameRun) (idx : Nat) (w : Word) : HostResult × FrameRun × Block :=
  let r := b.putFields idx w
  let m := r.2.clearedLatches idx b
  let m := match undefWrite idx with
    | some c => if b.ownerRuns idx then m.enterUndef c else m
    | none => m
  if stagedReg idx then
    let s := m.stage mid run (.register idx w)
    (if r.1 = .ok then s.1 else r.1, s.2)
  else (r.1, { run with next := none }, m)

/-! ## Ring descriptors and indices (R523 to R530, R537, R707) -/

/-- The first byte after a ring's region. -/
def Ring.stop (r : Ring) : Nat := r.start + r.depth * r.esize

/-- The first rule of R526 that the descriptor of ring `k` breaks. -/
def Block.ringRule (b : Block) (k : Nat) : Option Nat :=
  let r := b.ring k
  let depth := R.RG_CFG.DEPTH_LOG2.get r.cfg
  let clash := (List.range 32).any (fun j =>
    j != k && (b.ring j).en && decide ((b.ring j).start < r.stop) && decide (r.start < (b.ring j).stop))
  if r.role = 3 then some 1
  else if depth < 4 ∨ 12 < depth then some 2
  else if r.role ≠ 2 ∧ r.esize ≠ 32 then some 3
  else if r.owner = 7 ∨ (r.role = 0 ∧ 1 < r.owner) then some 4
  else if clash then some 5
  else none

/-- RING_ENABLE: EN goes from 0 to 1 on ring `k`, or CFG_ERR is set (R525, R526). -/
def Block.ringEnable (b : Block) (k : Nat) : Block :=
  let r := b.ring k
  if r.en ∨ 32 ≤ k then b
  else match b.ringRule k with
    | some n => (b.setRing k { r with cfgErr := true }).event 0x0B04 (leBytes 1 k ++ leBytes 1 n)
    | none => b.setRing k { r with cfg := r.cfg ||| 1#32, head := 0, tail := 0, seq := 0, pendLost := 0 }

/-- EN of ring `k` goes to 0: later records of entries that answer there go to ring 0 with REDIRECT (R525, R707). -/
def Block.ringDisable (b : Block) (k : Nat) : Block :=
  let r := b.ring k
  let b := b.setRing k { r with cfg := r.cfg &&& ~~~ 1#32 }
  { b with sched := { b.sched with table := b.sched.table.map (fun p =>
      (p.1, if p.2.ring = k then { p.2 with redirect := true } else p.2)) } }

/-- The fields of RG_CFG but EN. -/
def ringCfgMask : Word := 0x3FFFE#32

/-- A write of RG_CFG for ring `k`; ring 0 keeps EN, and in a base write its ROLE (R527). -/
def Block.writeRingCfg (b : Block) (base : Bool) (k : Nat) (w : Word) : HostResult × Block :=
  let r := b.ring k
  let locked := r.en && !base
  let fields := if base ∧ k = 0 then (w &&& ringCfgMask &&& ~~~ 6#32) ||| 2#32 else w &&& ringCfgMask
  let res : HostResult := if locked && fields != r.cfg &&& ringCfgMask then .locked else .ok
  let b := if locked then b else b.setRing k { r with cfg := fields ||| (r.cfg &&& 1#32) }
  let on := w &&& 1#32 == 1#32
  if k = 0 then (res, b)
  else if on then (res, b.ringEnable k)
  else (res, if r.en then b.ringDisable k else b)

/-- A write of RG_BASE for ring `k`. -/
def Block.writeRingBase (b : Block) (base : Bool) (k : Nat) (w : Word) : HostResult × Block :=
  let r := b.ring k
  let v := R.RG_BASE.BASE.get w
  if r.en && !base then (if v = r.base then .ok else .locked, b) else (.ok, b.setRing k { r with base := v })

/-- An index beyond a ring's DEPTH, for a DEPTH that a ring can have (R523, R530). -/
def Ring.beyond (r : Ring) (v : Nat) : Bool :=
  let d := R.RG_CFG.DEPTH_LOG2.get r.cfg
  decide (4 ≤ d) && decide (d ≤ 12) && decide (r.depth ≤ v)

/-- RING_HEAD_WRITE: the producer moves HEAD of an ACTION_IN ring forwards (R528 to R530). -/
def Block.writeHead (b : Block) (mid k v : Nat) : Block :=
  let r := b.ring k
  if r.beyond v then b.enterUndef .ringIndex
  else if r.en ∧ r.role = 0 ∧ r.owner = mid ∧ (r.head + r.depth - r.tail) % r.depth ≤ (v + r.depth - r.tail) % r.depth then
    b.setRing k { r with head := v }
  else b

/-- RING_TAIL_WRITE: the consumer moves TAIL of an output ring forwards; a LOST record that is due follows (R528 to R530,
R537, R539). -/
def Block.writeTail (b : Block) (mid k v : Nat) : Block :=
  let r := b.ring k
  if r.beyond v then b.enterUndef .ringIndex
  else if r.en ∧ r.role ≠ 0 ∧ r.owner = mid ∧ (v + r.depth - r.tail) % r.depth ≤ (r.head + r.depth - r.tail) % r.depth then
    (b.setRing k { r with tail := v }).flushLost k
  else b

/-! ## The booth table and the mailboxes (R544 to R553) -/

/-- The booth entry that a byte of MB_BOOTH spells. -/
def boothEntry (w : Word) (i : Nat) : BoothEntry :=
  let v := w.toNat / 2 ^ (8 * i) % 256
  { midA := v % 8, midB := v / 8 % 8, en := bitOf v 6 }

/-- Four entries of a booth table replaced from a word. -/
def putBooth (l : List BoothEntry) (lo : Nat) (w : Word) : List BoothEntry :=
  (List.range 4).foldl (fun l i => l.set (lo + i) (boothEntry w i)) l

/-- Change the mailbox block. -/
def Block.setMail (b : Block) (f : Mailbox → Mailbox) : Block := { b with mail := f b.mail }

/-- A write of MB_BOOTH: LOCKED outside an edit, else to the pending copy (R547 to R549). -/
def Block.writeBooth (b : Block) (mid lo : Nat) (w : Word) : HostResult × Block :=
  if !b.mail.edit then (if (w &&& 0x7F7F7F7F#32).toNat = b.boothWord lo then .ok else .locked, b)
  else
    let m := b.setMail (fun x => { x with pendBooth := putBooth x.pendBooth lo w, editMids := (mid :: x.editMids).dedup })
    (.ok, if b.mail.editMids.any (· != mid) then m.enterUndef .boothTwoMids else m)

/-- BOOTH_BEGIN (R547). -/
def Block.boothBegin (b : Block) (mid : Nat) : HostResult × Block :=
  if b.mail.begun then (.locked, b)
  else (.ok, b.setMail (fun x => { x with begun := true, edit := true, editor := mid, editMids := [], pendBooth := x.booth }))

/-- The MIDs that an entry binds, in ascending order; none when it acts as unbound (R545). -/
def BoothEntry.pair (e : BoothEntry) : Option (Nat × Nat) := if e.bound then some (min e.midA e.midB, max e.midA e.midB) else none

/-- Channel `c` takes its new binding: a changed one is cleared in both directions, and each old end learns of the words
toward it (R548, R551). -/
def Block.rebind (new : List BoothEntry) (b : Block) (c : Nat) : Block :=
  let old := b.booth c
  let e := new.getD c {}
  if old.pair = e.pair then
    (if old.bound && e.midA != old.midA then b.setChan c { b.chan c with aToB := (b.chan c).bToA, bToA := (b.chan c).aToB } else b)
  else
    let ch := b.chan c
    let m := b.setChan c { ch with aToB := [], bToA := [] }
    if old.bound then
      let m := (m.abortNotice c old.midA ch.bToA.length).abortNotice c old.midB ch.aToB.length
      (m.spaceBell old.midA ch.aToB.length).spaceBell old.midB ch.bToA.length
    else m

/-- BOOTH_LOCK: the pending copy takes effect and the table is locked (R548). -/
def Block.boothLock (b : Block) : HostResult × Block :=
  if !b.mail.edit then (.locked, b)
  else
    let new := b.mail.pendBooth
    let b := (List.range 8).foldl (Block.rebind new) b
    let b := b.setMail (fun x => { x with booth := new, pendBooth := [], edit := false, locked := true })
    (.ok, b.event 0x0B03 (new.flatMap (fun e => leBytes 1 e.byte)))

/-- A write of MB_CTL: BEGIN, then LOCK. -/
def Block.writeMbCtl (b : Block) (mid : Nat) (w : Word) : HostResult × Block :=
  let r := if R.MB_CTL.BEGIN.get w = 1 then b.boothBegin mid else (.ok, b)
  if R.MB_CTL.LOCK.get w = 1 then
    let l := r.2.boothLock
    (if r.1 = .ok then l.1 else r.1, l.2)
  else r

/-- Change what a port sees of its selected channel. -/
def Block.setEnd (b : Block) (mid c : Nat) (f : EndView → EndView) : Block :=
  let ch := b.chan c
  b.setChan c (ch.setView mid (f (ch.view mid)))

/-- MB_TX: one word is sent on the port's channel, or dropped; one that the sequencer has to discard goes as it arrives (R550,
R561). -/
def Block.mbSend (b : Block) (p : Port) (w : Word) : Block :=
  let c := (b.port p).mbCh
  match b.otherEnd c p.mid with
  | none => b.setEnd p.mid c (fun v => { v with err := true })
  | some o =>
    if (b.toward c o).length < 8 then
      let m := b.enqueue c o [w]
      if o = 2 ∧ m.seqListens then m.settleDiscard c else m
    else b.setEnd p.mid c (fun v => { v with full := true })

/-- MB_RX: one word leaves the queue toward the port (R550). -/
def Block.mbReceive (b : Block) (p : Port) : Block :=
  let c := (b.port p).mbCh
  if b.rxWords c p.mid = 0 then b else b.dequeue c p.mid 1

/-- MB_DB_RING (R544). -/
def Block.mbRing (b : Block) (w : Word) : Block :=
  let i := R.MB_DB_RING.BIT.get w
  if i < 24 then b.doorbell (R.MB_DB_RING.TARGET.get w) i else b

/-- A port's doorbell word. -/
def Block.db (b : Block) (p : Port) : Word := match p with
  | .a => b.dbA
  | .b => b.dbB

/-- Write a port's doorbell word. -/
def Block.setDb (b : Block) (p : Port) (w : Word) : Block := match p with
  | .a => { b with dbA := w }
  | .b => { b with dbB := w }

/-- A write of MB_DB_MASK: a mask bit that goes to 1 over a doorbell bit at 1 sends its message (R543). -/
def Block.writeMask (b : Block) (p : Port) (w : Word) : Block :=
  let old := (b.port p).dbMask
  let b := b.setPort p (fun x => { x with dbMask := w.toNat })
  ((List.range 32).filter (fun i => !bitOf old i && bitOf w.toNat i && bitOf (b.db p).toNat i)).foldl
    (fun b i => b.message ((if p = .a then 0x80 else 0xA0) + i)) b

/-! ## The interrupt controller (R568 to R577) -/

/-- A write of IC_CFG for a source; fixed fields ignore it (R570). -/
def Block.writeIcCfg (b : Block) (src : Nat) (w : Word) : Block :=
  { b with irq := updAt b.irq src (fun x => { x with
      prio := if 0xC0 ≤ src ∧ src < 0xE0 then x.prio else R.IC_CFG.PRIO.get w,
      target := if 0x80 ≤ src ∧ src < 0xE0 then x.target else R.IC_CFG.TARGET.get w }) }

/-- A write of IC_PEND: pending bits of the group are cleared (R589). -/
def Block.writeIcPend (b : Block) (group : Nat) (w : Word) : Block :=
  (bitsOf 32 w.toNat).foldl (fun b i => b.clearPending (32 * group + i)) b

/-- IC_ACK: the acknowledge of a captured source, which acts only while the source is pending and above the running
priority (R573). -/
def Block.acknowledge (b : Block) (n : Nest) (src prio : Nat) : Nest × Block :=
  let pending := match b.irq[src]? with
    | some s => s.pending
    | none => false
  if pending && decide (n.running < prio) then ({ running := prio, stack := n.running :: n.stack }, b.clearPending src) else (n, b)

/-- IC_EOI: the stack is popped, or the end of interrupt is counted (R574). -/
def Block.endInterrupt (b : Block) (n : Nest) : Nest × Block :=
  match n.stack with
  | top :: rest => ({ running := top, stack := rest }, b)
  | [] => (n, b.inc R.IC_STAT.EOI_EMPTY)

/-- Change the nest of a host port. -/
def Nests.setPort (n : Nests) (p : Port) (x : Nest) : Nests := match p with
  | .a => { n with a := x }
  | .b => { n with b := x }

/-- IC_ACK on a port's target. -/
def ackPort (p : Port) (src prio : Nat) (n : Nests) (b : Block) : Nests × Block :=
  let r := b.acknowledge (n.port p) src prio
  (n.setPort p r.1, r.2)

/-- IC_EOI on a port's target. -/
def eoiPort (p : Port) (n : Nests) (b : Block) : Nests × Block :=
  let r := b.endInterrupt (n.port p)
  (n.setPort p r.1, r.2)

/-! ## The window registers (R464, R475, R478) -/

/-- WIN_ADDR is written (R475, R478). -/
def Block.writeWinAddr (b : Block) (p : Port) (v : Nat) : Block :=
  let a := v - v % 4
  (b.setPort p (fun x => { x with winAddr := a })).readAhead p a

/-- WIN_ADDR advances after an item; a new line in a flash window is read ahead (R464, R478). -/
def Block.advance (b : Block) (p : Port) : Block :=
  let x := b.port p
  let a := (x.winAddr + (if x.winInc = 0 then 0 else 4)) % 2 ^ 32
  let b := b.setPort p (fun x => { x with winAddr := a })
  if a / 256 = x.winAddr / 256 then b else b.readAhead p a

/-- An item set WIN_STATUS.FAULT (R486). -/
def Block.winFaultAt (b : Block) (p : Port) (r : HostResult) (a : Nat) : Block :=
  if r = .windowFault ∨ r = .mpTimeout then b.setPort p (fun x => { x with winFault := true, winFaultAddr := a }) else b

/-- The bytes of a word written to pixel records: FLAGS [7:3] of the second word of a record are reserved and ignore the write
(R12, R223). -/
def recordBytes (a : Nat) (w : Word) : List Byte :=
  leBytes 4 (if a % 8 = 4 then w.toNat % 2 ^ 19 + w.toNat / 2 ^ 24 * 2 ^ 24 else w.toNat)

/-- A window write item to a region other than the store and the select-1 window (R34, R43, R44, R243, R254, R255). -/
def Block.windowWrite (b : Block) (mid : Nat) (run : FrameRun) (a : Nat) (w : Word) : HostResult × FrameRun × Block :=
  let still := { run with next := none }
  match regionOf a with
  | .pixels => (.ok, still, if b.img.cpRun then b.enterUndef .coefficients else b.store a (recordBytes a w))
  | .bref => (.ok, still, if b.img.cpRun then b.enterUndef .coefficients else b.store a (leBytes 4 w.toNat))
  | .ring => (.ok, still, b.store a (leBytes 4 w.toNat))
  | .staged => if stagedWord a then b.stage mid run (.table a (leBytes 4 w.toNat)) else (.ok, still, b)
  | .interrupt => if 0xE0 ≤ w.toNat ∧ w.toNat ≤ 0xEF then (.ok, still, b.message w.toNat) else (.windowFault, still, b)
  | _ => (.windowFault, still, b)

/-- A window read in a memory-port window: the read-ahead buffer, or a miss (R479). -/
def Block.readFlash (b : Block) (p : Port) (a : Nat) : HostResult × Nat × Block :=
  let ra := (b.port p).ra
  if ra.ready ∧ ra.line = a / 256 then (.ok, leField ra.data (a % 256) 4, b)
  else if ra.timedOut = some (a / 256) then (.mpTimeout, 0, b)
  else (.windowFault, 0, b.setPort p (fun x => { x with raMiss := true }))

/-- A window read item: its result, its value, and the flawed groups of the store that it read; the bytes of an uncorrectable
one are free values (R44, R475 to R479, R616, R618, log entry 168). The shadow bank reads as free values while it holds the sums of
a Midnight cycle (R295, log entry 169). -/
def Block.windowRead (b : Block) (p : Port) (a : Nat) : HostResult × Nat × NvFound × Block :=
  match regionOf a with
  | .flash0 => let r := b.readFlash p a; (r.1, r.2.1, {}, r.2.2)
  | .flash1 => let r := b.readFlash p a; (r.1, r.2.1, {}, r.2.2)
  | .absent => (.windowFault, 0, {}, b)
  | .store =>
    if b.nvBusy then (.nvBusy, 0, {}, b)
    else
      let found := b.nvFound (a - 0x00A00000) 4
      if found.bad.isEmpty then (.ok, ofLe (b.viewBytes a), found, b)
      else let r := b.freeBytes 4; (.ok, ofLe r.1, found, r.2)
  | .vendor => if b.nvBusy then (.nvBusy, 0, {}, b) else let r := b.freeBytes 4; (.ok, ofLe r.1, {}, r.2)
  | .work => let r := b.freeBytes 4; (.ok, ofLe r.1, {}, r.2)
  | .shadow =>
    if b.brk.sums then let r := b.freeBytes 4; (.ok, ofLe r.1, {}, r.2) else (.ok, ofLe (b.viewBytes a), {}, b)
  | _ => (.ok, ofLe (b.viewBytes a), {}, b)

/-! ## Register writes of a port -/

/-- Registers that return NV_BUSY while the store is busy (R618). -/
def nvGated (idx : Nat) : Bool := decide (0xE2 ≤ idx) && decide (idx ≤ 0xE8)

/-- A write of NV_OP (R650). -/
def Block.writeNvOp (b : Block) (w : Word) : Block :=
  match R.NV_OP.OP.get w with
  | 1 => b.stepTrapezeWrite
  | 2 => b.stepTrapezeRead
  | 3 => b.stepCarouselPush
  | 4 => b.stepCarouselRead
  | _ => b

/-- A write of a register that is a view, or whose write starts something; none for the others. The power and interrupt
acknowledge registers are written elsewhere. -/
def Block.writeView (b : Block) (base : Bool) (p : Port) (idx : Nat) (w : Word) : Option (HostResult × Block) :=
  let x := b.port p
  match idx with
  | 0x08 => some (.ok, b.writeWinAddr p w.toNat)
  | 0x09 => some (.ok, b.setPort p (fun x => { x with winInc := R.WIN_CTL.INC.get w }))
  | 0x0B => some (.ok, b.setPort p (fun x => { x with
      raMiss := x.raMiss && R.WIN_STATUS.RA_MISS.get w == 0, winFault := x.winFault && R.WIN_STATUS.FAULT.get w == 0 }))
  | 0x1D => some (.ok, b.setPort p (fun x => { x with thSite := R.TH_SITE.SEL.get w }))
  | 0x90 => some (b.txnOp p.mid (R.CFG_TXN.OP.get w) (R.CFG_TXN.FORCE.get w == 1))
  | 0xA0 => some (.ok, b.setPort p (fun x => { x with rgSel := R.RG_SEL.RING.get w }))
  | 0xA1 => some (b.writeRingBase base x.rgSel w)
  | 0xA2 => some (b.writeRingCfg base x.rgSel w)
  | 0xA3 => some (.ok, b.writeHead p.mid x.rgSel (R.RG_HEAD.INDEX.get w))
  | 0xA4 => some (.ok, b.writeTail p.mid x.rgSel (R.RG_TAIL.INDEX.get w))
  | 0xA5 => some (.ok, b.setRing x.rgSel { b.ring x.rgSel with
      dropped := (b.ring x.rgSel).dropped && R.RG_STATUS.DROPPED.get w == 0,
      cfgErr := (b.ring x.rgSel).cfgErr && R.RG_STATUS.CFG_ERR.get w == 0 })
  | 0xB0 => some (if base then (.ok, b.setMail (fun x => { x with booth := putBooth x.booth 0 w })) else b.writeBooth p.mid 0 w)
  | 0xB1 => some (if base then (.ok, b.setMail (fun x => { x with booth := putBooth x.booth 4 w })) else b.writeBooth p.mid 4 w)
  | 0xB2 => some (b.writeMbCtl p.mid w)
  | 0xB3 => some (.ok, b.setPort p (fun x => { x with mbCh := R.MB_CH.CH.get w }))
  | 0xB4 => some (.ok, b.mbSend p w)
  | 0xB6 => some (.ok, b.setEnd p.mid x.mbCh (fun v => { v with
      full := v.full && R.MB_QSTAT.FULL.get w == 0, aborted := v.aborted && R.MB_QSTAT.ABORTED.get w == 0,
      err := v.err && R.MB_QSTAT.ERR.get w == 0 }))
  | 0xB7 => some (.ok, b.setDb p (b.db p &&& ~~~ w))
  | 0xB8 => some (.ok, b.writeMask p w)
  | 0xBA => some (.ok, b.mbRing w)
  | 0xBB => some (.ok, if R.MB_PORT_RESET.KEY.get w = 0xA5 then b.receiverReset p.mid 2 else b)
  | 0xC1 => some (.ok, b.setPort p (fun x => { x with icSel := R.IC_SEL.SRC.get w }))
  | 0xC2 => some (.ok, b.writeIcCfg x.icSel w)
  | 0xC3 => some (.ok, b.writeIcPend (x.icSel / 32) w)
  | 0xD5 => some (b.mpCommand p.mid (R.MP_CMD.OP.get w) (R.MP_CMD.SEL.get w))
  | 0xD8 => some (.ok, (b.set R.MP_SW.LEN (R.MP_SW.LEN.get w)).softSelects (R.MP_SW.S2.get w == 1) (R.MP_SW.S3.get w == 1))
  | 0xD9 => some (.ok, b.softTransfer w.toNat)
  | 0xE2 => some (.ok, b.writeNvOp w)
  | _ => none

/-- A register write item of a port, but for the power, interrupt acknowledge and WIN_DATA registers (R470, R618). -/
def Block.writeReg (b : Block) (p : Port) (run : FrameRun) (idx : Nat) (w : Word) : HostResult × FrameRun × Block :=
  if !assigned idx then (.badIndex, { run with next := none }, b)
  else if nvGated idx && b.nvBusy then (.nvBusy, { run with next := none }, b)
  else match b.writeView false p idx w with
    | some r => (r.1, { run with next := none }, r.2)
    | none => b.writePlain p.mid run idx w

/-! ## The base record (R507) -/

/-- The views that a REGISTER entry of the base record writes, as port A would: those with RW fields. -/
def baseView (idx : Nat) : Bool :=
  [0x08, 0x09, 0x1D, 0xA0, 0xA1, 0xA2, 0xA3, 0xA4, 0xB0, 0xB1, 0xB3, 0xB8, 0xC1, 0xC2, 0xD8].contains idx

/-- A REGISTER entry of the base record: every RW field of every class (R507, log entry 70). -/
def Block.baseRegister (b : Block) (idx : Nat) (w : Word) : Block :=
  if baseView idx then
    match b.writeView true .a idx w with
    | some r => r.2
    | none => b
  else ((fieldsOf idx).filter (fun f => f.acc == .rw)).foldl (fun b f => b.set f (f.get w)) b

/-- One entry of the base record is applied (R507). -/
def Block.baseEntry (b : Block) (e : JournalEntry) : Block :=
  match e with
  | .register idx w => b.baseRegister idx w
  | .table a bs => b.applyEntry (.table a bs)
  | .raw _ => b

/-! ## Read-clear fields (R474) -/

/-- The read-clear fields whose bits stand for separate things. -/
def rcBits : List RegField := [R.PW_WAKE_SRC.SRC, R.PW_RESET_CAUSE.CAUSE]

/-- A stored read-clear field is reduced by the value read (R474). -/
def Block.rcField (w : Word) (b : Block) (f : RegField) : Block :=
  if f = R.AS_COUNT.PEAK then { b with sched := { b.sched with peak := b.sched.table.length } }
  else if f = R.VO_STATUS.BUF_PEAK then b.set f (min 1023 (b.out.occupancy / 1024))
  else if rcBits.contains f then b.set f (f.get (b.word f.idx &&& ~~~ w))
  else b.set f (b.get f - f.get w)

/-- The read-clear fields of a register whose bits were all shifted out. -/
def rcFields (idx : Nat) (shifted : Word) : List RegField :=
  (fieldsOf idx).filter (fun f => f.acc == .rc && f.mask &&& shifted == f.mask)

/-- A word of lamp channel `k`'s parameters that holds read-clear bytes was read (R459). -/
def Block.rcLamp (b : Block) (a : Nat) (w shifted : Word) : Block :=
  let k := (a - 0x00924000) / 256
  let o := a % 256
  let hi := decide (shifted &&& 0xFFFF0000#32 = 0xFFFF0000#32)
  let lo := decide (shifted &&& 0xFFFF#32 = 0xFFFF#32)
  if o = 0x8C ∧ hi then b.setLamp k (fun c => { c with limitCyc := c.limitCyc - w.toNat / 65536 })
  else if o = 0x90 then
    let b := if lo then b.setLamp k (fun c => { c with refused := c.refused - w.toNat % 65536 }) else b
    if hi then b.setLamp k (fun c => { c with replaced := c.replaced - w.toNat / 65536 }) else b
  else b

/-- READ_CLEAR: the read-clear fields of a register item that an accepted read frame shifted out (R474, R573). -/
def clearRead (p : Port) (idx : Nat) (w shifted : Word) (n : Nests) (b : Block) : Nests × Block :=
  let fs := rcFields idx shifted
  if fs.isEmpty then (n, b)
  else match idx with
    | 0x07 => (n, b.setPort p (fun x => { x with
        rejected := if fs.contains R.SYS_PORT.REJECTED then x.rejected - R.SYS_PORT.REJECTED.get w else x.rejected,
        notAccepted := if fs.contains R.SYS_PORT.NOT_ACCEPTED then x.notAccepted - R.SYS_PORT.NOT_ACCEPTED.get w else x.notAccepted }))
    | 0xA7 => (n, b.setRing (b.port p).rgSel { b.ring (b.port p).rgSel with lost := (b.ring (b.port p).rgSel).lost - w.toNat })
    | 0xB5 => (n, b.mbReceive p)
    | 0xC4 => if shifted = BitVec.allOnes 32 then ackPort .a (R.IC_ACK_A.SRC.get w) (R.IC_ACK_A.PRIO.get w) n b else (n, b)
    | 0xC6 => if shifted = BitVec.allOnes 32 then ackPort .b (R.IC_ACK_B.SRC.get w) (R.IC_ACK_B.PRIO.get w) n b else (n, b)
    | _ => (n, fs.foldl (Block.rcField w) b)

end Sys2Proof.Machine
end

