-- ==== Sys2Proof/Machine/Power.lean ====
section
/-! DEFINITION. Rails, resets and Dusk: the meanings of POWER_ON_RESET, PIN_RESET, RESET_KEY, SYSTEM_RESET, RAIL_UV,
RAIL_RESTORED, PFAIL, DUSK_STEP5_CUT and the steps of the Dusk routine (chapter 03). -/

namespace Sys2Proof.Machine

/-- Change the power state. -/
def Block.setPower (b : Block) (f : Power → Power) : Block := { b with power := f b.power }

/-- Set PW_STATUS.PHASE. -/
def Block.setPhase (b : Block) (p : Nat) : Block := b.set R.PW_STATUS.PHASE p

/-- Dawn has reached D6. -/
def Block.dawned (b : Block) : Bool := b.flag R.SYS_STATUS.RUNNING

/-! ## Resets (R78, R79) -/

/-- What every reset but a warm Dawn leaves: everything at its reset value but the non-volatile store, the pins and the rails
as they stand; a write operation in progress is cut (R78, R485, R541, R546, R587, R644). -/
def Block.cleared (b : Block) : Block :=
  let t := b.tearWrite
  { Block.reset with
    now := t.now, free := t.free, tap := t.tap, nv := { cells := t.nv.cells, bad := t.nv.bad, soft := t.nv.soft },
    power := { valid := t.power.valid ++ t.power.restoring, resetLow := t.power.resetLow },
    clock := { enc := { levelA := t.clock.enc.levelA, levelB := t.clock.enc.levelB } } }

/-- A reset that keeps PW_RESET_CAUSE and adds its own bit. -/
def Block.resetKeeping (b : Block) (bit_ : Nat) : Block :=
  b.cleared.set R.PW_RESET_CAUSE.CAUSE (orBit (b.get R.PW_RESET_CAUSE.CAUSE) bit_)

/-- VAON or VCORE fell below its threshold: power-on reset, held until both are valid (R75, R78). -/
def Block.stepPowerOn (b : Block) (lost : List Rail) : Block :=
  { b.cleared with tap := {} }.setPower (fun x => { x with mode := .off, valid := x.valid.filter (fun r => !lost.contains r) })

/-- PIN_RESET: RESET_N is low (R78). -/
def Block.stepPinReset (b : Block) : Block :=
  let b := b.setPower (fun x => { x with resetLow := true })
  if b.power.mode = .off then b else (b.resetKeeping 1).setPower (fun x => { x with mode := .inReset })

/-- The part leaves reset, and D0 begins (R78, R82). -/
def Block.startD0 (b : Block) : Block := b.setPower (fun x => { x with mode := .run, kind := .cold, dawnStart := b.now, phaseAt := b.now })

/-- Every rail, in the bit order of PW_RAIL. -/
def allRails : List Rail := [.vcore, .vdda, .vddphy, .vddioA, .vddioB, .vddioC, .vaon, .vdrv, .vsht]

/-- A rail becomes valid. -/
def Power.addRail (x : Power) (r : Rail) : Power := { x with valid := allRails.filter (fun q => q == r || x.valid.contains q) }

/-- POWER_ON_RESET_RELEASE: VAON and VCORE are valid; Dawn starts at D0 unless RESET_N is low (R78). -/
def Block.stepPowerOnRelease (b : Block) : Block :=
  if b.power.mode ≠ .off then b
  else
    let b := b.setPower (fun x => (x.addRail .vaon).addRail .vcore)
    if b.power.resetLow then b.setPower (fun x => { x with mode := .inReset }) else b.startD0

/-- RESET_N_RISE: Dawn starts at D0 (R78). -/
def Block.stepResetRise (b : Block) : Block :=
  let b := b.setPower (fun x => { x with resetLow := false })
  if b.power.mode = .inReset then b.startD0 else b

/-- SYSTEM_RESET: the reset requested 10 µs before, which restarts at D0 (R78). -/
def Block.stepSystemReset (b : Block) : Block := (b.resetKeeping 2).startD0

/-- The system reset requested is due. -/
def Block.resetDue (b : Block) : Bool := match b.power.resetAt with
  | some t => decide (t ≤ b.now)
  | none => false

/-- A write of SYS_CTL: 0xC3 requests a system reset 10 µs later (R486). -/
def Block.writeSysCtl (b : Block) (w : Word) : Block :=
  if R.SYS_CTL.RESET_KEY.get w = 0xC3 then b.setPower (fun x => { x with resetAt := some (b.now + usec 10) }) else b

/-! ## The memory port stops (R75, R607, R610) -/

/-- The queued requests end with MP_TIMEOUT and no event, and a write in a device is polled no further. -/
def Block.endRequests (b : Block) : Block :=
  let b := b.dropWrites.setMp (fun x => { x with
    command := none, software := none, pollOnce := [],
    wire := match x.wire with
      | some (.enable _) => none
      | some (.write _) => none
      | some (.poll _) => none
      | w => w })
  b.mp.fills.foldl Block.fillTimedOut b

/-- Dusk step 7: the transfer on the wire completes, and everything else ends (R610). -/
def Block.portStop (b : Block) : Block := b.settleWire.endRequests

/-- VDDIO_B is lost: the transfer on the wire ends with MP_TIMEOUT too (R75). -/
def Block.portLost (b : Block) : Block :=
  let b := b.settleWire
  let b := match b.mp.wire with
    | some (.fill f) => if f.dead then b.wireFree else b.wireFree.fillTimedOut f
    | some (.command _ _ _) => b.wireFree
    | some (.software _ _) => b.wireFree
    | some (.enable _) => b.wireFree
    | some (.write _) => b.wireFree
    | some (.poll _) => b.wireFree
    | none => b
  b.endRequests

/-! ## Dusk (R88 to R96) -/

/-- A cycle of Midnight, or its roll-back, is abandoned: no roll-back step runs, and its shadow is discarded (R90). -/
def Block.abandonNight (b : Block) : Block :=
  let x := b.night
  if !x.running && !x.rollback then b
  else
    let b := b.withdrawPulses.nightShadow.netOffNext
    (b.set R.CP_MN_STATUS.STEP 0).setNight (fun y => { y with
      running := false, rollback := false, step := 0, dawn := false, held := false, frames := [], newOffsets := [], newRow := [],
      newCol := [], verifyN := none, abortCause := none, failedAt := if x.running then some b.now else x.failedAt })

/-- The running micro-routine is abandoned; a final reply it owes is ABORTED (R90). -/
def Block.abandonRoutine (b : Block) : Block :=
  let b := if b.seq.routine = some .overlay then b.dropRead else b
  b.abandonNight.finishRoutine .abandoned 6 []

/-- Dusk starts (R88, R90, R115, R643, R676); one in progress goes on (R95). -/
def Block.startDusk (b : Block) (c : DuskCause) : Block :=
  if b.power.dusk.isSome || b.power.mode.lost then b
  else
    let b := (b.setBit R.PW_RESET_CAUSE.CAUSE c.bit).setPhase 7
    let b := b.set R.PW_STATUS.DUSK_STEP 0
    let b := b.setPower (fun x => { x with
      mode := .run, dusk := some { cause := c, startedAt := b.now }, resumeTick := false, flushStarted := false })
    let b := { b with sched := { b.sched with resumeTick := false }, clock := { b.clock with ptRun := b.clock.ptRun || b.clock.ticked } }
    let b := if c = .thermal then b.setFlag R.TH_STATUS.SD_MARK true else b
    let b := b.event 0x0103 (leBytes 1 c.bit)
    (b.abandonRoutine.rollbackTxn 3).haltNvOp.startRoutine .dusk 1 none

/-- Dusk step `k` is complete. -/
def Block.duskDone (b : Block) (k : Nat) : Block := (b.set R.PW_STATUS.DUSK_STEP k).toStep (k + 1)

/-- Dusk step 5: once no operation of the store is in progress, a segment is written, unless PERSIST_FLUSH is 0 (R89, R91,
R540, R637). -/
def Block.duskFlush (b : Block) : Block :=
  if b.nvBusy then b
  else if b.power.flushStarted || !b.flag R.PW_CTL.PERSIST_FLUSH then b.duskDone 5
  else (b.setPower (fun x => { x with flushStarted := true })).startSegment 1

/-- Step 7: the outputs stop, the ticks end and the shutter bridge brakes (R89, R139, R157, R315, R610, R698). -/
def Block.duskLow (b : Block) : Block :=
  let b := b.outputStop.cutPulse.setShut (fun x => { x with waiting := [], check := none })
  let b := (b.leaveBus.setSync (fun x => { x with started := false })).portStop
  { b with power := { b.power with duskHigh := false }, clock := { b.clock with ticked := false } }

/-- One slice of Dusk: the step named (R89, R284, R347, R425, R455). -/
def Block.duskSlice (b : Block) : Block :=
  match b.seq.step with
  | 1 => ((b.closeAdmission 8).stopBrackets).duskDone 1
  | 2 => b.stopValves.duskDone 2
  | 3 => b.stopLamps.stopLoops.duskDone 3
  | 4 => (if b.flag R.PW_CTL.DUSK_SHUTTER then b.offerPulse { dir := .close, width := 0, source := .dusk } else b).duskDone 4
  | 5 => b.duskFlush
  | 6 => (b.stopReadout.cpStop.setPower (fun x => { x with bias := false })).duskDone 6
  | 7 => b.duskLow.duskDone 7
  | _ => b

/-- DUSK_STEP5_CUT: 6.5 ms after the start of a Dusk by PFAIL_N or a rail, step 5 ends (R92). -/
def Block.stepStep5Cut (b : Block) : Block :=
  match b.power.dusk with
  | some d =>
    if (d.cause = .pfail ∨ d.cause = .rail) ∧ b.seq.routine = some .dusk ∧ b.seq.step = 5 ∧ d.startedAt + 650000 ≤ b.now then
      b.duskDone 5
    else b
  | none => b

/-- DEEP: everything is lost but the AON block, the non-volatile store and WP; a write still in progress is left to finish (R92,
R97, R184, R292, R676). -/
def Block.enterDeep (b : Block) : Block :=
  let nv := match b.nv.op with
    | some op => if op.writing then b.nv.program op.writes else b.nv
    | none => b.nv
  let x : Block := { Block.reset with
    now := b.now, free := b.free, nv := { cells := nv.cells, bad := nv.bad, soft := nv.soft },
    power := { mode := .deep, valid := b.power.valid ++ b.power.restoring, resetLow := b.power.resetLow, pubAt := b.now,
               wakeEn := if b.seq.routine = some .sleepEntry then b.power.wakeEn else (b.word 0x12).toNat },
    shut := { aonPos := b.shut.aonPos },
    clock := { enc := { cur := { cnt := b.clock.enc.cur.cnt, hold := some b.wp }, moved := b.clock.enc.moved,
                        levelA := b.clock.enc.levelA, levelB := b.clock.enc.levelB } } }
  let x := ((x.setWord 0x12 (b.word 0x12)).setWord 0x14 (b.word 0x14)).setWord 0x16 (b.word 0x16)
  (x.set R.TH_STATUS.SD_MARK (b.get R.TH_STATUS.SD_MARK)).set R.PW_STATUS.LAST_SLEEP 3

/-! ## Rails (R75 to R77) -/

/-- The loss of a rail whose loss is reported stops that rail's functions (R75, R182, R696). -/
def Block.railStops (b : Block) (r : Rail) : Block :=
  match r with
  | .vddioA => b.dropFrames
  | .vddioB => b.portLost
  | .vddioC => b.freezeWp
  | .vddphy => b.phyLost
  | _ => b

/-- RAIL_UV for a rail other than VAON and VCORE (R75). -/
def Block.stepRailUv (b : Block) (r : Rail) : Block :=
  if !(b.power.valid ++ b.power.restoring).contains r then b
  else
    let before := b
    let b := b.setPower (fun x => { x with valid := x.valid.filter (· != r), restoring := x.restoring.filter (· != r) })
    if b.power.mode.lost then b
    else
      let b := b.setBit R.PW_RAIL.UV_SEEN (Rail.bit r)
      if r = .vdda ∨ r = .vdrv then b.startDusk .rail
      else
        let b := b.event 0x0107 (leBytes 1 (Rail.bit r))
        if before.power.valid.contains r then b.railStops r else b

/-- RAIL_RESTORED: its functions resume at the next tick, or at once while no tick comes (R76, log entry 71). -/
def Block.stepRailRestored (b : Block) (r : Rail) : Block :=
  if (b.power.valid ++ b.power.restoring).contains r then b
  else if b.power.mode.lost ∨ r = .vdda ∨ r = .vdrv then b.setPower (fun x => x.addRail r)
  else
    let b := b.event 0x0108 (leBytes 1 (Rail.bit r))
    if b.ticking then b.setPower (fun x => { x with restoring := x.restoring ++ [r] }) else b.setPower (fun x => x.addRail r)

/-- PFAIL: PFAIL_N has been low for 2 µs; ignored in DEEP and in reset (R77, R88). -/
def Block.stepPfail (b : Block) : Block := b.startDusk .pfail

/-! ## Meanings -/

/-- POWER_ON_RESET (R78): VAON or VCORE is lost, which of the two the command does not say (log entry 72). -/
def execPowerOnReset (dt : Nat) (s : State) : Host.Outcome State Fault Refusal := s.runReset dt (fun b => b.stepPowerOn [.vaon, .vcore])
/-- PIN_RESET (R78). -/
def execPinReset (dt : Nat) (s : State) : Host.Outcome State Fault Refusal := s.runReset dt Block.stepPinReset
/-- RESET_KEY (R486). -/
def execResetKey (dt : Nat) (port : Port) (value : Word) (s : State) : Host.Outcome State Fault Refusal :=
  s.runPort dt port (fun b => (.ok, b.writeSysCtl value))
/-- SYSTEM_RESET (R78): nothing happens unless one was requested 10 µs before. -/
def execSystemReset (dt : Nat) (s : State) : Host.Outcome State Fault Refusal :=
  if (s.m.elapse dt).resetDue then s.runReset dt Block.stepSystemReset else s.run dt id
/-- RAIL_UV (R75). -/
def execRailUv (dt : Nat) (rail : Rail) (s : State) : Host.Outcome State Fault Refusal :=
  if (rail = .vaon ∨ rail = .vcore) ∧ s.m.power.valid.contains rail then s.runReset dt (fun b => b.stepPowerOn [rail])
  else s.run dt (fun b => b.stepRailUv rail)
/-- RAIL_RESTORED (R76). -/
def execRailRestored (dt : Nat) (rail : Rail) (s : State) : Host.Outcome State Fault Refusal := s.run dt (fun b => b.stepRailRestored rail)
/-- PFAIL (R77). -/
def execPfail (dt : Nat) (s : State) : Host.Outcome State Fault Refusal := s.run dt Block.stepPfail
/-- DUSK_STEP5_CUT (R92). -/
def execDuskStep5Cut (dt : Nat) (s : State) : Host.Outcome State Fault Refusal := s.run dt Block.stepStep5Cut
/-- POWER_ON_RESET_RELEASE (R78). -/
def execPowerOnResetRelease (dt : Nat) (s : State) : Host.Outcome State Fault Refusal := s.run dt Block.stepPowerOnRelease
/-- RESET_N_RISE (R78). -/
def execResetNRise (dt : Nat) (s : State) : Host.Outcome State Fault Refusal := s.run dt Block.stepResetRise

end Sys2Proof.Machine
end

