-- ==== Sys2Proof/Machine/Dawn.lean ====
section
/-! DEFINITION. Dawn from D0 to D6, its failures and its end, the checks of the Woler image, the base configuration and the
coefficient load, and what follows Dusk: the meanings of DAWN_PHASE, DAWN_RETRY, DAWN_1MS_SAMPLE, SETTLE_END, DUSK_KEY and
DUSK_END (chapters 03, 08 and 15). -/

namespace Sys2Proof.Machine

/-! ## The start of a Dawn (R78, R82, R96) -/

/-- A Dawn that keeps the configuration or the coefficients (R78). -/
def DawnKind.warm : DawnKind → Bool
  | .cold => false
  | .deepWake => false
  | .warmD1 => true
  | .warmD2 => true

/-- The registers whose fields stay in a warm Dawn from D1, which applies the base over the reset values (R507, R508): the
rings, mailboxes and interrupt sources have a reset of their own (R541, R546, R587). -/
def baseReset (regs : Vector Word 256) : Vector Word 256 :=
  (regs.zipIdx).map (fun p =>
    ((fieldsOf p.2).filter (fun f => f.acc == .rw)).foldl (fun w f => f.put w f.reset) p.1)

/-- The staged tables at their reset values, with the radiometric table as Dawn left it before (R507, R508, log entry 73). -/
def tablesReset (mem base : Mem) : Mem :=
  let kept := mem.filter (fun c => stagedTable c.1 == 0)
  let radio := base.filter (fun c => stagedTable c.1 == 1)
  (radio ++ memReset).foldl (fun m c => Mem.write 0#8 m c.1 c.2) kept

/-- The identity remap table is stored, as every Dawn leaves it (R233, R251). -/
def Block.identityRemap (b : Block) : Block :=
  { b with mem := remapReset.foldl (fun (m : Mem) (c : Host.Cell) => Mem.write 0#8 m c.1 c.2) (Mem.writeBytes 0#8 b.mem 0x00783000 [0#8]) }

/-- A Dawn starts at a phase; a warm one clears nothing but the remap table, which one from D2 restores here and any other in D1
(R78, R233). -/
def Block.startDawn (b : Block) (k : DawnKind) (phase : Nat) : Block :=
  let b := if k = .warmD2 then b.identityRemap else b
  let b := if k = .warmD1 then b.freezeWp else b
  let b := if k = .deepWake then b.setEnc (fun e => { levelA := e.levelA, levelB := e.levelB }) else b
  let b := (b.setPhase phase).setFlag R.PW_STATUS.WARM k.warm
  let b := (b.setFlag R.PW_STATUS.DAWN_FAIL false).set R.PW_STATUS.DAWN_FAIL_CODE 0
  let b := b.setFlag R.SYS_STATUS.RUNNING false
  let b := { b with
    power := { b.power with mode := .run, dusk := none, kind := k, dawnStart := b.now, phaseAt := b.now, d4Skipped := false,
                            firstPub := false, settled := false, torn := [], resumeTick := false, d2 := decide (2 ≤ phase) },
    clock := { b.clock with ticked := false }, img := { b.img with frames := [], lastStart := none, enabled := false },
    thermal := if k.warm then b.thermal else { b.thermal with excluded := [] } }
  b.cpStop.startRoutine .dawn phase none

/-- The next phase of Dawn begins (R86). -/
def Block.enterPhase (b : Block) (k : Nat) : Block :=
  ((b.setPhase k).setPower (fun x => { x with phaseAt := b.now })).toStep k

/-- The DAWN_PHASE event of a phase (R86, R114). -/
def Block.dawnEvent (b : Block) (k : Nat) : Block := b.event 0x0101 (leBytes 1 k ++ leBytes 1 (bit b.power.kind.warm))

/-- The records of D0 to D2, and the NV_TORN events after that of D1, with PT 0 and frame number 0 (R86, R641). When Dawn halts
before the end of D2 they are written at the halt, and the records of a Dawn that a retry starts again are those of its kind,
D0 among them in a cold one (the model's choice, log entry 170). -/
def Block.waitingRecords (b : Block) (upTo : Nat) : Block :=
  let early := fun (b : Block) (code : Nat) (payload : List Byte) =>
    b.emit 0 (eventSource code) { b.record code (eventSource code) payload with pt := 0#48, frame := 0 }
  let from_ := match b.power.kind with
    | .cold => 0
    | .warmD1 => 1
    | .deepWake => 1
    | .warmD2 => 2
  let b := ((List.range (upTo + 1)).filter (fun k => decide (from_ ≤ k))).foldl (fun b k =>
    let b := early b 0x0101 (leBytes 1 k ++ leBytes 1 (bit b.power.kind.warm))
    if k = 1 then b.power.torn.foldl (fun b t => early b 0x0A03 (leBytes 1 t.1 ++ leBytes 1 t.2)) b else b) b
  b.setPower (fun x => { x with torn := [] })

/-- DAWN_FAIL: Dawn halts in its phase (R111). -/
def Block.dawnFail (b : Block) (code : Nat) : Block :=
  let phase := b.phase
  let b := if phase ≤ 2 then b.waitingRecords phase else b
  let b := ((b.setPhase 14).setFlag R.PW_STATUS.DAWN_FAIL true).set R.PW_STATUS.DAWN_FAIL_CODE code
  (b.event 0x0102 (leBytes 1 phase ++ leBytes 1 code)).endRoutine .failed

/-! ## D1 (R614, R626, R641, R642, R649) -/

/-- The registers that D1 fills from the identity record (R614). -/
def Block.fillIdentity (b : Block) (x : Identity) : Block :=
  let b := ((b.set R.SYS_SERIAL_LO.SERIAL (x.serial % 2 ^ 32)).set R.SYS_SERIAL_HI.SERIAL (x.serial / 2 ^ 32)).set R.SYS_ID.ARRAY_REV x.arrayRev
  let b := (b.set R.FP_BIAS.FACTORY_LEVEL x.factoryLevel).set R.FP_ROWPHASE.FACTORY_WIDTH x.factoryWidth
  let b := (b.set R.CP_DECONV.REF_PERIOD_US x.refPeriod).set R.SYS_FW.PATCH_VER x.patch
  b.setPower (fun p => { p with filled := true })

/-- D1 completes, or Dawn fails with code 1. -/
def Block.completeD1 (b : Block) (inp : DawnInput) : Block :=
  let fresh := !b.power.kind.warm
  let segments := if fresh then b.tornSegments.map (fun k => (3, k)) else []
  let read := if fresh then b.nvFound 0x6000 0x8000 else {}
  let b := if fresh then b.rebuildLog else b
  let b := b.setFlag R.NV_STATUS.BASE_WRITTEN false
  let b := b.identityRemap
  let torn := inp.tornIdentity.map (fun c => (0, c)) ++ (b.tornCopies 0x4000 64).map (fun c => (1, c)) ++ segments
  let cur := b.inForce 0x4000 64
  let b := (b.nvTell ((b.pairFound 0x4000 64).join read)).setPower (fun x => { x with torn := torn })
  match inp.identity, cur with
  | some x, some (copy, info) =>
    (b.fillIdentity x |>.setOv (fun o => { o with pair := b.nvBytes (0x4000 + 4096 * copy) info.len })).setPower (fun p => { p with d2 := true }) |>.enterPhase 2
  | _, _ => b.dawnFail 1

/-! ## D2: the flash and its Woler image (R275 to R282, R595) -/

/-- `n` bytes of flash. -/
def flashBytes (f : List (Nat × Byte)) (a n : Nat) : List Byte := Mem.readBytes 0xFF#8 f a n

/-- A directory entry from its 32 bytes (R277). -/
def parseEntry (bs : List Byte) : DirEntry :=
  { type := leField bs 0 2, index := leField bs 2 2, offset := leField bs 4 4, length := leField bs 8 4,
    tLo := signed 16 (leField bs 12 2), tHi := signed 16 (leField bs 14 2), param := leField bs 16 4 }

/-- The directory that a header names. -/
def directoryOf (f : List (Nat × Byte)) (h : List Byte) : List DirEntry :=
  (List.range (leField h 16 2)).map (fun i => parseEntry (flashBytes f (leField h 12 4 + 32 * i) 32))

/-- The checks of R281 on the header. -/
def headerOk (h : List Byte) (serial : Nat) : Bool :=
  let len := leField h 8 4
  let tab := leField h 36 4
  decide (h.take 4 = [0x57#8, 0x4F#8, 0x4C#8, 0x52#8]) && leField h 4 2 == 1 && leField h 20 4 == 0x4410 &&
  leField h 60 4 == crc32 (h.take 60) && len % 4096 == 0 && decide (len ≤ 64 * 1048576) &&
  decide (1 ≤ leField h 16 2) && decide (leField h 16 2 ≤ 128) && decide (leField h 12 4 + 32 * leField h 16 2 ≤ len) &&
  tab % 4096 == 0 && decide (tab + 4 * (tab / 4096) ≤ len) && leField h 24 8 == serial

/-- Each required entry is present (R278, R281). -/
def entriesPresent (dir : List DirEntry) : Bool :=
  (List.range 16).all (fun k => dir.any (fun e => e.type == 1 && e.index == k)) &&
  ([2, 3, 4, 5] : List Nat).all (fun t => dir.any (fun e => e.type == t))

/-- The length of a payload of a type that has one (R278). -/
def payloadLength (t : Nat) : Option Nat := match t with
  | 1 => some 1572864
  | 2 => some 1572864
  | 3 => some 2362884
  | 4 => some 786432
  | 5 => some 2048
  | _ => none

/-- Two byte ranges overlap. -/
def rangesMeet (x y : Nat × Nat) : Bool := decide (x.1 < y.1 + y.2) && decide (y.1 < x.1 + x.2)

/-- An image that the checks of R281 pass breaks R278 or R279 (R282). -/
def nonWoler (dir : List DirEntry) (h : List Byte) : Bool :=
  let tab := leField h 36 4
  let fixed := [(0, 64), (leField h 12 4, 32 * leField h 16 2), (tab, 4 * (tab / 4096))]
  let same := fun (x y : DirEntry) => x.type == y.type && (x.index == y.index || decide (2 ≤ x.type) && decide (x.type ≤ 5))
  let brackets := fun k => dir.find? (fun e => e.type == 1 && e.index == k)
  dir.any (fun e => e.type == 0 || decide (8 < e.type) || (e.type == 1 && decide (15 < e.index)) || (e.type == 6 && decide (63 < e.index)) ||
    (match payloadLength e.type with
     | some n => e.length != n
     | none => false) ||
    decide (tab < e.offset + e.length) || fixed.any (fun r => rangesMeet r (e.offset, e.length))) ||
  (dir.zipIdx).any (fun x => (dir.zipIdx).any (fun y => decide (x.2 < y.2) &&
    (rangesMeet (x.1.offset, x.1.length) (y.1.offset, y.1.length) ||
      (same x.1 y.1 && x.1.type != 8) || (x.1.type == 7 && y.1.type == 7)))) ||
  (List.range 15).any (fun k => match brackets k, brackets (k + 1) with
    | some x, some y => x.tHi != y.tLo
    | _, _ => true)

/-- The serial of the array (R281, R614). -/
def Block.serial (b : Block) : Nat := b.get R.SYS_SERIAL_LO.SERIAL + 2 ^ 32 * b.get R.SYS_SERIAL_HI.SERIAL

/-- The newest patch of the image, when it is newer than the one in force (R281). -/
def newerPatch (dir : List DirEntry) (have_ : Nat) : Nat :=
  (dir.filter (fun e => e.type == 8)).foldl (fun m e => max m e.param) have_

/-- The identification and SFDP reads of R595: the device's registers, or the failure code. -/
def Block.probeFlash (b : Block) (inp : DawnInput) : Except Nat Block :=
  if inp.timeout ∨ inp.flashId.all (· == 0x00#8) ∨ inp.flashId.all (· == 0xFF#8) then .error 6
  else
    let present := decide (inp.sfdp.take 4 = [0x53#8, 0x46#8, 0x44#8, 0x50#8])
    let ab := if present then inp.dword1 / 2 ^ 17 % 4 else 0
    let header4 := bitOf (leField (flashBytes inp.flash 0 64) 18 2) 0
    let b := ((b.set R.MP_SFDP.JEDEC_ID (ofLe inp.flashId)).setFlag R.MP_SFDP.PRESENT present).set R.MP_SFDP.AB ab
    if header4 ∧ present ∧ ab = 0 then .error 4
    else .ok (b.setFlag R.MP_SEL0.ADDR4 (ab == 2 || header4))

/-- The checks of the Woler image (R281, R282): a warm Dawn from D2 checks the header alone, and keeps the PATCH_VER of the Dawn
before (the model's choice, log entry 172). -/
def Block.checkImage (b : Block) (inp : DawnInput) : Except Nat Block :=
  let h := flashBytes inp.flash 0 64
  if !headerOk h b.serial then .error 4
  else if b.power.kind = .warmD2 then .ok b
  else
    let dir := directoryOf inp.flash h
    let tab := leField h 36 4
    if crc32 (flashBytes inp.flash tab (4 * (tab / 4096))) ≠ leField h 40 4 ∨ !entriesPresent dir then .error 4
    else
      let b := (b.setBrk (fun x => { x with dir := dir, crcTab := tab })).set R.SYS_FW.PATCH_VER
        (newerPatch dir (b.get R.SYS_FW.PATCH_VER))
      .ok (if nonWoler dir h then b.enterUndef .wolerImage else b)

/-- The base record as bytes: inline in the base pair, or the BASE entry of the image; none where there is none (R509). -/
def Block.baseRecord (b : Block) (inp : DawnInput) : Except Nat (List Byte) :=
  if leField b.overlay.pair 2 1 ≠ 1 then .ok ((b.overlay.pair.drop 528).take (leField b.overlay.pair 4 4))
  else match b.brk.dir.find? (fun e => e.type == 7) with
    | none => .error 4
    | some e =>
      let bs := flashBytes inp.flash e.offset e.length
      if bs.length < 32 then .error 4 else .ok bs

/-- A warm Dawn from D1 returns the RW fields and the staged tables to their reset values, over which the base is applied, and no
overlay is active (R507, R508, log entry 73). -/
def Block.overReset (b : Block) : Block :=
  if b.power.kind = .warmD1 then
    { b with regs := baseReset b.regs, mem := tablesReset b.mem b.overlay.baseMem,
             overlay := { b.overlay with undoRegs := [], undoBytes := [] } }.set R.CFG_OVERLAY.ACTIVE 0x7F
  else b

/-- The base configuration is applied over the reset values, and its values are kept for reverts (R507, R515); a bad record
halts Dawn: code 1 inline, 4 from the image (log entry 74). Unless the Dawn is warm, the coil models start from the TAMB that
is then in force (R415, R426, log entry 166). -/
def Block.applyBase (b : Block) (inp : DawnInput) : Except Nat Block :=
  match b.baseRecord inp with
  | .error c => .error c
  | .ok bs =>
    if !bs.isEmpty ∧ (bs.length < 32 ∨ recId bs ≠ 0xFFFF ∨ !recCrcOk bs) then
      .error (if leField b.overlay.pair 2 1 = 1 then 4 else 1)
    else
      let b := if bs.isEmpty then b.overReset else (recEntries bs).foldl Block.baseEntry b.overReset
      let b := if b.power.kind.warm then b else b.coilReset
      .ok (b.setOv (fun o => { o with baseRegs := b.regs, baseMem := b.mem.filter (fun c => stagedTable c.1 != 0) }))

/-- Every rail is valid. -/
def Block.railsValid (b : Block) : Bool := allRails.all (fun r => (b.power.valid ++ b.power.restoring).contains r)

/-- D2 completes, waits for a rail, or fails (R82, R111). -/
def Block.completeD2 (b : Block) (inp : DawnInput) : Block :=
  if !b.railsValid then (if b.power.phaseAt + msec 100 ≤ b.now then b.dawnFail 2 else b)
  else if !inp.pll then b.dawnFail 3
  else
    let b := b.setFlag R.TB_STATUS.PLL_LOCK true
    let r := do
      let x ← b.probeFlash inp
      let x ← x.checkImage inp
      if b.power.kind = DawnKind.warmD2 then pure x else x.applyBase inp
    match r with
    | .error c => b.dawnFail c
    | .ok x => ((x.waitingRecords 2).enterPhase 3 |>.setPower (fun p => { p with bias := true })).dawnEvent 3

/-! ## D3: the settle (R215, R670, R675) -/

/-- The amplitude of the bias pulses, in µV: 0 while the bias is parked, the level of FP_BIAS, and in the first 10 ms of a settle,
in D3 or in the exit from NAP, the linear ramp from 1.0 V to it (R104, R199, R215, R217). -/
def Block.biasAmplitude (b : Block) : Nat :=
  let level := b.get R.FP_BIAS.LEVEL
  let t := b.now - b.power.phaseAt
  if !b.power.bias then 0
  else if (b.phase = 3 ∨ b.phase = 10) ∧ t < msec 10 then (255000000 * msec 10 + 1400000 * level * t) / (255 * msec 10)
  else biasMicro level

/-- Milliseconds since the bias ramp of 10 ms ended. -/
def Block.settleMs (b : Block) : Nat := (b.now - b.power.phaseAt) / msec 1 - 10

/-- The array settles: in D3, or in the exit from NAP (R104, R670). -/
def Block.settling (b : Block) : Bool :=
  !b.power.settled && ((b.power.mode == .run && b.phase == 3) || (b.seq.routine == some .sleepExit && b.seq.step == 1))

/-- SETTLE_END: the substrate is settled at 20 ms or later, or 150 ms are over (R670). -/
def Block.stepSettle (b : Block) : Block :=
  let ms := b.settleMs
  let x := b.thermal
  let close := decide ((b.img.lastGood - x.latched0).natAbs ≤ 64) && decide ((x.latchedH - x.latched0).natAbs ≤ 25)
  if b.settling ∧ ((20 ≤ ms ∧ close) ∨ 150 ≤ ms) then
    (b.set R.PW_DAWN_TIME.SETTLE_MS ms).setPower (fun p => { p with settled := true })
  else b

/-- Dawn takes a sample every 1 ms from D2 until the first tick of D5, and the settle of a wake from NAP does too (R104,
R670, R675). -/
def Block.samples1ms (b : Block) : Bool :=
  (b.seq.routine == some .sleepExit && b.seq.step == 1) ||
  (b.power.mode == .run && b.power.dusk.isNone && !b.clock.ticked &&
    b.power.d2 && ((decide (2 ≤ b.phase) && decide (b.phase ≤ 5)) || b.phase == 14))

/-- DAWN_1MS_SAMPLE: the thermistor in D3 and D4, the sites, and from D3 on the core current and the model (R215, R670, R675). -/
def Block.step1ms (b : Block) (inp : TickInput) : Block :=
  if !b.samples1ms then b
  else
    let biased := b.power.bias
    let b := if biased ∧ b.phase ≠ 5 then (b.thermistor (b.get R.TB_FRAME.FRAME) inp.thermistor.sum).1 else b
    let (b, hot) := b.thermalSample inp.sites
    let b := if !biased then b
      else
        let b := b.powerSample inp.iCode inp.vcore
        if b.thermal.started then b.modelUpdate true else b.startModel.latchModel false
    if hot then b.startDusk .thermal else b

/-- D3 completes once the settle has ended. -/
def Block.completeD3 (b : Block) : Block := if b.power.settled then (b.enterPhase 4).dawnEvent 4 else b

/-! ## D4: the coefficients (R83 to R85, R280, R285) -/

/-- Block `k` of flash as a first read, or else one retry, finds it good (R111, R276). -/
def Block.goodBlock (b : Block) (f f2 : List (Nat × Byte)) (k : Nat) : Option (List Byte) :=
  let crc := leField (flashBytes f (b.brk.crcTab + 4 * k) 4) 0 4
  let x := flashBytes f (4096 * k) 4096
  if crc32 x = crc then some x
  else
    let y := flashBytes f2 (4096 * k) 4096
    if crc32 y = crc then some y else none

/-- A payload whose blocks all check good. -/
def Block.payload (b : Block) (f f2 : List (Nat × Byte)) (e : DirEntry) : Option (List Byte) :=
  let first := e.offset / 4096
  (((List.range ((e.offset + e.length + 4095) / 4096 - first)).mapM (fun i => b.goodBlock f f2 (first + i))).map
    (fun l => (l.flatten.drop (e.offset - 4096 * first)).take e.length))

/-- The payload of the entry of a type. -/
def Block.payloadOf (b : Block) (f f2 : List (Nat × Byte)) (t : Nat) : Option (List Byte) :=
  (b.brk.dir.find? (fun e => e.type == t)).bind (b.payload f f2)

/-- The gain payload of a bracket. -/
def Block.gainOf (b : Block) (f f2 : List (Nat × Byte)) (k : Nat) : Option (List Byte) := (b.brk.entry k).bind (b.payload f f2)

/-- Bytes `n` at index `i` of an array of `n`-byte values. -/
def cut (bs : List Byte) (n i : Nat) : List Byte := (bs.drop (n * i)).take n

/-- The gains of a bracket in the pixel records (R84). -/
def Block.putGain (b : Block) (k : Nat) (gain : List Byte) : Block :=
  let b := { b with mem := (List.range 786432).foldl (fun m p => Mem.writeBytes 0#8 m (recordAddr p + 2) (cut gain 2 p)) b.mem }
  let b := (b.set R.CP_STATUS.BRACKET k).set R.CP_STATUS.GAIN_BANK 0
  b.setBrk (fun x => { x with recValid := true })

/-- FLAGS of a pixel as a load writes it: SHUT_BAD cleared (R280). -/
def loadFlags (bs : List Byte) : List Byte := bs.map (fun x => BitVec.ofNat 8 (x.toNat % 4))

/-- The arrays of a cold load but the gain: records, BREF tables, CP_SHUT_REF, and the radiometric table, which the later
reverts take too (R280, R515, R669). -/
def Block.putArrays (b : Block) (drift deconv badmap radio : List Byte) : Block :=
  let m := (List.range 786432).foldl (fun m p =>
    let m := Mem.writeBytes 0#8 m (recordAddr p) (cut drift 2 p)
    Mem.writeBytes 0#8 m (recordAddr p + 4)
      (cut (drift.drop 1572864) 1 p ++ cut deconv 1 p ++ loadFlags (cut badmap 1 p) ++ cut (badmap.drop 786432) 1 p)) b.mem
  let m := Mem.writeBytes 0#8 m 0x00780000 ((drift.drop 2359296).take 1536)
  let m := Mem.writeBytes 0#8 m 0x00780800 ((drift.drop 2360832).take 2048)
  let m := Mem.writeBytes 0#8 m 0x00782000 radio
  let b := ({ b with mem := m }.set R.CP_SHUT_REF.SHUT_REF (leField drift 2362880 2)).set R.CP_STATUS.OFFSET_BANK 0
  { b with thermal := { b.thermal with driftRef := Config.offsetCal },
           overlay := { b.overlay with baseRegs := b.overlay.baseRegs.setIfInBounds 0x45 (b.word 0x45),
                                       baseMem := Mem.writeBytes 0#8 b.overlay.baseMem 0x00782000 radio } }

/-- A bracket load that takes the whole of D4, or of a wake's bracket check: the failure code, or the block (R84, R111). -/
def Block.loadBracket (b : Block) (f f2 : List (Nat × Byte)) (k : Nat) : Block × Option Nat :=
  match b.gainOf f f2 k with
  | none => (b.setBrk (fun x => { x with recValid := false }), some 5)
  | some g => (b.putGain k g, none)

/-- The cold load of the working set (R83, R280). -/
def Block.coldLoad (b : Block) (f f2 : List (Nat × Byte)) (k : Nat) : Block × Option Nat :=
  match b.payloadOf f f2 3, b.gainOf f f2 k, b.payloadOf f f2 4, b.payloadOf f f2 2, b.payloadOf f f2 5 with
  | some drift, some gain, some deconv, some badmap, some radio =>
    (((b.putArrays drift deconv badmap radio).putGain k gain).setPower (fun x => { x with coeffKept := true }), none)
  | _, _, _, _, _ => (b.setBrk (fun x => { x with recValid := false }), some 5)

/-- A copy-back that Dusk interrupted is completed (R285). -/
def Block.resumeCopyback (b : Block) : Block := (if b.brk.copyback then b.finishCopyback else b).returnBank

/-- The records hold the bracket that the measured TFPA selects (R84). -/
def Block.bracketInPlace (b : Block) : Bool := b.brk.recValid && b.brk.select b.img.lastGood == b.bracket

/-! ## D5 and D6 (R81, R85, R87, R313, R314, R377, R424, R455) -/

/-- D5 begins: the Ringmaster may tick, after the open pulse of a Dawn that found the shutter closed or its position unknown,
whatever D4 did (R85, R314, R315). -/
def Block.beginD5 (b : Block) : Block :=
  let b := (b.enterPhase 5).dawnEvent 5
  let b := b.startReadout.setPower (fun x => { x with firstPub := false })
  let b := if b.tickSource = 1 then b.joinBus else b
  let b := if b.shut.aonPos ≠ 1 then b.offerPulse { dir := .open, width := 0, source := .dawn } else b
  if b.flag R.PW_CTL.DAWN_MIDNIGHT ∧ !b.power.d4Skipped then
    let (t, b) := b.freeNat
    { b with sched := { b.sched with dawnOnly := true } }.beginMidnight (t % 4) true none
  else b

/-- D4 completes, or fails (R83, R84, R111, R285). -/
def Block.completeD4 (b : Block) (inp : DawnInput) : Block :=
  let b := b.resumeCopyback
  if b.power.coeffKept ∧ b.bracketInPlace then (b.setPower (fun x => { x with d4Skipped := true })).beginD5
  else
    let k := b.brk.select b.img.lastGood
    if inp.timeout then (b.setBrk (fun x => { x with recValid := false })).dawnFail 6
    else
      let r := if b.power.coeffKept then b.loadBracket inp.flash inp.flash2 k else b.coldLoad inp.flash inp.flash2 k
      match r.2 with
      | some c => r.1.dawnFail c
      | none => r.1.beginD5

/-- The drives run and brackets follow the prediction: D6, a wake, or an aborted sleep entry (R81, R284, R424, R455, R456). -/
def Block.startDrives (b : Block) : Block := b.startValves.startLamps.setBrk (fun x => { x with running := true })

/-- An entry armed before D6 whose fire time has passed is rejected as late; the cycle that issued it takes that as a refusal of
its pulse (R377, log entry 184). -/
def Block.rejectPassed (b : Block) (e : ArmedEntry) : Block :=
  if e.state != .held && decide (ptDiff e.tf b.clock.pt < 0) then
    ((b.freeEntry e.index).reject e 4).refusedMidnight (shutterPulseOf e)
  else b

/-- Actions are admitted (R377, R378). -/
def Block.openAdmission (b : Block) : Block :=
  let b := (b.sched.table.map (·.2)).foldl Block.rejectPassed b
  { b with sched := { b.sched with admitting := true, dawnOnly := false, resumeTick := false } }

/-- D6, in the commit window in which the first publication falls, or in the next one (R72, R82, R300). -/
def Block.completeD5 (b : Block) : Block :=
  if !b.power.firstPub ∨ !b.clock.ticked ∨ b.clock.lastTick + usec b.clock.row0 ≤ b.now then b
  else
    let b := ((b.enterPhase 6).dawnEvent 6).startDrives.openAdmission
    let b := (b.setFlag R.SYS_STATUS.RUNNING true).set R.PW_DAWN_TIME.TOTAL_MS (min 0xFFFF ((b.now - b.power.dawnStart) / msec 1))
    let b := if b.night.done then b else b.setNight (fun x => { x with lastDone := some b.now })
    (b.setPower (fun x => { x with duskHigh := true })).endRoutine .completed

/-- DAWN_PHASE: the phase in progress completes, and the next one starts (R82, R86). -/
def Block.stepDawn (b : Block) (inp : DawnInput) : Block :=
  if b.power.mode ≠ .run ∨ b.power.dusk.isSome then b
  else match b.phase with
    | 0 => b.startDawn .cold 1
    | 1 => b.completeD1 inp
    | 2 => b.completeD2 inp
    | 3 => b.completeD3
    | 4 => b.completeD4 inp
    | 5 => b.completeD5
    | _ => b

/-- A Dawn starts again at D1 (R112). -/
def Block.retryDawn (b : Block) : Block :=
  if b.phase ≠ 14 then b
  else b.startDawn (if b.power.kind = .warmD2 then .warmD1 else b.power.kind) 1

/-- A write of PW_CTL: its RW bits, DUSK_KEY and DAWN_RETRY (R88, R112). -/
def Block.writePwCtl (b : Block) (w : Word) : Block :=
  let b := (b.putFields 0x11 w).2
  let b := if R.PW_CTL.DAWN_RETRY.get w = 1 then b.retryDawn else b
  if R.PW_CTL.DUSK_KEY.get w = 0xD5 then b.startDusk .request else b

/-! ## After Dusk (R96) -/

/-- DUSK_END: after step 7 a warm Dawn starts, or the part enters DEEP (R96, R97, R642). -/
def Block.stepDuskEnd (b : Block) (pfailHigh : Bool) : Block :=
  match b.power.dusk with
  | none => b
  | some d =>
    if b.get R.PW_STATUS.DUSK_STEP ≠ 7 then b
    else
      let b := b.endRoutine .completed
      if (d.cause = .pfail ∨ d.cause = .rail) ∧ pfailHigh ∧ b.railsValid then
        let b := b.setBit R.PW_RESET_CAUSE.CAUSE 4
        if b.flag R.NV_STATUS.BASE_WRITTEN then b.startDawn .warmD1 1 else b.startDawn .warmD2 2
      else b.enterDeep

/-! ## Meanings -/

/-- DUSK_KEY: the write of PW_CTL that carries 0xD5 (R88). -/
def execDuskKey (dt : Nat) (port : Port) (value : Word) (s : State) : Host.Outcome State Fault Refusal :=
  s.runPort dt port (fun b => (.ok, b.writePwCtl value))
/-- DAWN_RETRY: the write of PW_CTL that carries DAWN_RETRY (R112). -/
def execDawnRetry (dt : Nat) (port : Port) (value : Word) (s : State) : Host.Outcome State Fault Refusal :=
  s.runPort dt port (fun b => (.ok, b.writePwCtl value))
/-- DUSK_END (R96). -/
def execDuskEnd (dt : Nat) (pfailHigh : Bool) (s : State) : Host.Outcome State Fault Refusal := s.run dt (fun b => b.stepDuskEnd pfailHigh)
/-- DAWN_PHASE (R82). -/
def execDawnPhase (dt : Nat) (inp : DawnInput) (s : State) : Host.Outcome State Fault Refusal := s.run dt (fun b => b.stepDawn inp)
/-- SETTLE_END (R670). -/
def execSettleEnd (dt : Nat) (s : State) : Host.Outcome State Fault Refusal := s.run dt Block.stepSettle
/-- DAWN_1MS_SAMPLE (R675). -/
def execDawn1msSample (dt : Nat) (inp : TickInput) (s : State) : Host.Outcome State Fault Refusal := s.run dt (fun b => b.step1ms inp)

end Sys2Proof.Machine
end

