-- ==== Sys2Proof/Machine/Sleep.lean ====
section
/-! DEFINITION. Sleep entry, the sleep states, wakes and the sleep-exit routine: the meanings of WAKE and AON_TIMER_WAKE, and
the steps that SLEEP, ROUTINE_SLICE and TICK take (chapter 03). -/

namespace Sys2Proof.Machine

/-! ## Wake sources (R102) -/

/-- The AON clock that a TIME clock lies in: 32.768 kHz (R102, log entry 75). -/
def aonClock (t : Nat) : Nat := t * 32768 / 100000000

/-- PW_WAKE_EN as it acts: as read at S0 for a sleep, else as it stands (R100, R585). -/
def Block.wakeEnable (b : Block) : Word :=
  if b.power.mode = .run ∧ b.seq.routine ≠ some .sleepEntry then b.word 0x12 else BitVec.ofNat 32 b.power.wakeEn

/-- Source `i` can be detected: the selects need VDDIO_A, a beacon VDDA and VDDIO_C, and the encoder VDDIO_C (chapter 02), and
encoder motion counts from ENC_COUNT counts on (R102). -/
def Block.wakeSeen (b : Block) (en : Word) (i : Nat) : Bool :=
  let v := b.power.valid
  match i with
  | 1 => v.contains .vddioA
  | 2 => v.contains .vddioA
  | 3 => v.contains .vdda && v.contains .vddioC
  | 4 => v.contains .vddioC && decide (max 1 (R.PW_WAKE_EN.ENC_COUNT.get en) ≤ b.clock.enc.moved.natAbs)
  | _ => true

/-- The enabled sources among those that signal (R102, R106). -/
def Block.wakeHits (b : Block) (sources : Nat) : Nat :=
  let en := b.wakeEnable
  (((List.range 6).filter (fun i => bitOf en.toNat i && bitOf sources i && b.wakeSeen en i)).map (fun i => 2 ^ i)).sum

/-! ## Back to RUN -/

/-- RUN is entered from a sleep state or an aborted entry: the drives run, and read-out and admission resume at the next tick
(R103, R104, R109, R378). -/
def Block.resumeRun (b : Block) : Block :=
  let b := (b.setPower (fun x => { x with mode := .run, duskHigh := true, resumeTick := true, wakeSrc := 0 })).setPhase 6
  { b with sched := { b.sched with resumeTick := true }, clock := { b.clock with ptRun := b.clock.ticked } }.startDrives

/-- SLEEP_ABORT: sleep entry ends at a step boundary, `step` being the step reached; the array is biased and settled again once
S3 has completed (R108, R109). -/
def Block.sleepAbort (b : Block) (step sources : Nat) (how : RoutineEnd) : Block :=
  let b := (b.setFlag R.PW_STATUS.SLEEP_ABORT true).event 0x0105 (leBytes 1 step ++ leBytes 1 sources)
  let b := b.endRoutine how
  if b.power.bias then b.resumeRun
  else
    let b := (b.setPower (fun x => { x with bias := true, phaseAt := b.now, settled := false, wakeFrom := .run })).setPhase 10
    b.startRoutine .sleepExit 1 none

/-! ## Sleep entry (R98 to R101, R108) -/

/-- SLEEP_ENTER (R101). -/
def Block.sleepEvent (b : Block) (target : Nat) : Block := b.event 0x0104 (leBytes 1 target)

/-- The code of a sleep target. -/
def PowerMode.sleepCode : PowerMode → Nat
  | .idle => 1
  | .nap => 2
  | .deep => 3
  | .run => 0
  | .off => 0
  | .inReset => 0

/-- The sleep target of a code. -/
def sleepTarget (code : Nat) : PowerMode := match code % 4 with
  | 0 => .run
  | 1 => .idle
  | 2 => .nap
  | _ => .deep

/-- SLEEP is refused (R99). -/
def Block.sleepRefused (b : Block) (target : PowerMode) : Bool :=
  !b.dawned || b.txn.owner.isSome || (target != .idle && (b.word 0x12).toNat % 64 == 0)

/-- A wake signal came in the AON clock in which SLEEP is accepted (R108). -/
def Block.wakeNow (b : Block) : Nat := match b.power.signal with
  | some (c, s) => if c = aonClock b.now then b.wakeHits s else 0
  | none => 0

/-- S0: the command is accepted, unless an enabled wake source signals in the same AON clock (R100, R108). -/
def Block.sleepAccept (b : Block) (target : PowerMode) : Block :=
  let b := b.setPower (fun x => { x with target := target, wakeSrc := 0, wakeEn := (b.word 0x12).toNat, flushStarted := false })
  let hits := b.wakeNow
  let b := b.setEnc (fun e => { e with moved := 0 })
  if hits ≠ 0 then (b.setFlag R.PW_STATUS.SLEEP_ABORT true).event 0x0105 (leBytes 1 0 ++ leBytes 1 hits)
  else (b.setPhase 9).startRoutine .sleepEntry 1 none

/-- IDLE is entered (R100, R101). -/
def Block.enterIdle (b : Block) : Block :=
  let b := (b.setPower (fun x => { x with mode := .idle, pubAt := b.now })).setPhase 8
  ((b.set R.PW_STATUS.LAST_SLEEP 1).sleepEvent 1).endRoutine .completed

/-- S2 at a tick: read-out stops, and a sleep to IDLE is complete (R100, R208). -/
def Block.sleepTick (b : Block) : Block :=
  if b.seq.routine = some .sleepEntry ∧ b.seq.step = 2 then
    if b.power.wakeSrc ≠ 0 then b.sleepAbort 2 b.power.wakeSrc .aborted
    else
      let b := b.stopReadout.cpStop
      if b.power.target = .idle then b.enterIdle else b.toStep 3
  else b

/-- NAP is entered once the write path is idle (R97, R100, R184, R610, R677). -/
def Block.enterNap (b : Block) : Block :=
  if b.writeBusy then b
  else
    let b := b.freezeWp.clearThrottle.dropFrames
    let b := if b.tickSource = 1 then b.leaveBus else b
    let b := b.setPower (fun x => { x with mode := .nap, pubAt := b.now, duskHigh := false })
    let b := { b with clock := { b.clock with ptRun := false } }
    ((b.setFlag R.TB_STATUS.PLL_LOCK false).set R.PW_STATUS.LAST_SLEEP 2).endRoutine .completed

/-- S3 is complete once the frames that are still to be published and sent are, and a copy-back is (R208, R284, R698). -/
def Block.sleepPark (b : Block) : Block :=
  let b := b.setPower (fun x => { x with bias := false })
  if b.brk.copyback || !b.img.frames.isEmpty || b.outputRuns then b
  else
    let b := b.sleepEvent b.power.target.sleepCode
    if b.power.target = .deep then b.haltNvOp.toStep 4 else b.toStep 4

/-- S4 to DEEP: once no operation of the store is in progress, a segment is written, unless PERSIST_FLUSH is 0 (R100, R637). -/
def Block.sleepFlush (b : Block) : Block :=
  if b.nvBusy then b
  else if b.power.flushStarted || !b.flag R.PW_CTL.PERSIST_FLUSH then b.toStep 5
  else (b.setPower (fun x => { x with flushStarted := true })).startSegment 2

/-- One slice of sleep entry (R100, R109). -/
def Block.sleepSlice (b : Block) : Block :=
  if b.power.wakeSrc ≠ 0 then b.sleepAbort b.seq.step b.power.wakeSrc .aborted
  else match b.seq.step with
    | 1 => ((((b.closeAdmission 9).stopValves).stopLamps).stopLoops).stopBrackets.toStep 2
    | 3 => b.sleepPark
    | 4 => if b.power.target = .deep then b.sleepFlush else b.enterNap
    | 5 => if b.nvBusy then b else b.enterDeep
    | _ => b

/-! ## Wakes (R102 to R106) -/

/-- PW_WAKE_SRC and the WAKE event of a wake (R106). -/
def Block.wakeEvent (b : Block) (left hits : Nat) : Block :=
  (b.set R.PW_WAKE_SRC.SRC hits).event 0x0106 (leBytes 1 left ++ leBytes 1 hits)

/-- A wake from IDLE: RUN at once (R98, R103). -/
def Block.wakeIdle (b : Block) (hits : Nat) : Block :=
  let b := b.resumeRun.wakeEvent 1 hits
  if b.seq.routine.isNone then b.setSeq (fun x => { x with lastRoutine := RoutineKind.sleepExit.code, lastEnd := .completed }) else b

/-- A wake from NAP: the sleep-exit routine begins (R104). -/
def Block.wakeNap (b : Block) (hits : Nat) : Block :=
  let b := (b.setPower (fun x => { x with wakeFrom := .nap, wakeSrc := hits, settled := false })).setPhase 10
  (b.startRoutine .sleepExit 0 none).wakeEvent 2 hits

/-- A wake from DEEP: Dawn from D1 (R78, R105). -/
def Block.wakeDeep (b : Block) (hits : Nat) : Block :=
  ((b.setBit R.PW_RESET_CAUSE.CAUSE 3).startDawn .deepWake 1).wakeEvent 3 hits

/-- SLEEP: to RUN it wakes the part from IDLE, or has no effect in RUN; else it is refused or accepted (R98, R99, R559): one
reply, at S0. -/
def Block.stepSleep (b : Block) (code : Nat) (dst : Option ReplyTo) : Block :=
  let target := sleepTarget code
  if target = .run then (if b.power.mode = .idle then b.wakeIdle 0 else b).replyOpt dst 0 []
  else if b.sleepRefused target then b.replyOpt dst 4 []
  else (b.replyOpt dst 0 []).sleepAccept target

/-- Enabled sources signal (R102, R109, R110). -/
def Block.wakeBy (b : Block) (hits : Nat) : Block :=
  if hits = 0 then b
  else if b.seq.routine = some .sleepEntry then b.setPower (fun x => { x with wakeSrc := x.wakeSrc ||| hits })
  else if b.seq.routine = some .sleepExit then b.set R.PW_WAKE_SRC.SRC (b.get R.PW_WAKE_SRC.SRC ||| hits)
  else match b.power.mode with
    | .idle => b.wakeIdle hits
    | .nap => b.wakeNap hits
    | .deep => b.wakeDeep hits
    | .run => b
    | .off => b
    | .inReset => b

/-- WAKE: the sources given signal, as bits in the order of PW_WAKE_EN (R102). -/
def Block.stepWake (b : Block) (sources : Nat) : Block :=
  let b' := if b.power.mode = .run ∨ b.power.mode = .idle then
      b.setPower (fun x => { x with signal := some (aonClock b.now, sources % 32) })
    else b
  b'.wakeBy (b.wakeHits (sources % 32))

/-- AON_TIMER_WAKE: PERIOD AON clocks after the publish point (R102). -/
def Block.stepAonTimer (b : Block) : Block :=
  let asleep := b.power.mode == .idle || b.power.mode == .nap || b.power.mode == .deep
  if asleep ∧ b.seq.routine ≠ some .sleepEntry ∧
     100000000 * b.get R.PW_AON_TIMER.PERIOD ≤ 32768 * (b.now - b.power.pubAt) then b.wakeBy (b.wakeHits 32)
  else b

/-! ## Sleep exit (R104, R111) -/

/-- The array is biased again, and the model starts afresh with the first sample of the settle (R104, R677). -/
def Block.wakeBias (b : Block) : Block :=
  let b := (b.setFlag R.TB_STATUS.PLL_LOCK true).setPower (fun x => { x with bias := true, phaseAt := b.now, settled := false })
  (b.setTh (fun x => { x with started := false, power := [] })).toStep 1

/-- The bracket check fails: Dawn halts with the code of D4 (R104, R111). -/
def Block.wakeFail (b : Block) (code : Nat) : Block :=
  let b := (b.setPower (fun x => { x with mode := .run })).setPhase 4
  { b with clock := { b.clock with ticked := false } }.setFlag R.SYS_STATUS.RUNNING false |>.dawnFail code

/-- The bracket check, as in D4 (R84, R104). -/
def Block.wakeBracket (b : Block) (inp : SliceInput) : Block :=
  if b.bracketInPlace then b.toStep 3
  else
    let r := if inp.timeout then (b.setBrk (fun x => { x with recValid := false }), some 6)
      else b.loadBracket inp.flash inp.flash2 (b.brk.select b.img.lastGood)
    match r.2 with
    | some c => r.1.wakeFail c
    | none => r.1.toStep 3

/-- RUN is entered from NAP (R97, R104). -/
def Block.wakeDone (b : Block) : Block :=
  let b := (b.endRoutine .completed).resumeRun
  if b.tickSource = 1 then b.joinBus else b

/-- One slice of sleep exit (R104, R109). -/
def Block.wakeSlice (b : Block) (inp : SliceInput) : Block :=
  match b.seq.step with
  | 0 => b.wakeBias
  | 1 => if !b.power.settled then b
         else if b.power.wakeFrom = .nap then b.toStep 2
         else (b.endRoutine .completed).resumeRun
  | 2 => b.wakeBracket inp
  | _ => b.wakeDone

/-! ## Meanings -/

/-- WAKE (R102). -/
def execWake (dt sources : Nat) (s : State) : Host.Outcome State Fault Refusal := s.run dt (fun b => b.stepWake sources)
/-- AON_TIMER_WAKE (R102). -/
def execAonTimerWake (dt : Nat) (s : State) : Host.Outcome State Fault Refusal := s.run dt Block.stepAonTimer

end Sys2Proof.Machine
end

