-- ==== Sys2Proof/Machine/Tick.lean ====
section
/-! DEFINITION. The Ringmaster: when a tick falls, and all that a tick does; the meanings of TICK, TICK_DEFERRED, TICK_FORCED,
THROTTLE_GRACE_END and CLOCK_FAIL (chapters 01, 04 and 05). -/

namespace Sys2Proof.Machine

/-! ## When a tick falls (R122, R139, R153 to R155, R165, R183) -/

/-- How a tick falls: as its source has it, deferred to MIN_PERIOD, or forced at MAX_PERIOD. -/
inductive TickKind
  | plain | deferred | forced
deriving DecidableEq, Repr

/-- The open pulse of D5 has not ended, or its position check is due (R85, R314, log entry 76). -/
def Block.dawnPulse (b : Block) : Bool :=
  (b.shut.pulse.toList ++ b.shut.waiting ++ b.shut.check.toList).any (fun p => p.source == .dawn)

/-- Ticks are issued, or tick 0 may be: from D5 until Dusk step 7, outside NAP (R87, R139, R140). -/
def Block.mayTick (b : Block) : Bool :=
  b.ticking || (b.power.mode == .run && b.phase == 5 && b.power.dusk.isNone && !b.dawnPulse)

/-- What the next tick is timed from: the last one, or on a new master its election tick (R172, R178). -/
def Block.tickBase (b : Block) : Nat := if b.tickSource = 1 then max b.clock.lastTick b.clock.sync.electionAt else b.clock.lastTick

/-- Tick 0 falls at once: a source of its own has nothing before it to be timed from (R87, R122). -/
def Block.atOnce (b : Block) : Bool := !b.clock.ticked && b.tickSource != 1

/-- How an encoder tick falls now: at its target, but no earlier than MIN_PERIOD and no later than MAX_PERIOD after the last tick
(R153 to R155). -/
def Block.encTick (b : Block) : Option TickKind :=
  let low := b.tickBase + b.periodInForce
  let high := b.tickBase + b.encMax
  if b.atOnce then some .plain
  else if b.now < low then none
  else if !b.clock.enc.targeted then some (if high ≤ b.now then .forced else .plain)
  else match b.reachedAt with
    | some t => if t ≤ high then some (if t < low then .deferred else .plain) else some .forced
    | none => if high ≤ b.now then some .forced else none

/-- How a tick falls now, from the source in force; a unit on the sync bus that is not master has no ticks but those it predicts
from a beacon (R122, R157, R165, R183, log entries 69 and 77). -/
def Block.tickKind (b : Block) : Option TickKind :=
  if !b.mayTick then none
  else if b.tickSource = 1 ∧ b.role ≠ 3 then
    if b.role = 2 ∧ b.clock.sync.hasPred ∧ b.clock.sync.predicted ≤ 10 * b.now then some .plain else none
  else if b.encTicks then b.encTick
  else if b.atOnce ∨ b.tickBase + b.periodInForce ≤ b.now then some .plain else none

/-! ## The stamps of a tick (R87, R123, R129, R144, R152) -/

/-- PT at tick 0: 0, or the master's PT on a unit that follows a beacon, which it takes by a PT_STEP (R144, R168). -/
def Block.firstPt (b : Block) : Block :=
  let b := match b.clock.sync.ptAdjust with
    | none => { b with clock := { b.clock with pt := 0#48 } }
    | some pt =>
      let e := ptDiff pt b.clock.pt
      if 100 < e.natAbs then b.setSync (fun x => { x with ptStep := some e }) else { b with clock := { b.clock with pt := pt } }
  let b := b.setSync (fun x => { x with started := true })
  { b with clock := { b.clock with ptRun := true } }

/-- Tick `n`: the tick count, TB_FRAME and PT; at tick 0 PT starts at 0, or at the master's (R87, R123, R144, R168). -/
def Block.stampTick (b : Block) : Block :=
  let first := !b.clock.ticked
  let b := b.set R.TB_FRAME.FRAME b.tickNext
  let b := if first then b.firstPt else b
  let b := b.followPt
  let row0 := max 120 (min 1000 (b.get R.TB_ROW0.ROW0_DELAY))
  { b with clock := { b.clock with lastTick := b.now, tickPt := b.clock.pt, ticked := true, row0 := row0 } }

/-- The targets of encoder ticks and the prediction of a follower move on (R153, R154, R165). -/
def Block.nextTarget (b : Block) (k : TickKind) : Block :=
  if b.encTicks then (if k = .forced ∧ b.clock.enc.targeted then b else b.consumeTargets)
  else (b.setEnc (fun e => { e with targeted := false, reached := 0, reachedAt := none })).setSync (fun x => { x with
    predicted := x.predicted + 10 * x.period, awaits := x.hasPred && b.role == 2 })

/-- The event of a deferred or a forced tick (R154, R155). -/
def Block.tickEvent (b : Block) (k : TickKind) (consumed : Nat) : Block :=
  match k with
  | .plain => b
  | .deferred => b.event 0x010C (leBytes 4 consumed)
  | .forced => b.event 0x010D (leBytes 5 b.wp.toNat)

/-! ## Step 1: samples, thresholds and the model (R40, R123, R135, R445, R653, R677) -/

/-- The samples of tick `n`, with the lamps' budget; the answer says whether SHUTDOWN is reached. -/
def Block.measure (b : Block) (n : Nat) (inp : TickInput) : Block × Bool :=
  let b := (b.powerSample inp.iCode inp.vcore).lampTick inp.vlmp inp.ilmp
  let sampled := b.samplesAt n
  let (b, hot) := if sampled then b.thermalSample inp.sites else (b, false)
  let b := b.applyWork
  (if b.thermal.started then b.modelUpdate sampled else b.startModel.latchModel false, hot)

/-! ## Step 3: re-aim (R354, R356) -/

/-- PT, WP and the velocity are captured, and every armed WP entry is re-aimed. -/
def Block.captureAim (b : Block) : Block :=
  { b with sched := { b.sched with ptK := b.clock.tickPt, wpK := b.wp, vel := signed 32 (b.get R.TB_ENC_VEL.VEL) } }.reaim

/-! ## Step 4: the commit window (R27, R28, R192, R209) -/

/-- TICK_SRC has changed in the window (R122, R157). -/
def Block.sourceChange (b : Block) (old : Nat) : Block :=
  if old ≠ 1 ∧ b.tickSource = 1 then b.joinBus
  else if old = 1 ∧ b.tickSource ≠ 1 then b.leaveBus
  else b

/-- WIN_CLIP in the window where a clipped value takes effect (R192). -/
def Block.winClipEvent (b : Block) : Block :=
  let a := windowAsked (b.get R.FP_WIN.Y0_8) (b.get R.FP_WIN.H_8)
  if !b.winClipped then b.setImg (fun x => { x with winPrev := none })
  else if b.img.winPrev = some a then b
  else (b.setImg (fun x => { x with winPrev := some a })).event 0x0206
    (leBytes 2 a.1 ++ leBytes 2 a.2 ++ leBytes 2 (768 - a.1))

/-- The bias level and width in force (R209). -/
def Block.biasSet (b : Block) : Nat × Nat := (b.get R.FP_BIAS.LEVEL, b.get R.FP_ROWPHASE.BIAS_WIDTH)

/-- A change of the bias level or width marks four frames with BIAS_SETTLE; window 0 compares with `was`, what was in force before
it (R209). -/
def Block.biasChange (b : Block) (first : Bool) (was : Nat × Nat) : Block :=
  let now := b.biasSet
  let old := if first then was else (b.img.levelPrev, b.img.widthPrev)
  b.setImg (fun x => { x with
    levelPrev := now.1, widthPrev := now.2, settle := if now ≠ old then 4 else if first then 0 else x.settle - 1 })

/-- A tick period below the read-out minimum while frames are read is undefined behaviour (R130, R156, R718). -/
def Block.periodCheck (b : Block) : Block :=
  if b.img.enabled ∧ b.power.mode = .run ∧ !b.follower ∧
      b.periodInForce < 2 * (b.rowSlots * rowTime (b.get R.FP_ROWCFG.ROW_TIME)) then b.enterUndef .readoutMinimum
  else b

/-- The changes of commit window `n`, in the order of R28. -/
def Block.tickWindow (b : Block) (n : Nat) (first : Bool) : Block :=
  let old := b.tickSource
  let was := b.biasSet
  let b := b.setZe (fun x => { x with resets := [] })
  let b := ((b.nightWindow n).bracketWindow).nightAccept
  let b := ((b.commitWindow n).sourceChange old).throttleRate
  (b.winClipEvent.biasChange first was).periodCheck

/-! ## The rest of a tick -/

/-- What waits for a tick resumes: rails, read-out, admission, loops and output (R76, R103, R347, R378, R696). -/
def Block.tickResume (b : Block) : Block :=
  let b := b.setPower (fun x => { x with valid := allRails.filter (fun q => x.valid.contains q || x.restoring.contains q), restoring := [] })
  let b := if b.power.resumeTick then (b.setPower (fun x => { x with resumeTick := false })).startReadout else b
  let b := if b.sched.resumeTick then b.openAdmission else b
  (b.setZe (fun x => { x with loopsOn := x.loopsOn || x.loopsDue, loopsDue := false, loopTick := true })).phyTick

/-- Armed-table entries found uncorrectable are flushed; the TAG of their record is a free value (R376). -/
def Block.eccEntry (b : Block) (i : Nat) : Block :=
  match b.entry i with
  | none => b
  | some e =>
    let (t, b) := b.freeNat
    Block.flushEntry 10 (b.inc R.AS_STATUS.ECC) { e with tag := t % 65536 }

/-- The measured boost supply and the decisions of a tick; those of a tick at which the model starts again wait for MODEL_RESET
(R409, R673). -/
def Block.tickLoads (b : Block) (inp : TickInput) : Block :=
  let b := (b.setBoost (fun k => { k with vbat := inp.vbat })).boostSense inp.vboost
  if b.modelResetDue then b else b.tickDecide

/-- A tick falls (R123). -/
def Block.tickFalls (b : Block) (k : TickKind) (inp : TickInput) : Block :=
  let first := !b.clock.ticked
  let last := b.clock.lastTick
  let consumed := b.targetsReached
  let b := b.stampTick
  let n := b.get R.TB_FRAME.FRAME
  let b := b.tickResume.sleepTick
  let b := (b.nextTarget k).tickEvent k consumed
  let b := b.encError.encVelocity first last
  let b := if first then b.setTh (fun x => { x with mismatch := 0 }) else b
  let (b, hot) := b.measure n inp
  let b := (b.sendBeacon inp.clash).captureAim
  let b := inp.eccEntries.foldl Block.eccEntry b
  let b := (b.tickWindow n first).budgetPlan
  let b := b.tickLoads inp
  let b := b.endRefused
  if hot then b.startDusk .thermal else b

/-- The tick of a row falls where one of that kind is due. -/
def Block.stepTick (b : Block) (k : TickKind) (inp : TickInput) : Block :=
  if b.tickKind = some k then b.latchWps.tickFalls k inp else b

/-- THROTTLE_GRACE_END in its window: the plan of the tick's frame sees what it changed (R123, R135, R660, R663). -/
def Block.stepThrottle (b : Block) : Block := if b.graceOver then b.stepGraceEnd.budgetPlan else b

/-- REF can be lost, or the PLL unlock, here: in RUN, which starts with the end of D0, or IDLE (R80, R137). -/
def Block.clockMayFail (b : Block) (refLost : Bool) : Bool :=
  (b.power.mode == .run || b.power.mode == .idle) && b.phase != 0 &&
  (if refLost then !b.flag R.TB_STATUS.REF_LOST else b.flag R.TB_STATUS.PLL_LOCK)

/-- CLOCK_FAIL in RUN or IDLE: REF is lost, or a PLL that has locked unlocks (R137). -/
def Block.stepClockFail (b : Block) (refLost : Bool) : Block :=
  if !b.clockMayFail refLost then b
  else
    let b := if refLost then b.setFlag R.TB_STATUS.REF_LOST true else b.setFlag R.TB_STATUS.PLL_LOCK false
    (b.event 0x0109 (leBytes 1 (bit (!refLost)))).startDusk .clock

/-! ## Meanings -/

/-- TICK (R123). -/
def execTick (dt : Nat) (inp : TickInput) (s : State) : Host.Outcome State Fault Refusal := s.run dt (fun b => b.stepTick .plain inp)
/-- TICK_DEFERRED (R154). -/
def execTickDeferred (dt : Nat) (inp : TickInput) (s : State) : Host.Outcome State Fault Refusal := s.run dt (fun b => b.stepTick .deferred inp)
/-- TICK_FORCED (R155). -/
def execTickForced (dt : Nat) (inp : TickInput) (s : State) : Host.Outcome State Fault Refusal := s.run dt (fun b => b.stepTick .forced inp)
/-- THROTTLE_GRACE_END (R660). -/
def execThrottleGraceEnd (dt : Nat) (s : State) : Host.Outcome State Fault Refusal := s.run dt Block.stepThrottle
/-- CLOCK_FAIL (R137). -/
def execClockFail (dt : Nat) (refLost : Bool) (s : State) : Host.Outcome State Fault Refusal := s.run dt (fun b => b.stepClockFail refLost)

end Sys2Proof.Machine
end

