-- ==== Sys2Proof/Machine/Sequencer.lean ====
section
/-! DEFINITION. The Thisan sequencer: commands, what is held and what waits, slices of the micro-routines, restarts, replies
and peer words: the meanings of every sequencer command, ROUTINE_SLICE, SEQ_RESTART, DEFERRED_COMMAND_START, REPLY_ENQUEUE,
PEER_RX and PEER_QUEUE_ENTER (chapters 16 and 17). -/

namespace Sys2Proof.Machine

/-! ## Taking commands (R554, R557, R561) -/

/-- What runs a command: where its replies go, and its arguments. -/
abbrev CmdBody := ReplyTo → List Nat → Block → Block

/-- The command leaves its queue; eligible sources are taken first (R554, R581). -/
def Block.takeCommand (b : Block) (ch : Nat) (args : List Word) : Block := b.seqTakeSources.dequeue ch 2 (args.length + 1)

/-- A command that starts no routine executes between slices (R557). -/
def Block.plainCommand (b : Block) (ch op : Nat) (f : CmdBody) : Block :=
  let b := b.settleDiscard ch
  match b.goodCommand ch op with
  | some (w, args) => f ⟨ch, cmdTag w⟩ (args.map BitVec.toNat) (b.takeCommand ch args)
  | none => b

/-- The deferred slot of a channel is occupied (R557). -/
def Block.slotFull (b : Block) (ch : Nat) : Bool := b.seq.held.any (fun h => match h with
  | .command c _ _ => c == ch
  | .midnight _ => false)

/-- A routine may start: none runs, nothing is held, and Dawn has reached D6 (R557, R563). -/
def Block.mayStart (b : Block) : Bool := b.seqFree && b.dawned

/-- A routine command: it runs, or takes its channel's deferred slot, or waits in the queue (R557, R563). -/
def Block.routineCommand (b : Block) (ch op : Nat) (f : CmdBody) : Block :=
  let b := b.settleDiscard ch
  match b.goodCommand ch op with
  | some (w, args) =>
    if b.mayStart then f ⟨ch, cmdTag w⟩ (args.map BitVec.toNat) (b.takeCommand ch args)
    else if b.slotFull ch then b
    else (b.takeCommand ch args).hold (.command ch w args)
  | none => b

/-- APPLY_OVERLAY or COMMIT_ARMED: a Midnight cycle before M8 is aborted and the command runs at once; at or after M8 the
command waits in the mailbox (R517). -/
def Block.overlayCommand (b : Block) (ch op : Nat) (f : CmdBody) : Block :=
  if b.seq.routine = some .midnight then
    if 8 ≤ b.night.step then b else b.plainCommand ch op (fun dst args b => f dst args (b.abortMidnight 1))
  else b.routineCommand ch op f

/-- The record of the overlay that the next command names can be read: the store is not busy (R511, R618). -/
def Block.infoReady (b : Block) (ch : Nat) : Bool := match b.nextCommand ch with
  | some (_, [w]) => (b.slotOf (w.toNat % 256)).src != 1 || !b.nvBusy
  | _ => true

/-- The sequencer would take the command at the front of a channel if it visited the channel now (R517, R554, R557, R563). -/
def Block.takeable (b : Block) (ch : Nat) : Bool :=
  let b := b.settleDiscard ch
  let routine := b.mayStart || !b.slotFull ch
  match b.nextCommand ch with
  | none => false
  | some (w, _) =>
    if !cmdGood w then true
    else match cmdOp w with
      | 0x10 => if b.seq.routine = some .midnight then decide (b.night.step < 8) else routine
      | 0x12 => if b.seq.routine = some .midnight then decide (b.night.step < 8) else routine
      | 0x11 => routine
      | 0x13 => b.infoReady ch
      | 0x20 => routine
      | 0x30 => routine
      | 0x40 => !b.dawned || routine
      | 0x52 => routine
      | _ => true

/-- A command that starts no routine waits: it is executed before the routine resumes (R557, R581). -/
def Block.plainWaits (b : Block) : Bool :=
  (List.range 8).any (fun ch => b.takeable ch && (match (b.settleDiscard ch).nextCommand ch with
    | some (w, _) => !cmdGood w || !([0x10, 0x11, 0x12, 0x20, 0x30, 0x40, 0x52].contains (cmdOp w)) || (cmdOp w == 0x40 && !b.dawned)
    | none => false))

/-- The channel that the sequencer visits next with something to take: the channels in ascending number from the one after the
last visited (R554). -/
def Block.nextVisit (b : Block) : Option Nat := ((List.range 8).map (fun i => (b.seq.visited + 1 + i) % 8)).find? b.takeable

/-- The sequencer stands at a channel. -/
def Block.visiting (b : Block) (ch : Nat) : Block := b.setSeq (fun x => { x with visited := ch })

/-- One visit takes one command: nothing happens out of a channel's turn (R554). -/
def Block.visit (ch : Nat) (f : Block → Block) (b : Block) : Block := if b.nextVisit = some ch then f (b.visiting ch) else b

/-- SLEEP: before Dawn has reached D6 it is judged, and refused, at once; from then on it is a routine command (R99, R557). -/
def Block.sleepCommand (b : Block) (ch : Nat) (f : CmdBody) : Block :=
  if b.dawned then b.routineCommand ch 0x40 f else b.plainCommand ch 0x40 f

/-! ## The commands that start no routine (R559) -/

/-- PING: its arguments are echoed. -/
def runPing : CmdBody := fun dst args b => b.reply dst 0 args

/-- VERSION. -/
def runVersion : CmdBody := fun dst _ b => b.reply dst 0 [Config.romVersion % 2 ^ 16 + 2 ^ 16 * b.get R.SYS_FW.PATCH_VER, 1]

/-- Deferred commands held. -/
def Block.heldCommands (b : Block) : Nat := (b.seq.held.filter (fun h => match h with
  | .command _ _ _ => true
  | .midnight _ => false)).length

/-- STATUS. -/
def runStatus : CmdBody := fun dst _ b =>
  b.reply dst 0 [b.routineCode + 16 * (b.seq.step % 16) + 2 ^ 8 * b.heldCommands + 2 ^ 16 * b.get R.CFG_OVERLAY.ACTIVE, b.get R.TB_FRAME.FRAME]

/-- An overlay id is out of range: an overlay has an id from 0 to 63 (R510, R556, log entry 79). -/
def badOverlay (id : Nat) : Bool := decide (63 < id)

/-- SEQ and the NAME words of a record's header (R559, R750). -/
def infoWords (h : List Byte) : List Nat := recSeq h :: (List.range 4).map (fun i => leField h (8 + 4 * i) 4)

/-- OVERLAY_INFO, the header of a record in flash being what the memory port read; SEQ and NAME of an absent overlay, or of a
record that cannot be read, are free values (log entry 78). -/
def runOverlayInfo (header : List Byte) : CmdBody := fun dst args b =>
  let id := args.headD 0 % 256
  let slot := b.slotOf id
  let w1 := slot.src + 2 ^ 16 * slot.len
  if badOverlay id then b.reply dst 3 []
  else match slot.src with
  | 0 => b.reply dst 0 (w1 :: infoWords (padTo 32 0xFF#8 header))
  | 1 =>
    let cur := b.inForce slot.addr (slotPages slot.len)
    let b := b.nvTell (b.pairFound slot.addr (slotPages slot.len))
    match cur with
    | some (c, i) => b.reply dst 0 (w1 :: infoWords (b.nvBytes (slot.addr + 64 * slotPages slot.len * c) i.len))
    | none => let r := b.freeBytes 32; r.2.reply dst 0 (w1 :: infoWords r.1)
  | _ => let r := b.freeBytes 32; r.2.reply dst 0 (w1 :: infoWords r.1)

/-- LOG_READ: fault-log records are copied into a ring of the sender (R534, R559, R560). -/
def runLogRead : CmdBody := fun dst args b =>
  let k := args.headD 0 % 32
  let n := args.getD 2 0
  let r := b.ring k
  if n = 0 ∨ 64 < n then b.reply dst 3 []
  else if !r.en || !(r.role == 1 || r.role == 2) || (b.hostEnd dst.ch != some r.owner) then b.reply dst 4 []
  else
    let l := (b.nv.log.drop (args.getD 1 0)).take n
    (l.foldl (fun b e => b.ringPut k (some e.seq) e.entry) b).reply dst 0 [l.length]

/-- LOG_INFO: the sequence of the oldest record of an empty log is a free value (log entry 78). -/
def runLogInfo : CmdBody := fun dst _ b =>
  match b.nv.log with
  | e :: _ => b.reply dst 0 [b.nv.log.length, e.seq]
  | [] => let r := b.freeNat; r.2.reply dst 0 [0, r.1]

/-- BRACKET_FORCE (R273). -/
def runBracketForce : CmdBody := fun dst args b =>
  let k := args.headD 0 % 32
  if k = 31 then (b.forceBracket none).reply dst 0 []
  else if 16 ≤ k then b.reply dst 3 []
  else (b.forceBracket (some k)).reply dst 0 []

/-- PEER_SEND: a slot is queued, or FULL is answered (R179, R559, R750). -/
def runPeerSend : CmdBody := fun dst args b =>
  if b.peerRoom then (b.queuePeer (args.flatMap (leBytes 4))).reply dst 0 [] else b.reply dst 7 []

/-- The flush is aborted: in F0 nothing is written, and a segment write that has started completes on its own (R583, R638). -/
def Block.abortFlush (b : Block) : Block := b.disownFlush.finishRoutine .aborted 6 []

/-- ABORT_ROUTINE: answered OK with the code of the routine, or REFUSED (R518, R583). -/
def runAbort : CmdBody := fun dst _ b =>
  match b.seq.routine with
  | some .midnight => (b.abortMidnight 0).reply dst 0 [3]
  | some .overlay => b.abortOverlay.reply dst 0 [4]
  | some .flush => b.abortFlush.reply dst 0 [5]
  | some .sleepEntry => (b.sleepAbort b.seq.step 0 .aborted).reply dst 0 [6]
  | some .dawn => b.reply dst 4 []
  | some .dusk => b.reply dst 4 []
  | some .sleepExit => b.reply dst 4 []
  | none => if b.overlayArmed then (b.rollbackTxn 4).reply dst 0 [4] else b.reply dst 4 []

/-! ## The commands that start a routine (R559) -/

/-- A commit tick: 0xFFFF_FFFF asks for the next window. -/
def commitTick (w : Nat) : Option Nat := if w = 0xFFFFFFFF then none else some w

/-- APPLY_OVERLAY; id 0xFF asks for the base. -/
def runApply : CmdBody := fun dst args b =>
  let id := args.headD 0 % 256
  if badOverlay id && id != 0xFF then b.reply dst 3 [] else b.startApply id (commitTick (args.getD 1 0)) false (some dst)

/-- ARM_OVERLAY; id 0xFF asks for the base. -/
def runArm : CmdBody := fun dst args b =>
  let id := args.headD 0 % 256
  if badOverlay id && id != 0xFF then b.reply dst 3 [] else b.startApply id none true (some dst)

/-- COMMIT_ARMED. -/
def runCommitArmed : CmdBody := fun dst args b => b.startCommitArmed (commitTick (args.headD 0)) (some dst)

/-- START_MIDNIGHT. -/
def runStartMidnight : CmdBody := fun dst _ b => b.beginMidnight 2 false (some dst)

/-- NV_FLUSH. -/
def runNvFlush : CmdBody := fun dst _ b => b.startFlush 0 (some dst)

/-- LOG_CLEAR. -/
def runLogClear : CmdBody := fun dst _ b => b.startFlush 3 (some dst)

/-- SLEEP. -/
def runSleep : CmdBody := fun dst args b => b.stepSleep (args.headD 0 % 4) (some dst)

/-- A held routine command, by its opcode. -/
def runHeld (op : Nat) : CmdBody := match op with
  | 0x10 => runApply
  | 0x11 => runArm
  | 0x12 => runCommitArmed
  | 0x20 => runStartMidnight
  | 0x30 => runNvFlush
  | 0x40 => runSleep
  | 0x52 => runLogClear
  | _ => fun _ _ b => b

/-- DEFERRED_COMMAND_START: what was held first starts when no routine runs (R301, R557). -/
def Block.stepDeferred (b : Block) : Block :=
  if !b.seqListens || b.seq.routine.isSome || !b.dawned then b
  else match b.seq.held with
    | [] => b
    | h :: rest =>
      let b := b.setSeq (fun x => { x with held := rest })
      match h with
      | .command ch w args => runHeld (cmdOp w) ⟨ch, cmdTag w⟩ (args.map BitVec.toNat) b
      | .midnight t => b.beginMidnight t false none

/-- BAD_COMMAND: an unknown opcode or a wrong argument count is answered, and its argument words are discarded (R561). -/
def Block.stepBadCommand (b : Block) (ch : Nat) : Block :=
  let b := b.settleDiscard ch
  match b.nextCommand ch with
  | none => b
  | some (w, args) =>
    if cmdGood w then b
    else
      let b := b.takeCommand ch args
      let b := if 7 < cmdCount w then
          (b.setSeq (fun x => { x with discard := x.discard.set ch (cmdCount w) })).settleDiscard ch
        else b
      b.reply ⟨ch, cmdTag w⟩ (if (cmdArgs (cmdOp w)).isSome then 3 else 2) []

/-! ## Peer words (R552, R555) -/

/-- The bytes of mailbox words (R750). -/
def wordBytes (ws : List Word) : List Byte := ws.flatMap (fun w => leBytes 4 w.toNat)

/-- PEER_RX: a peer message that reached SEQ is written to ring 0 (R555). -/
def Block.stepPeerRx (b : Block) (ch : Nat) : Block :=
  if !b.seqListens || b.otherEnd ch 2 != some 3 || decide ((b.toward ch 2).length < 4) then b
  else
    let m := wordBytes ((b.toward ch 2).take 4)
    (b.dequeue ch 2 4).eventFrom 0x0B05 (leField m 0 2) 0 ((m.drop 2).take 14)

/-- PEER_QUEUE_ENTER: four words toward PEER enter the outbound queue when it has room (R552). -/
def Block.stepPeerEnter (b : Block) (ch : Nat) : Block :=
  let e := b.booth ch
  let toPeer := (e.other 3).isSome
  if (b.power.mode ≠ .run ∧ b.power.mode ≠ .idle) ∨ !toPeer ∨ !b.peerRoom ∨ (b.toward ch 3).length < 4 then b
  else
    let m := wordBytes ((b.toward ch 3).take 4)
    (b.dequeue ch 3 4).queuePeer m

/-- REPLY_ENQUEUE: the first reply waiting on the channel enters its queue when there is room (R558). -/
def Block.stepReplyEnter (b : Block) (ch : Nat) : Block :=
  if b.power.mode = .run ∨ b.power.mode = .idle then b.enterReply ch else b

/-! ## Slices and restarts (R580 to R584, R711, R712) -/

/-- The sequencer works: in RUN and IDLE, and in the exit from NAP. -/
def Block.seqWorks (b : Block) : Bool := b.power.mode == .run || b.power.mode == .idle || b.seq.routine == some .sleepExit

/-- What a Midnight cycle does at a step boundary: an abort that waits takes effect, or M0 takes the shadow (R293, R309). -/
def Block.nightSlice (b : Block) : Block :=
  match b.night.abortCause with
  | some c => b.abortMidnight c
  | none => b.nightAccept

/-- ROUTINE_SLICE: eligible sources are taken, but not in Dusk; then the running routine goes on, once no command that starts no
routine waits (R578, R581, R584). -/
def Block.stepSlice (b : Block) (inp : SliceInput) : Block :=
  if !b.seqWorks then b
  else if b.seq.routine = some .dusk then b.sliceDone.duskSlice
  else
    let b := if b.seqListens then (List.range 8).foldl Block.settleDiscard b.seqTakeSources else b
    if b.plainWaits then b
    else
      let b := if b.night.running then b.sliceDone.nightSlice else b.sliceDone
      match b.seq.routine with
      | some .overlay => b.overlaySlice
      | some .flush => b.flushSlice
      | some .sleepEntry => b.sleepSlice
      | some .sleepExit => b.wakeSlice inp
      | some .dawn => b
      | some .dusk => b
      | some .midnight => b
      | none => b

/-- SEQ_RESTART: a slice ran 100 µs; the third restart of a slice starts Dusk, or skips the rest of a Dusk step (R711, R712). -/
def Block.stepRestart (b : Block) : Block :=
  if !b.seqWorks || b.seq.routine.isNone then b
  else
    let n := b.seq.restarts + 1
    let b := (b.setSeq (fun x => { x with restarts := n })).receiverReset 2 0
    let b := b.eventFrom 0x0115 0 0 (leBytes 1 b.routineCode ++ leBytes 1 b.seq.step ++ leBytes 1 n)
    if n < 3 then b
    else if b.seq.routine = some .dusk then b.duskDone b.seq.step
    else b.startDusk .request

/-! ## Meanings -/

/-- PING (R559). -/
def execPing (dt ch : Nat) (s : State) : Host.Outcome State Fault Refusal := s.run dt (Block.visit ch (fun b => b.plainCommand ch 0x01 runPing))
/-- VERSION (R559). -/
def execVersion (dt ch : Nat) (s : State) : Host.Outcome State Fault Refusal := s.run dt (Block.visit ch (fun b => b.plainCommand ch 0x02 runVersion))
/-- STATUS (R559). -/
def execStatus (dt ch : Nat) (s : State) : Host.Outcome State Fault Refusal := s.run dt (Block.visit ch (fun b => b.plainCommand ch 0x03 runStatus))
/-- APPLY_OVERLAY (R513, R517). -/
def execApplyOverlay (dt ch : Nat) (s : State) : Host.Outcome State Fault Refusal :=
  s.run dt (Block.visit ch (fun b => b.overlayCommand ch 0x10 runApply))
/-- ARM_OVERLAY (R513). -/
def execArmOverlay (dt ch : Nat) (s : State) : Host.Outcome State Fault Refusal := s.run dt (Block.visit ch (fun b => b.routineCommand ch 0x11 runArm))
/-- COMMIT_ARMED (R513, R517). -/
def execCommitArmed (dt ch : Nat) (s : State) : Host.Outcome State Fault Refusal :=
  s.run dt (Block.visit ch (fun b => b.overlayCommand ch 0x12 runCommitArmed))
/-- OVERLAY_INFO (R559). -/
def execOverlayInfo (dt ch : Nat) (header : List Byte) (s : State) : Host.Outcome State Fault Refusal :=
  s.run dt (Block.visit ch (fun b => b.plainCommand ch 0x13 (runOverlayInfo header)))
/-- START_MIDNIGHT (R300). -/
def execStartMidnight (dt ch : Nat) (s : State) : Host.Outcome State Fault Refusal :=
  s.run dt (Block.visit ch (fun b => b.routineCommand ch 0x20 runStartMidnight))
/-- ABORT_ROUTINE (R583). -/
def execAbortRoutine (dt ch : Nat) (s : State) : Host.Outcome State Fault Refusal := s.run dt (Block.visit ch (fun b => b.plainCommand ch 0x21 runAbort))
/-- NV_FLUSH (R638). -/
def execNvFlush (dt ch : Nat) (s : State) : Host.Outcome State Fault Refusal := s.run dt (Block.visit ch (fun b => b.routineCommand ch 0x30 runNvFlush))
/-- SLEEP (R98). -/
def execSleep (dt ch : Nat) (s : State) : Host.Outcome State Fault Refusal := s.run dt (Block.visit ch (fun b => b.sleepCommand ch runSleep))
/-- LOG_READ (R560). -/
def execLogRead (dt ch : Nat) (s : State) : Host.Outcome State Fault Refusal := s.run dt (Block.visit ch (fun b => b.plainCommand ch 0x50 runLogRead))
/-- LOG_INFO (R559). -/
def execLogInfo (dt ch : Nat) (s : State) : Host.Outcome State Fault Refusal := s.run dt (Block.visit ch (fun b => b.plainCommand ch 0x51 runLogInfo))
/-- LOG_CLEAR (R639). -/
def execLogClear (dt ch : Nat) (s : State) : Host.Outcome State Fault Refusal := s.run dt (Block.visit ch (fun b => b.routineCommand ch 0x52 runLogClear))
/-- BRACKET_FORCE (R273). -/
def execBracketForce (dt ch : Nat) (s : State) : Host.Outcome State Fault Refusal :=
  s.run dt (Block.visit ch (fun b => b.plainCommand ch 0x60 runBracketForce))
/-- PEER_SEND (R559). -/
def execPeerSend (dt ch : Nat) (s : State) : Host.Outcome State Fault Refusal := s.run dt (Block.visit ch (fun b => b.plainCommand ch 0x70 runPeerSend))
/-- BAD_COMMAND (R561). -/
def execBadCommand (dt ch : Nat) (s : State) : Host.Outcome State Fault Refusal := s.run dt (Block.visit ch (fun b => b.stepBadCommand ch))
/-- ROUTINE_SLICE (R580). -/
def execRoutineSlice (dt : Nat) (inp : SliceInput) (s : State) : Host.Outcome State Fault Refusal := s.run dt (fun b => b.stepSlice inp)
/-- SEQ_RESTART (R711): SEQ's running priority and stack are emptied too. -/
def execSeqRestart (dt : Nat) (s : State) : Host.Outcome State Fault Refusal :=
  s.runNests dt (fun n b => (if b.seqWorks && b.seq.routine.isSome then { n with seq := {} } else n, b.stepRestart))
/-- DEFERRED_COMMAND_START (R557). -/
def execDeferredCommandStart (dt : Nat) (s : State) : Host.Outcome State Fault Refusal := s.run dt Block.stepDeferred
/-- REPLY_ENQUEUE (R558). -/
def execReplyEnqueue (dt ch : Nat) (s : State) : Host.Outcome State Fault Refusal := s.run dt (fun b => b.stepReplyEnter ch)
/-- PEER_RX (R555). -/
def execPeerRx (dt ch : Nat) (s : State) : Host.Outcome State Fault Refusal := s.run dt (fun b => b.stepPeerRx ch)
/-- PEER_QUEUE_ENTER (R552). -/
def execPeerQueueEnter (dt ch : Nat) (s : State) : Host.Outcome State Fault Refusal := s.run dt (fun b => b.stepPeerEnter ch)

end Sys2Proof.Machine
end

