-- ==== Sys2Proof/Machine/Frame.lean ====
section
/-! DEFINITION. Host frames: the status word, read and write items, rejection and read-clear, and the host's single accesses;
the meanings of the commands of the host ports, the interrupt controller, the mailboxes and the rings, and of
TAP_INSTRUCTION (chapters 14, 16, 17 and 22). -/

namespace Sys2Proof.Machine

/-! ## The status word (R467, R571) -/

/-- The output of a port's interrupt land is driven low (R571). -/
def Block.irqLow (b : Block) (n : Nests) (p : Port) : Bool :=
  b.flag (match p with
    | .a => R.IC_CTL.IRQA_EN
    | .b => R.IC_CTL.IRQB_EN) &&
  (b.highest p.mid (n.port p).running).isSome

/-- The status word of a frame whose CS_N falls now (R467). -/
def Block.statusWord (b : Block) (n : Nests) (p : Port) (busy : Bool) : Nat :=
  let x := b.port p
  2 ^ 15 * bit busy + 2 ^ 14 * bit x.frameErr + 2 ^ 13 * bit (b.irqLow n p) + 2 ^ 12 * bit b.txn.owner.isSome +
  2 ^ 8 * x.lastResult.code + b.get R.TB_FRAME.FRAME % 256

/-! ## Read items (R464, R466, R470, R475, R618) -/

/-- A window read item at WIN_ADDR, which advances (R464, R479). -/
def Block.readWindow (b : Block) (p : Port) : ReadItem × Block :=
  let a := (b.port p).winAddr
  let r := b.windowRead p a
  ({ result := r.1, word := BitVec.ofNat 32 r.2.1, addr := some a, found := r.2.2.1 }, r.2.2.2.advance p)

/-- A register read item (R145, R464, R470, R618). -/
def Block.readRegister (b : Block) (n : Nests) (p : Port) (idx : Nat) : ReadItem × Block :=
  if idx = 0x0A then b.readWindow p
  else if 0xFF < idx ∨ !assigned idx then ({ result := .badIndex, word := 0#32 }, b)
  else if nvGated idx && b.nvBusy then ({ result := .nvBusy, word := 0#32 }, b)
  else
    let b := if idx = 0x26 then b.capturePt else b
    ({ result := .ok, word := b.readReg n p idx, idx := some idx }, b)

/-- Read item `i` of a frame: a register, or one window access. A window item that faults is in WIN_STATUS at once (R486). -/
def Block.readItem (b : Block) (n : Nests) (p : Port) (op index i : Nat) : ReadItem × Block :=
  let r := if op = 0 then b.readRegister n p (index + i) else b.readWindow p
  (r.1, match r.1.addr with
    | some a => r.2.winFaultAt p r.1.result a
    | none => r.2)

/-- A word of lamp parameters with read-clear bytes (R459). -/
def lampCounter (a : Nat) : Bool := decide (0x00924000 ≤ a) && decide (a < 0x00924800) && (a % 256 == 0x8C || a % 256 == 0x90)

/-- The read-clear part of a read item of an accepted frame, `shifted` being the bits that were fully shifted out (R474, R573). -/
def ReadItem.clear (p : Port) (x : ReadItem) (shifted : Word) (acc : Nests × Block) : Nests × Block :=
  match x.idx, x.addr with
  | some idx, _ => clearRead p idx x.word shifted acc.1 acc.2
  | none, some a => if lampCounter a then (acc.1, acc.2.rcLamp a x.word shifted) else acc
  | none, none => acc

/-- The bits of item `i` that a frame of `bits` bits shifted out in whole words (R474). -/
def shiftedBits (bits i : Nat) : Word :=
  if 64 + 32 * i ≤ bits then BitVec.allOnes 32 else if 48 + 32 * i ≤ bits then 0xFFFF0000#32 else 0#32

/-! ## Write items (R464, R470, R471) -/

/-- What stands of the write items of a frame: the staged items, the results so far by item with their window address, the items
that cleared WIN_STATUS.FAULT, and the items for the store and for the select-1 window, which act together. -/
structure WriteRun where
  run : FrameRun := {}
  results : List (Nat × HostResult × Option Nat) := []
  clears : List Nat := []
  store : List (Nat × Nat × Word) := []
  page : List (Nat × Nat × Word) := []

/-- A window write item at WIN_ADDR, which advances. -/
def Block.writeWindow (b : Block) (p : Port) (x : WriteRun) (i : Nat) (w : Word) : WriteRun × Block :=
  let a := (b.port p).winAddr
  let still := { x.run with next := none }
  match regionOf a with
  | .store => ({ x with run := still, store := x.store ++ [(i, a, w)] }, b.advance p)
  | .flash1 => ({ x with run := still, page := x.page ++ [(i, a, w)] }, b.advance p)
  | .vendor => ({ x with run := still, results := x.results ++ [(i, if b.nvBusy then .nvBusy else .windowFault, some a)] }, b.advance p)
  | _ =>
    let r := b.windowWrite p.mid x.run a w
    ({ x with run := r.2.1, results := x.results ++ [(i, r.1, some a)] }, r.2.2.advance p)

/-- A register write item, the power and interrupt registers included. -/
def writeRegister (p : Port) (x : WriteRun) (i idx : Nat) (w : Word) (n : Nests) (b : Block) : WriteRun × Nests × Block :=
  let x := if idx = 0x0B ∧ R.WIN_STATUS.FAULT.get w = 1 then { x with clears := x.clears ++ [i] } else x
  let done := fun (r : HostResult) => { x with run := { x.run with next := none }, results := x.results ++ [(i, r, none)] }
  if 0xFF < idx then (done .badIndex, n, b)
  else if idx = 0x0A then let r := b.writeWindow p x i w; (r.1, n, r.2)
  else if idx = 0x05 then (done .ok, n, b.writeSysCtl w)
  else if idx = 0x11 then (done .ok, n, b.writePwCtl w)
  else if idx = 0xC5 then let r := eoiPort .a n b; (done .ok, r.1, r.2)
  else if idx = 0xC7 then let r := eoiPort .b n b; (done .ok, r.1, r.2)
  else
    let r := b.writeReg p x.run idx w
    ({ x with run := r.2.1, results := x.results ++ [(i, r.1, none)] }, n, r.2.2)

/-- Write item `i` of a frame. -/
def writeItem (p : Port) (op index : Nat) (acc : WriteRun × Nests × Block) (iw : Nat × Word) : WriteRun × Nests × Block :=
  if op = 1 then writeRegister p acc.1 iw.1 (index + iw.1) iw.2 acc.2.1 acc.2.2
  else let r := acc.2.2.writeWindow p acc.1 iw.1 iw.2; (r.1, acc.2.1, r.2)

/-- The items for the store form one write operation (R619). -/
def Block.storeItems (b : Block) (x : WriteRun) : WriteRun × Block :=
  if x.store.isEmpty then (x, b)
  else
    let r := b.nvWindow (x.store.map (fun s => (s.2.1 - 0x00A00000, s.2.2)))
    ({ x with results := x.results ++ (x.store.zip r.1).map (fun q => (q.1.1, q.2, some q.1.2.1)) }, r.2)

/-- The items for select 1 form one page program; those outside the first one's page fault (R601). -/
def Block.pageItems (b : Block) (x : WriteRun) : WriteRun × Block :=
  match x.page with
  | [] => (x, b)
  | first :: _ =>
    let r := b.pageRequest (x.page.map (·.2))
    ({ x with results := x.results ++ x.page.map (fun q =>
      (q.1, if q.2.1 / 256 = first.2.1 / 256 then r.1 else .windowFault, some q.2.1)) }, r.2)

/-- The first item in item order whose result is not OK gives the frame's result (R469). -/
def firstResult (l : List (Nat × HostResult × Option Nat)) : HostResult :=
  ((l.filter (fun x => x.2.1 != .ok)).foldl (fun best x => match best with
    | none => some x
    | some y => if x.1 < y.1 then some x else some y) none).elim .ok (·.2.1)

/-- WIN_STATUS.FAULT and WIN_FAULT_ADDR after the window items of a frame and the items that cleared FAULT, in item order
(R471, R486). -/
def Block.frameFaults (b : Block) (p : Port) (x : WriteRun) : Block :=
  let clears := x.clears.map (fun i => (i, HostResult.ok, (none : Option Nat)))
  (sortBy (fun y z => decide (y.1 ≤ z.1)) (x.results ++ clears)).foldl (fun b y => match y.2.2 with
    | some a => b.winFaultAt p y.2.1 a
    | none => if x.clears.contains y.1 then b.setPort p (fun z => { z with winFault := false }) else b) b

/-- The items for the store and for select 1 act, and the window's faults follow in item order. -/
def Block.endItems (b : Block) (p : Port) (x : WriteRun) : HostResult × Block :=
  let s := b.storeItems x
  let q := s.2.pageItems s.1
  (firstResult q.1.results, q.2.frameFaults p q.1)

/-! ## Frames (R460 to R474, R484) -/

/-- OP of the command word (R462). -/
def FrameInProgress.op (f : FrameInProgress) : Nat := f.words.headD 0 / 2 ^ 14 % 4
/-- The number of items that the command word asks for (R462). -/
def FrameInProgress.count (f : FrameInProgress) : Nat := f.words.headD 0 / 2 ^ 8 % 64 + 1
/-- INDEX of the command word (R462). -/
def FrameInProgress.index (f : FrameInProgress) : Nat := f.words.headD 0 % 256
/-- The frame reads: OP 0b00 or 0b10 (R462). -/
def FrameInProgress.reads (f : FrameInProgress) : Bool := decide (f.op % 2 = 0)
/-- The bits shifted when CS_N rises `last` bits into the last word. -/
def FrameInProgress.bits (f : FrameInProgress) (last : Nat) : Nat :=
  if f.words.isEmpty then 0 else 16 * (f.words.length - 1) + min 16 last

/-- The word that SDO shifts out as word `k` (R465, R472). -/
def FrameInProgress.out (f : FrameInProgress) (k : Nat) : Nat :=
  if k = 0 then f.status
  else match (if 2 ≤ k then f.items[(k - 2) / 2]? else none) with
    | some x => if k % 2 = 0 then x.word.toNat / 65536 else x.word.toNat % 65536
    | none => 0

/-- CS_N falls: the mode and the status word of the frame are taken (R460, R467, R472). -/
def Block.frameFall (b : Block) (n : Nests) (p : Port) (mode3 : Bool) : Block :=
  let early := match (b.port p).lastRise with
    | some t => decide (b.now < t + 50)
    | none => false
  b.setPort p (fun x => { x with sdo := [], cs := some { mode3 := mode3, answered := b.portsAnswer, early := early, status := b.statusWord n p early } })

/-- The next word begins to shift. A read item whose high word it is, is captured whole (R465, R466, R473). -/
def Block.frameWord (b : Block) (n : Nests) (p : Port) (w : Nat) : Block :=
  match (b.port p).cs with
  | none => b
  | some f =>
    let k := f.words.length
    let g := { f with words := f.words ++ [w % 65536] }
    if !f.answered then b.setPort p (fun x => { x with cs := some g })
    else
      let r :=
        if 2 ≤ k ∧ k % 2 = 0 ∧ f.early = false ∧ f.reads ∧ (k - 2) / 2 < f.count then
          let r := b.settleWire.latchWps.readItem n p f.op f.index ((k - 2) / 2)
          ({ g with items := g.items ++ [r.1] }, r.2.endRefused)
        else (g, b)
      r.2.setPort p (fun x => { x with cs := some r.1, sdo := x.sdo ++ [r.1.out k] })

/-- A frame rejected or not accepted (R472). -/
def Block.refuseFrame (b : Block) (p : Port) (accepted : Bool) : Block :=
  b.setPort p (fun x => { x with
    frameErr := true, lastResult := .frameRejected,
    rejected := if accepted then min R.SYS_PORT.REJECTED.top (x.rejected + 1) else x.rejected,
    notAccepted := if accepted then x.notAccepted else min R.SYS_PORT.NOT_ACCEPTED.top (x.notAccepted + 1) })

/-- A read frame ends: the flawed groups of the store that it read are reported once (R616), and what it read is cleared
when it is accepted (R472 to R474). -/
def endRead (p : Port) (f : FrameInProgress) (bits : Nat) (n : Nests) (b : Block) : Nests × Block :=
  let b := b.nvTell (f.items.foldl (fun x i => x.join i.found) {})
  if bits % 16 ≠ 0 then (n, b.refuseFrame p true)
  else
    let c := (f.items.zipIdx).foldl (fun acc x => ReadItem.clear p x.1 (shiftedBits bits x.2) acc) (n, b)
    (c.1, portResult p (firstResult ((f.items.zipIdx).map (fun x => (x.2, x.1.result, x.1.addr))), c.2))

/-- The write items of a frame: each is two words, the high one first (R463). -/
def FrameInProgress.writes (f : FrameInProgress) : List (Nat × Word) :=
  (List.range f.count).map (fun i => (i, BitVec.ofNat 32 (f.words.getD (1 + 2 * i) 0 * 65536 + f.words.getD (2 + 2 * i) 0)))

/-- A write frame executes when its words are as many as its command word asks for (R463, R471, R472). -/
def endWrite (p : Port) (f : FrameInProgress) (bits : Nat) (n : Nests) (b : Block) : Nests × Block :=
  if bits ≠ 16 * (1 + 2 * f.count) then (n, b.refuseFrame p true)
  else
    let r := f.writes.foldl (writeItem p f.op f.index) ({}, n, b)
    (r.2.1, portResult p (r.2.2.endItems p r.1))

/-- CS_N rises: the frame ends, by the first case of the table of R472 that it meets. -/
def frameRise (p : Port) (last : Nat) (n : Nests) (b : Block) : Nests × Block :=
  match (b.port p).cs with
  | none => (n, b.setPort p (fun x => { x with lastRise := some b.now }))
  | some f =>
    if !f.answered then (n, b.setPort p (fun x => { x with cs := none, lastRise := some b.now }))
    else
      let b := (b.settleWire.latchWps).setPort p (fun x => { x with cs := none, lastRise := some b.now, mode3 := f.mode3 })
      let r := if f.early then (n, b.refuseFrame p false)
        else if f.bits last < 16 then (n, b.refuseFrame p true)
        else if f.reads then endRead p f (f.bits last) n b
        else endWrite p f (f.bits last) n b
      (r.1, r.2.endRefused)

/-- HOST_FRAME: a moment of a frame, of which the last is the rise of CS_N (R460 to R474, R484). -/
def hostFrame (f : FrameInput) (n : Nests) (b : Block) : Nests × Block :=
  if !f.timing && b.portsAnswer then (n, b.enterUndef .hostTiming)
  else match f.part with
    | .fall mode3 => (n, b.frameFall n f.port mode3)
    | .shift w => (n, b.frameWord n f.port w)
    | .rise last => frameRise f.port last n b

/-! ## Single accesses of a host -/

/-- One write item of a host as a frame of its own, when the ports answer. -/
def singleWrite (p : Port) (idx : Nat) (w : Word) (n : Nests) (b : Block) : Nests × Block :=
  if !b.portsAnswer then (n, b)
  else
    let r := writeItem p 1 idx ({}, n, b.settleWire) (0, w)
    (r.2.1, (portResult p (r.2.2.endItems p r.1)).endRefused)

/-- WIN_DATA: one window access of a port, a write when a word is given (R464). -/
def Block.stepWinData (b : Block) (p : Port) (write : Option Word) : HostResult × Block :=
  match write with
  | some w => let r := singleWrite p 0x0A w {} b; ((r.2.port p).lastResult, r.2)
  | none =>
    let r := b.settleWire.readItem {} p 2 0 0
    let b := r.2.nvTell r.1.found
    (r.1.result, (ReadItem.clear p r.1 (BitVec.allOnes 32) ({}, b)).2.endRefused)

/-- READAHEAD_READ: a window read at WIN_ADDR in a memory-port window (R479). -/
def Block.readAheadItem (b : Block) (p : Port) : HostResult × Block :=
  let a := (b.port p).winAddr
  match regionOf a with
  | .flash0 => b.stepWinData p none
  | .flash1 => b.stepWinData p none
  | _ => (.ok, b)

/-- PAGE_PROGRAM_REQUEST: the select-1 window items of one frame (R601). -/
def Block.stepPageProgram (b : Block) (p : Port) (items : List WindowItem) : HostResult × Block :=
  let own := items.filter (fun i => regionOf i.addr == .flash1)
  let x : WriteRun := { page := (own.zipIdx).map (fun q => (q.2, q.1.addr, q.1.value)) }
  let r := b.settleWire.endItems p x
  (r.1, r.2.endRefused)

/-! ## Meanings: host ports -/

/-- HOST_FRAME (R471). -/
def execHostFrame (dt : Nat) (frame : FrameInput) (s : State) : Host.Outcome State Fault Refusal := s.runNests dt (hostFrame frame)
/-- REGISTER_WRITE (R15). -/
def execRegisterWrite (dt : Nat) (port : Port) (idx : Nat) (value : Word) (s : State) : Host.Outcome State Fault Refusal :=
  s.runNests dt (singleWrite port idx value)
/-- READ_CLEAR: an accepted read frame shifted `value` out whole (R474). -/
def execReadClear (dt : Nat) (port : Port) (idx : Nat) (value : Word) (s : State) : Host.Outcome State Fault Refusal :=
  s.runNests dt (fun n b => if b.portsAnswer then clearRead port idx value (BitVec.allOnes 32) n b else (n, b))
/-- WIN_DATA (R464). -/
def execWinData (dt : Nat) (port : Port) (write : Option Word) (s : State) : Host.Outcome State Fault Refusal :=
  s.runPort dt port (fun b => b.stepWinData port write)
/-- WIN_ADDR_WRITE (R478). -/
def execWinAddrWrite (dt : Nat) (port : Port) (value : Word) (s : State) : Host.Outcome State Fault Refusal :=
  s.runPort dt port (fun b => (.ok, (b.settleWire.writeWinAddr port value.toNat).endRefused))
/-- READAHEAD_READ (R479). -/
def execReadaheadRead (dt : Nat) (port : Port) (s : State) : Host.Outcome State Fault Refusal :=
  s.runPort dt port (fun b => b.readAheadItem port)
/-- PAGE_PROGRAM_REQUEST (R601). -/
def execPageProgramRequest (dt : Nat) (port : Port) (items : List WindowItem) (s : State) : Host.Outcome State Fault Refusal :=
  s.runPort dt port (fun b => b.stepPageProgram port items)
/-- SOFTWARE_INTERRUPT: a window write of the interrupt message address (R34). -/
def execSoftwareInterrupt (dt : Nat) (port : Port) (value : Word) (s : State) : Host.Outcome State Fault Refusal :=
  s.runPort dt port (fun b =>
    let r := b.windowWrite port.mid {} 0x00C00000 value
    (r.1, r.2.2.winFaultAt port r.1 0x00C00000))

/-! ## Meanings: the interrupt controller -/

/-- INTERRUPT_MESSAGE (R566). -/
def execInterruptMessage (dt source : Nat) (s : State) : Host.Outcome State Fault Refusal := s.run dt (fun b => b.message source)
/-- IC_ACK: a host's acknowledge of a captured source at a target, while the ports answer (R62, R573). -/
def execIcAck (dt : Nat) (target : Port) (source prio : Nat) (s : State) : Host.Outcome State Fault Refusal :=
  s.runNests dt (fun n b => if b.portsAnswer then ackPort target source prio n b else (n, b))
/-- IC_EOI: a host's end of interrupt, while the ports answer (R62, R574). -/
def execIcEoi (dt : Nat) (target : Port) (s : State) : Host.Outcome State Fault Refusal :=
  s.runNests dt (fun n b => if b.portsAnswer then eoiPort target n b else (n, b))

/-! ## Meanings: mailboxes and rings -/

/-- MB_TX (R550). -/
def execMbTx (dt : Nat) (port : Port) (word : Word) (s : State) : Host.Outcome State Fault Refusal :=
  s.runPort dt port (fun b => (.ok, b.mbSend port word))
/-- MB_RX (R550). -/
def execMbRx (dt : Nat) (port : Port) (s : State) : Host.Outcome State Fault Refusal := s.runPort dt port (fun b => (.ok, b.mbReceive port))
/-- BOOTH_BEGIN (R547). -/
def execBoothBegin (dt : Nat) (port : Port) (s : State) : Host.Outcome State Fault Refusal :=
  s.runPort dt port (fun b => b.boothBegin port.mid)
/-- BOOTH_LOCK (R548). -/
def execBoothLock (dt : Nat) (port : Port) (s : State) : Host.Outcome State Fault Refusal := s.runPort dt port (fun b => b.boothLock)
/-- MB_PORT_RESET: a write of 0xA5 resets the port as receiver (R553). -/
def execMbPortReset (dt : Nat) (port : Port) (value : Word) (s : State) : Host.Outcome State Fault Refusal :=
  s.runPort dt port (fun b => (.ok, if R.MB_PORT_RESET.KEY.get value = 0xA5 then b.receiverReset port.mid 2 else b))
/-- MB_DB_RING (R544). -/
def execMbDbRing (dt : Nat) (port : Port) (value : Word) (s : State) : Host.Outcome State Fault Refusal :=
  s.runPort dt port (fun b => (.ok, b.mbRing value))
/-- RING_ENABLE, a host's write of EN, while the ports answer (R62, R526). -/
def execRingEnable (dt ring : Nat) (s : State) : Host.Outcome State Fault Refusal :=
  s.run dt (fun b => if b.portsAnswer && decide (ring < 32) then b.ringEnable ring else b)
/-- RING_HEAD_WRITE (R529). -/
def execRingHeadWrite (dt : Nat) (port : Port) (ring value : Nat) (s : State) : Host.Outcome State Fault Refusal :=
  s.runPort dt port (fun b => (.ok, if ring < 32 then b.writeHead port.mid ring value else b))
/-- RING_TAIL_WRITE (R529). -/
def execRingTailWrite (dt : Nat) (port : Port) (ring value : Nat) (s : State) : Host.Outcome State Fault Refusal :=
  s.runPort dt port (fun b => (.ok, if ring < 32 then b.writeTail port.mid ring value else b))
/-- LOST_RECORD (R537). -/
def execLostRecord (dt ring : Nat) (s : State) : Host.Outcome State Fault Refusal := s.run dt (fun b => b.flushLost ring)

/-! ## Meanings: the test access port -/

/-- An instruction that holds the outputs in RUN or IDLE is undefined behaviour (R718, R720). -/
def tapSafe : TapInstr → Bool
  | .bypass => true
  | .idcode => true
  | .sample => true
  | .extest => false
  | .highz => false
  | .clamp => false
  | .other _ => false

/-- The test access port is alive: VCORE and VDDIO_A are valid, and DEEP does not hold it in Test-Logic-Reset (R56). -/
def Block.tapAlive (b : Block) : Bool :=
  b.power.valid.contains .vcore && (b.power.valid ++ b.power.restoring).contains .vddioA && b.power.mode != .off && b.power.mode != .deep

/-- RUN has been reached, or IDLE (R80). -/
def Block.inRun (b : Block) : Bool := (b.power.mode == .run && b.phase != 0) || b.power.mode == .idle

/-- A TAP instruction is selected: it is held with the port's shift state, and one that selects the boundary register brings its
cells. In RUN or IDLE every instruction but three is case 14 of the catalogue (R66, R720). -/
def Block.stepTap (instr : TapInstr) (shifting : Bool) (cells : List (Signal × Option Bool)) (b : Block) : Block :=
  if !b.tapAlive then b
  else
    let boundary := instr == .sample || instr == .extest
    let b := { b with tap := { instr := instr, shifting := shifting, cells := if boundary then cells else b.tap.cells } }
    if !tapSafe instr && b.inRun then b.enterUndef .tap else b

/-- TAP_INSTRUCTION (R66, R720). -/
def execTapInstruction (dt : Nat) (instr : TapInstr) (shifting : Bool) (cells : List (Signal × Option Bool)) (s : State) :
    Host.Outcome State Fault Refusal :=
  s.run dt (Block.stepTap instr shifting cells)

end Sys2Proof.Machine
end

