-- ==== Sys2Proof/Machine/Dispatch.lean ====
section
/-! DEFINITION. One arm per command: the meaning that each command has. -/

namespace Sys2Proof.Machine

/-- The effect of a command on everything but the queue. -/
def exec (i : Instr) (s : State) : Host.Outcome State Fault Refusal :=
  match i with
  | .powerOnReset dt => Sys2Proof.Machine.execPowerOnReset dt s
  | .pinReset dt => Sys2Proof.Machine.execPinReset dt s
  | .resetKey dt port value => Sys2Proof.Machine.execResetKey dt port value s
  | .systemReset dt => Sys2Proof.Machine.execSystemReset dt s
  | .railUv dt rail => Sys2Proof.Machine.execRailUv dt rail s
  | .railRestored dt rail => Sys2Proof.Machine.execRailRestored dt rail s
  | .pfail dt => Sys2Proof.Machine.execPfail dt s
  | .duskKey dt port value => Sys2Proof.Machine.execDuskKey dt port value s
  | .duskStep5Cut dt => Sys2Proof.Machine.execDuskStep5Cut dt s
  | .duskEnd dt pfailHigh => Sys2Proof.Machine.execDuskEnd dt pfailHigh s
  | .dawnPhase dt inp => Sys2Proof.Machine.execDawnPhase dt inp s
  | .dawnRetry dt port value => Sys2Proof.Machine.execDawnRetry dt port value s
  | .settleEnd dt => Sys2Proof.Machine.execSettleEnd dt s
  | .sleep dt ch => Sys2Proof.Machine.execSleep dt ch s
  | .wake dt sources => Sys2Proof.Machine.execWake dt sources s
  | .aonTimerWake dt => Sys2Proof.Machine.execAonTimerWake dt s
  | .clockFail dt refLost => Sys2Proof.Machine.execClockFail dt refLost s
  | .tick dt inp => Sys2Proof.Machine.execTick dt inp s
  | .modelReset dt => Sys2Proof.Machine.execModelReset dt s
  | .throttleGraceEnd dt => Sys2Proof.Machine.execThrottleGraceEnd dt s
  | .lampSoftShort dt lamp => Sys2Proof.Machine.execLampSoftShort dt lamp s
  | .midnightTimer dt => Sys2Proof.Machine.execMidnightTimer dt s
  | .txnTimeout dt => Sys2Proof.Machine.execTxnTimeout dt s
  | .tickDeferred dt inp => Sys2Proof.Machine.execTickDeferred dt inp s
  | .tickForced dt inp => Sys2Proof.Machine.execTickForced dt inp s
  | .frameStart dt => Sys2Proof.Machine.execFrameStart dt s
  | .rowSlot dt inp => Sys2Proof.Machine.execRowSlot dt inp s
  | .zoneClose dt ecc trendEcc => Sys2Proof.Machine.execZoneClose dt ecc trendEcc s
  | .publication dt => Sys2Proof.Machine.execPublication dt s
  | .loopUpdate dt => Sys2Proof.Machine.execLoopUpdate dt s
  | .encEdge dt a b stableA stableB => Sys2Proof.Machine.execEncEdge dt a b stableA stableB s
  | .encIndex dt stable => Sys2Proof.Machine.execEncIndex dt stable s
  | .beaconRx dt line => Sys2Proof.Machine.execBeaconRx dt line s
  | .beaconMissed dt => Sys2Proof.Machine.execBeaconMissed dt s
  | .claimTx dt clash => Sys2Proof.Machine.execClaimTx dt clash s
  | .claimRx dt line => Sys2Proof.Machine.execClaimRx dt line s
  | .replyTx dt clash => Sys2Proof.Machine.execReplyTx dt clash s
  | .replyRx dt line roundTrip => Sys2Proof.Machine.execReplyRx dt line roundTrip s
  | .hostFrame dt frame => Sys2Proof.Machine.execHostFrame dt frame s
  | .registerWrite dt port idx value => Sys2Proof.Machine.execRegisterWrite dt port idx value s
  | .readClear dt port idx value => Sys2Proof.Machine.execReadClear dt port idx value s
  | .ptCapture dt port => Sys2Proof.Machine.execPtCapture dt port s
  | .winData dt port write => Sys2Proof.Machine.execWinData dt port write s
  | .winAddrWrite dt port value => Sys2Proof.Machine.execWinAddrWrite dt port value s
  | .readaheadRead dt port => Sys2Proof.Machine.execReadaheadRead dt port s
  | .stagedWrite dt port entry => Sys2Proof.Machine.execStagedWrite dt port entry s
  | .pageProgramRequest dt port items => Sys2Proof.Machine.execPageProgramRequest dt port items s
  | .nvWindowWrite dt port items => Sys2Proof.Machine.execNvWindowWrite dt port items s
  | .softwareInterrupt dt port value => Sys2Proof.Machine.execSoftwareInterrupt dt port value s
  | .interruptMessage dt source => Sys2Proof.Machine.execInterruptMessage dt source s
  | .beginTxn dt port => Sys2Proof.Machine.execBeginTxn dt port s
  | .commitNext dt port => Sys2Proof.Machine.execCommitNext dt port s
  | .commitAt dt port => Sys2Proof.Machine.execCommitAt dt port s
  | .rollback dt port force => Sys2Proof.Machine.execRollback dt port force s
  | .icAck dt target source prio => Sys2Proof.Machine.execIcAck dt target source prio s
  | .icEoi dt target => Sys2Proof.Machine.execIcEoi dt target s
  | .mbTx dt port word => Sys2Proof.Machine.execMbTx dt port word s
  | .mbRx dt port => Sys2Proof.Machine.execMbRx dt port s
  | .boothBegin dt port => Sys2Proof.Machine.execBoothBegin dt port s
  | .boothLock dt port => Sys2Proof.Machine.execBoothLock dt port s
  | .mbPortReset dt port value => Sys2Proof.Machine.execMbPortReset dt port value s
  | .mbDbRing dt port value => Sys2Proof.Machine.execMbDbRing dt port value s
  | .ringEnable dt ring => Sys2Proof.Machine.execRingEnable dt ring s
  | .ringHeadWrite dt port ring value => Sys2Proof.Machine.execRingHeadWrite dt port ring value s
  | .ringTailWrite dt port ring value => Sys2Proof.Machine.execRingTailWrite dt port ring value s
  | .lostRecord dt ring => Sys2Proof.Machine.execLostRecord dt ring s
  | .ping dt ch => Sys2Proof.Machine.execPing dt ch s
  | .version dt ch => Sys2Proof.Machine.execVersion dt ch s
  | .status dt ch => Sys2Proof.Machine.execStatus dt ch s
  | .applyOverlay dt ch => Sys2Proof.Machine.execApplyOverlay dt ch s
  | .armOverlay dt ch => Sys2Proof.Machine.execArmOverlay dt ch s
  | .commitArmed dt ch => Sys2Proof.Machine.execCommitArmed dt ch s
  | .overlayInfo dt ch header => Sys2Proof.Machine.execOverlayInfo dt ch header s
  | .startMidnight dt ch => Sys2Proof.Machine.execStartMidnight dt ch s
  | .midnightCompute dt => Sys2Proof.Machine.execMidnightCompute dt s
  | .abortRoutine dt ch => Sys2Proof.Machine.execAbortRoutine dt ch s
  | .nvFlush dt ch => Sys2Proof.Machine.execNvFlush dt ch s
  | .logRead dt ch => Sys2Proof.Machine.execLogRead dt ch s
  | .logInfo dt ch => Sys2Proof.Machine.execLogInfo dt ch s
  | .logClear dt ch => Sys2Proof.Machine.execLogClear dt ch s
  | .bracketForce dt ch => Sys2Proof.Machine.execBracketForce dt ch s
  | .peerSend dt ch => Sys2Proof.Machine.execPeerSend dt ch s
  | .badCommand dt ch => Sys2Proof.Machine.execBadCommand dt ch s
  | .routineSlice dt inp => Sys2Proof.Machine.execRoutineSlice dt inp s
  | .seqRestart dt => Sys2Proof.Machine.execSeqRestart dt s
  | .deferredCommandStart dt => Sys2Proof.Machine.execDeferredCommandStart dt s
  | .replyEnqueue dt ch => Sys2Proof.Machine.execReplyEnqueue dt ch s
  | .peerRx dt ch => Sys2Proof.Machine.execPeerRx dt ch s
  | .peerQueueEnter dt ch => Sys2Proof.Machine.execPeerQueueEnter dt ch s
  | .arm dt ring => Sys2Proof.Machine.execArm dt ring s
  | .cancel dt ring => Sys2Proof.Machine.execCancel dt ring s
  | .confirm dt ring => Sys2Proof.Machine.execConfirm dt ring s
  | .drainResume dt ring => Sys2Proof.Machine.execDrainResume dt ring s
  | .leadinStart dt entry => Sys2Proof.Machine.execLeadinStart dt entry s
  | .valvePulse dt entry => Sys2Proof.Machine.execValvePulse dt entry s
  | .valveLevel dt entry => Sys2Proof.Machine.execValveLevel dt entry s
  | .valveRelease dt entry => Sys2Proof.Machine.execValveRelease dt entry s
  | .lampSet dt entry => Sys2Proof.Machine.execLampSet dt entry s
  | .shutter dt entry => Sys2Proof.Machine.execShutter dt entry s
  | .hostNote dt entry => Sys2Proof.Machine.execHostNote dt entry s
  | .peerNote dt entry => Sys2Proof.Machine.execPeerNote dt entry s
  | .lowsideCheckEnd dt channel current reach => Sys2Proof.Machine.execLowsideCheckEnd dt channel current reach s
  | .boostEnd dt channel current reach => Sys2Proof.Machine.execBoostEnd dt channel current reach s
  | .commandEnd dt channel => Sys2Proof.Machine.execCommandEnd dt channel s
  | .releaseEnd dt channel current => Sys2Proof.Machine.execReleaseEnd dt channel current s
  | .bankWaitTimeout dt bank => Sys2Proof.Machine.execBankWaitTimeout dt bank s
  | .chopPeriod dt channel current reach => Sys2Proof.Machine.execChopPeriod dt channel current reach s
  | .coilModelUpdate dt meanSq => Sys2Proof.Machine.execCoilModelUpdate dt meanSq s
  | .ontimeTrip dt channel => Sys2Proof.Machine.execOntimeTrip dt channel s
  | .valveOvercurrent dt channel current => Sys2Proof.Machine.execValveOvercurrent dt channel current s
  | .openCoil dt channel current => Sys2Proof.Machine.execOpenCoil dt channel current s
  | .bootstrapUv dt bank currents => Sys2Proof.Machine.execBootstrapUv dt bank currents s
  | .boostUv dt vboost currents => Sys2Proof.Machine.execBoostUv dt vboost currents s
  | .boostUvArm dt vboost => Sys2Proof.Machine.execBoostUvArm dt vboost s
  | .boostOv dt vboost => Sys2Proof.Machine.execBoostOv dt vboost s
  | .boostRestored dt vboost => Sys2Proof.Machine.execBoostRestored dt vboost s
  | .lampPeriodStart dt lamp inp => Sys2Proof.Machine.execLampPeriodStart dt lamp inp s
  | .inrushEnd dt lamp => Sys2Proof.Machine.execInrushEnd dt lamp s
  | .inrushCurrentLimit dt lamp current => Sys2Proof.Machine.execInrushCurrentLimit dt lamp current s
  | .lampShort dt lamp current => Sys2Proof.Machine.execLampShort dt lamp current s
  | .lampGroupOc dt code => Sys2Proof.Machine.execLampGroupOc dt code s
  | .inrushPause dt vlmp => Sys2Proof.Machine.execInrushPause dt vlmp s
  | .inrushResume dt vlmp => Sys2Proof.Machine.execInrushResume dt vlmp s
  | .shutterPulseEnd dt => Sys2Proof.Machine.execShutterPulseEnd dt s
  | .shposCheck dt level => Sys2Proof.Machine.execShposCheck dt level s
  | .shutterOvercurrent dt => Sys2Proof.Machine.execShutterOvercurrent dt s
  | .bracketLoadDone dt => Sys2Proof.Machine.execBracketLoadDone dt s
  | .copybackDone dt => Sys2Proof.Machine.execCopybackDone dt s
  | .readyHoldExpiry dt => Sys2Proof.Machine.execReadyHoldExpiry dt s
  | .mpTransferStart dt => Sys2Proof.Machine.execMpTransferStart dt s
  | .lineFillDone dt data => Sys2Proof.Machine.execLineFillDone dt data s
  | .statusPoll dt status => Sys2Proof.Machine.execStatusPoll dt status s
  | .mpProgTimeout dt => Sys2Proof.Machine.execMpProgTimeout dt s
  | .mpEraseTimeout dt => Sys2Proof.Machine.execMpEraseTimeout dt s
  | .mpFillTimeout dt => Sys2Proof.Machine.execMpFillTimeout dt s
  | .mpSwTransfer dt port value => Sys2Proof.Machine.execMpSwTransfer dt port value s
  | .mpReadStatus dt port sel => Sys2Proof.Machine.execMpReadStatus dt port sel s
  | .mpReadId dt port sel => Sys2Proof.Machine.execMpReadId dt port sel s
  | .mpReadSfdp dt port sel => Sys2Proof.Machine.execMpReadSfdp dt port sel s
  | .mpWriteEnable dt port sel => Sys2Proof.Machine.execMpWriteEnable dt port sel s
  | .mpErase4k dt port sel => Sys2Proof.Machine.execMpErase4k dt port sel s
  | .mpErase64k dt port sel => Sys2Proof.Machine.execMpErase64k dt port sel s
  | .nvWriteDone dt badGroups softGroups => Sys2Proof.Machine.execNvWriteDone dt badGroups softGroups s
  | .nvTimeout dt => Sys2Proof.Machine.execNvTimeout dt s
  | .trapezeWrite dt port => Sys2Proof.Machine.execTrapezeWrite dt port s
  | .trapezeRead dt port => Sys2Proof.Machine.execTrapezeRead dt port s
  | .carouselPush dt port => Sys2Proof.Machine.execCarouselPush dt port s
  | .carouselRead dt port => Sys2Proof.Machine.execCarouselRead dt port s
  | .csiBurst dt packets => Sys2Proof.Machine.execCsiBurst dt packets s
  | .tapInstruction dt instr shifting cells => Sys2Proof.Machine.execTapInstruction dt instr shifting cells s
  | .powerOnResetRelease dt => Sys2Proof.Machine.execPowerOnResetRelease dt s
  | .resetNRise dt => Sys2Proof.Machine.execResetNRise dt s
  | .syncSearchTimeout dt => Sys2Proof.Machine.execSyncSearchTimeout dt s
  | .dawn1msSample dt inp => Sys2Proof.Machine.execDawn1msSample dt inp s
  | .shutterBrakeEnd dt => Sys2Proof.Machine.execShutterBrakeEnd dt s
  | .mpTransferEnd dt data => Sys2Proof.Machine.execMpTransferEnd dt data s
  | .nvOpDone dt => Sys2Proof.Machine.execNvOpDone dt s

end Sys2Proof.Machine
end

