-- ==== Sys2Proof/Machine/Pins.lean ====
section
/-! DEFINITION. What the lands show: the land map, the type, rail and class of every signal land, the state of each land at rest
and in RUN, and the gate and shutter levels (chapters 02, 09, 12, 13, 18, 21 and 22). These are views of the state; nothing here
changes it. -/

namespace Sys2Proof.Machine

/-! ## The land map (R50) -/

/-- What a land of the grid carries. -/
inductive Pad
  | signal (s : Signal)
  | rail (r : Rail)
  | vss
  | thermal
  | reserved
deriving DecidableEq, Repr

/-- The map of R50, seen from the lid side: rows A to H, J to N, P, T, U and V from the top, columns 1 to 17 from the left. -/
def landMap : List (List Pad) :=
  [[.vss, .signal (.hpSck .a), .signal (.hpCs .a), .signal (.hpSdi .a), .signal (.hpSdo .a), .signal (.irq .a),
    .signal (.hpSck .b), .signal (.hpCs .b), .signal (.hpSdi .b), .signal (.hpSdo .b), .signal (.irq .b), .signal .tck,
    .signal .tms, .signal .tdi, .signal .tdo, .signal .trst, .vss],
   [.signal .mpSck, .signal .mpSdo, .rail .vddioB, .signal .resetN, .signal .wake, .signal .pfailN, .signal .duskN,
    .signal .faultN, .rail .vddioA, .signal (.gpio 0), .signal (.gpio 1), .signal (.gpio 2), .signal (.gpio 3), .rail .vddioA,
    .signal .xin, .signal .xout, .vss],
   [.signal .mpSdi, .signal (.mpSel 0), .signal (.mpSel 1), .signal (.mpSel 2), .signal (.mpSel 3), .rail .vaon,
    .signal (.gpio 4), .signal (.gpio 5), .signal (.gpio 6), .signal (.gpio 7), .rail .vddioC, .signal .encA, .signal .encB,
    .signal .encZ, .signal .shpos, .signal .syncP, .signal .syncN],
   [.signal (.gb 0), .signal (.gh 0), .signal (.gf 0), .vss, .rail .vcore, .vss, .rail .vcore, .vss, .rail .vcore, .vss,
    .rail .vcore, .vss, .rail .vdda, .vss, .rail .vddphy, .signal (.csiD 0 false), .signal (.csiD 0 true)],
   [.signal (.sw 0), .signal (.bst 0), .signal .bstGate, .rail .vdrv, .vss, .rail .vcore, .vss, .rail .vcore, .vss,
    .rail .vcore, .vss, .rail .vdda, .vss, .rail .vddphy, .vss, .signal (.csiD 1 false), .signal (.csiD 1 true)],
   [.signal (.gl 0), .signal (.csP 0), .signal (.csN 0), .vss, .rail .vdda, .thermal, .thermal, .thermal, .thermal, .thermal,
    .thermal, .thermal, .vss, .rail .vddphy, .rail .vddphy, .signal (.csiCk false), .signal (.csiCk true)],
   [.signal (.gl 1), .signal (.csP 1), .signal (.csN 1), .rail .vdrv, .vss, .thermal, .thermal, .thermal, .thermal, .thermal,
    .thermal, .thermal, .rail .vddphy, .vss, .vss, .signal (.csiD 2 false), .signal (.csiD 2 true)],
   [.signal (.gl 2), .signal (.csP 2), .signal (.csN 2), .vss, .rail .vdda, .thermal, .thermal, .thermal, .thermal, .thermal,
    .thermal, .thermal, .vss, .rail .vddphy, .rail .vddphy, .signal (.csiD 3 false), .signal (.csiD 3 true)],
   [.signal (.gl 3), .signal (.csP 3), .signal (.csN 3), .rail .vdrv, .vss, .thermal, .thermal, .thermal, .thermal, .thermal,
    .thermal, .thermal, .rail .vdda, .vss, .signal (.lsN 0), .signal (.lsP 0), .signal (.lg 0)],
   [.signal (.gl 4), .signal (.csP 4), .signal (.csN 4), .vss, .rail .vdda, .thermal, .thermal, .thermal, .thermal, .thermal,
    .thermal, .thermal, .vss, .rail .vdda, .signal (.lsN 1), .signal (.lsP 1), .signal (.lg 1)],
   [.signal (.gl 5), .signal (.csP 5), .signal (.csN 5), .rail .vdrv, .vss, .thermal, .thermal, .thermal, .thermal, .thermal,
    .thermal, .thermal, .rail .vdrv, .vss, .signal (.lsN 2), .signal (.lsP 2), .signal (.lg 2)],
   [.signal (.gl 6), .signal (.csP 6), .signal (.csN 6), .vss, .rail .vdda, .thermal, .thermal, .thermal, .thermal, .thermal,
    .thermal, .thermal, .vss, .rail .vdrv, .signal (.lsN 3), .signal (.lsP 3), .signal (.lg 3)],
   [.signal (.gl 7), .signal (.csP 7), .signal (.csN 7), .vss, .rail .vdrv, .vss, .rail .vdrv, .vss, .vss, .rail .vdrv, .vss,
    .rail .vdrv, .vss, .reserved, .signal (.lsN 4), .signal (.lsP 4), .signal (.lg 4)],
   [.signal .bstCsP, .signal .bstCsN, .signal .vbstSns, .reserved, .vss, .rail .vdrv, .vss, .rail .vsht, .rail .vsht, .vss,
    .rail .vdrv, .vss, .reserved, .reserved, .signal (.lsN 5), .signal (.lsP 5), .signal (.lg 5)],
   [.signal (.gf 1), .signal .vbatSns, .signal (.csN 8), .signal (.csN 9), .signal (.csN 10), .signal (.csN 11),
    .signal (.gf 2), .signal .shA, .signal .shB, .signal (.gf 3), .signal (.csN 12), .signal (.csN 13), .signal (.csN 14),
    .signal (.csN 15), .signal (.lsN 6), .signal (.lsN 7), .signal .ilmpN],
   [.signal (.gh 1), .signal (.bst 1), .signal (.csP 8), .signal (.csP 9), .signal (.csP 10), .signal (.csP 11),
    .signal (.gh 2), .signal (.bst 2), .signal (.bst 3), .signal (.gh 3), .signal (.csP 12), .signal (.csP 13),
    .signal (.csP 14), .signal (.csP 15), .signal (.lsP 6), .signal (.lsP 7), .signal .ilmpP],
   [.signal (.gb 1), .signal (.sw 1), .signal (.gl 8), .signal (.gl 9), .signal (.gl 10), .signal (.gl 11), .signal (.gb 2),
    .signal (.sw 2), .signal (.sw 3), .signal (.gb 3), .signal (.gl 12), .signal (.gl 13), .signal (.gl 14), .signal (.gl 15),
    .signal (.lg 6), .signal (.lg 7), .signal .vlmpSns]]

/-- The signal that the land of a row and a column of the map carries, both counted from 0. -/
def signalAt (row col : Nat) : Option Signal :=
  match (landMap.getD row []).getD col .reserved with
  | .signal s => some s
  | _ => none

/-! ## Types, rails and classes (R51) -/

/-- The types of signal lands. -/
inductive LandType
  | input | schmitt | output | threeState | openDrain | inOut | oscillator | mlvds | dphy | gate | floatingGate | analogue
  | switchNode | bootstrap | bridge
deriving DecidableEq, Repr

/-- The classes of the signal lands; H1 and J1 by the lands that differ (R51, R56). -/
inductive LandClass
  | h1 | h1Select | h2 | h3 | j1Down | j1Up | j2 | c1 | c2 | c3 | g1 | k1 | m1 | m2 | e1 | e2 | s1 | p1 | d1 | d2 | a1 | a2 | b1
deriving DecidableEq, Repr

/-- What a land refers to: a rail, a bank's bootstrap supply, or a bank's common node, which reaches up to VBOOST. -/
inductive Reference
  | rail (r : Rail)
  | bootstrap (x : Nat)
  | switchNode (x : Nat)
deriving DecidableEq, Repr

/-- The type of a signal land. -/
def landType (s : Signal) : LandType :=
  match s with
  | .hpSck _ | .hpCs _ | .hpSdi _ | .tck | .tdi | .tms | .trst | .mpSdi | .encA | .encB | .encZ | .shpos => .input
  | .resetN | .pfailN | .wake => .schmitt
  | .duskN | .mpSck | .mpSdo | .mpSel _ => .output
  | .hpSdo _ | .tdo => .threeState
  | .irq _ | .faultN => .openDrain
  | .gpio _ => .inOut
  | .xin | .xout => .oscillator
  | .syncP | .syncN => .mlvds
  | .csiCk _ | .csiD _ _ => .dphy
  | .gl _ | .gf _ | .bstGate | .lg _ => .gate
  | .gb _ | .gh _ => .floatingGate
  | .csP _ | .csN _ | .bstCsP | .bstCsN | .vbstSns | .vbatSns | .vlmpSns | .lsP _ | .lsN _ | .ilmpP | .ilmpN => .analogue
  | .sw _ => .switchNode
  | .bst _ => .bootstrap
  | .shA | .shB => .bridge

/-- The rest-state class of a signal land. -/
def landClass (s : Signal) : LandClass :=
  match s with
  | .hpSck _ | .hpSdi _ => .h1
  | .hpCs _ => .h1Select
  | .hpSdo _ => .h2
  | .irq _ | .faultN => .h3
  | .tck | .trst => .j1Down
  | .tms | .tdi => .j1Up
  | .tdo => .j2
  | .resetN | .pfailN => .c1
  | .wake => .c2
  | .duskN => .c3
  | .gpio _ => .g1
  | .xin | .xout => .k1
  | .mpSck | .mpSdo | .mpSel _ => .m1
  | .mpSdi => .m2
  | .encA | .encB | .encZ => .e1
  | .shpos => .e2
  | .syncP | .syncN => .s1
  | .csiCk _ | .csiD _ _ => .p1
  | .gl _ | .gf _ | .bstGate | .lg _ => .d1
  | .gb _ | .gh _ => .d2
  | .csP _ | .csN _ | .bstCsP | .bstCsN | .vbstSns | .vbatSns | .vlmpSns | .lsP _ | .lsN _ | .ilmpP | .ilmpN => .a1
  | .sw _ | .bst _ => .a2
  | .shA | .shB => .b1

/-- What a signal land refers to. -/
def landReference (s : Signal) : Reference :=
  match s with
  | .gb x | .gh x => .bootstrap x
  | .sw x => .switchNode x
  | .bst _ => .rail .vdrv
  | _ => .rail (match landClass s with
    | .c1 | .c2 | .c3 => .vaon
    | .m1 | .m2 => .vddioB
    | .e1 | .e2 => .vddioC
    | .s1 | .a1 => .vdda
    | .p1 => .vddphy
    | .d1 | .d2 | .a2 => .vdrv
    | .b1 => .vsht
    | .h1 | .h1Select | .h2 | .h3 | .j1Down | .j1Up | .j2 | .g1 | .k1 => .vddioA)

/-! ## Rest states (R56 to R58) -/

/-- What a land does to its line. `driven` follows the transfer or the clock in progress; `lowBy10k` is the shutter bridge held
low by its resistors. -/
inductive LandDrive
  | z | low | high | lowBy10k | offPassive | offActive | lp11 | oscillates | driven
deriving DecidableEq, Repr

/-- The internal pull that is connected. -/
inductive LandPull
  | none | up | down
deriving DecidableEq, Repr

/-- What the part does with the level of a land: nothing, use it, or watch it for a wake. -/
inductive LandUse
  | none | input | watched
deriving DecidableEq, Repr

/-- The state of a land. -/
structure LandState where
  drive : LandDrive := .z
  pull : LandPull := .none
  use : LandUse := .none
deriving DecidableEq, Repr

/-- The columns of the table of rest states. -/
inductive RestColumn
  | unpowered | vaonOnly | inReset | deep | nap | run
deriving DecidableEq, Repr

/-- A rail that has fallen below its minimum and come back is present at once, though its functions resume later (R57, R76). -/
def Block.present (b : Block) (r : Rail) : Bool := (b.power.valid ++ b.power.restoring).contains r

/-- The column of the table that the rails and the mode select: where the rails match none of the six states, a land whose rail
is present acts as in reset until RUN, which is reached at the end of D0 (R56, R57, R80). IDLE holds every land as RUN does (R58). -/
def Block.column (b : Block) : RestColumn :=
  let v := b.power.valid ++ b.power.restoring
  if v.isEmpty then .unpowered
  else if v.all (fun r => decide (r = Rail.vaon)) then .vaonOnly
  else match b.power.mode with
    | .off => .inReset
    | .inReset => .inReset
    | .run => if b.phase = 0 then .inReset else .run
    | .idle => .run
    | .nap => if allRails.all b.present then .nap else .inReset
    | .deep => if allRails.all b.present then .deep else .inReset

/-- The reference of a land is absent. A bank's bootstrap is fed from VDRV, and its common node has no minimum of its own. -/
def Block.absent (b : Block) (s : Signal) : Bool :=
  match landReference s with
  | .rail r => !b.present r
  | .bootstrap _ => !b.present .vdrv
  | .switchNode _ => false

/-! ## Gates (R6, R58, R64, R382, R386, R407) -/

/-- Gate lands may follow their drives: in RUN, with VDRV valid, and outside undefined behaviour (R6, R64, R58). -/
def Block.gatesLive (b : Block) : Bool :=
  b.undef.isNone && b.power.mode == .run && b.power.valid.contains .vdrv

/-- The valve gates follow their channels: the drive block runs too (R64, R424). -/
def Block.valveGatesLive (b : Block) : Bool := b.gatesLive && b.valves.running

/-- GLn is on. -/
def Block.glOn (b : Block) (n : Nat) : Bool := b.valveGatesLive && (((b.valve n).gates b.now).gl || (b.valve n).checking)

/-- A switch of bank `x` is on for some channel of the bank. -/
def Block.bankGate (b : Block) (x : Nat) (f : Gates → Bool) : Bool :=
  b.valveGatesLive && (List.range 4).any (fun i => f ((b.valve (4 * x + i)).gates b.now))

/-- GBx is on. -/
def Block.gbOn (b : Block) (x : Nat) : Bool := b.bankGate x Gates.gb
/-- GHx is on. -/
def Block.ghOn (b : Block) (x : Nat) : Bool := b.bankGate x Gates.gh
/-- GFx is on. -/
def Block.gfOn (b : Block) (x : Nat) : Bool := b.bankGate x Gates.gf

/-- LGk is on. -/
def Block.lgOn (b : Block) (k : Nat) : Bool := b.gatesLive && b.lamps.running && b.lampGate k

/-- BST_GATE switches, at the frequency and peak limit of `boostDrive` (R409). -/
def Block.bstSwitches (b : Block) : Bool := b.gatesLive && b.valves.boost.running && b.boostDrive.isSome

/-- The state of a gate that its drive may turn on: held off actively while the drive does not run (R64). -/
def gateState (runs on : Bool) : LandDrive := if !runs then .offActive else if on then .high else .low

/-- What a gate land is driven to with VDRV present. -/
def Block.gateDrive (b : Block) (s : Signal) : LandDrive :=
  match s with
  | .gl n => gateState b.valveGatesLive (b.glOn n)
  | .gb x => gateState b.valveGatesLive (b.gbOn x)
  | .gh x => gateState b.valveGatesLive (b.ghOn x)
  | .gf x => gateState b.valveGatesLive (b.gfOn x)
  | .lg k => gateState (b.gatesLive && b.lamps.running) (b.lgOn k)
  | _ => if !(b.gatesLive && b.valves.boost.running) then .offActive else if b.bstSwitches then .driven else .low

/-! ## The shutter bridge (R67, R287) -/

/-- SHA and SHB are driven to VSHT: one of them in a pulse, DIR_INV swapping the two, neither outside a pulse. -/
def Block.shutterLands (b : Block) : Bool × Bool :=
  if b.undef.isSome || b.power.mode != .run || !b.power.valid.contains .vsht then (false, false)
  else match b.shut.pulse with
    | none => (false, false)
    | some p => if (p.dir == .close) != b.flag R.CP_SHT_CTL.DIR_INV then (true, false) else (false, true)

/-! ## DUSK_N, FAULT_N and the interrupt lands (R35, R72, R571, R713) -/

/-- DUSK_N is driven high. -/
def Block.duskHighNow (b : Block) : Bool := (b.power.mode == .run || b.power.mode == .idle) && b.power.duskHigh

/-- A fault indication is in force (R713). NAP stops the PLL without a fault. -/
def Block.faultInForce (b : Block) : Bool :=
  b.flag R.PW_STATUS.DAWN_FAIL || b.flag R.TB_STATUS.REF_LOST ||
  (b.power.mode != .nap && decide (3 ≤ b.phase) && !b.flag R.TB_STATUS.PLL_LOCK) ||
  b.flag R.FP_STATUS.TFPA_FAULT || b.flag R.FP_STATUS.BIAS_FAULT || b.flag R.CP_SHT_STATUS.SHT_FAULT ||
  b.word 0x77 != 0#32 || b.get R.LD_FAULT.CH != 0 || b.get R.MP_STATUS.STUCK != 0 || b.flag R.TH_STATUS.DEGRADED

/-- The open-drain lands of VDDIO_A are driven: in RUN and IDLE, and kept through NAP (R56, R57). -/
def Block.h3Live (b : Block) : Bool := (b.column == .run || b.column == .nap) && b.present .vddioA

/-- FAULT_N is driven low: from the end of D0 on in RUN, in IDLE, and held through NAP (R56, R713). -/
def Block.faultLow (b : Block) : Bool := b.h3Live && b.faultInForce

/-- IRQA_N or IRQB_N is driven low; in reset, DEEP and without VDDIO_A it is high-impedance (R56, R571). -/
def Block.irqLand (b : Block) (n : Nests) (p : Port) : Bool := b.h3Live && b.irqLow n p

/-! ## The memory port, the sync bus and the CSI-2 lanes -/

/-- The select that the transfer on the wire drives low, if it is one of the hardware selects (R592). -/
def Block.wireSelect (b : Block) : Option Nat :=
  match b.mp.wire with
  | some (.fill f) => some (selOf f.addr)
  | some (.enable w) => some w.sel
  | some (.write w) => some w.sel
  | some (.poll s) => some s
  | some (.command _ s _) => some s
  | some (.software _ _) => none
  | none => none

/-- A level as a drive. -/
def levelDrive (x : Bool) : LandDrive := if x then .high else .low

/-- The outputs of the memory port in RUN and in NAP, where no transfer is on the wire (R56, R590, R593). -/
def Block.memPortLand (b : Block) (s : Signal) : LandDrive :=
  match s with
  | .mpSel 2 => levelDrive b.mp.s2
  | .mpSel 3 => levelDrive b.mp.s3
  | .mpSel i => levelDrive (b.column == .nap || b.wireSelect != some i)
  | .mpSck => if b.column = .run ∧ b.mp.wire.isSome then .driven else levelDrive (b.flag R.MP_CTL.MODE3)
  | _ => if b.column = .run then .driven else .low

/-- The sync lands: high-impedance unless VDDA and VDDIO_C are valid and the interface is configured; the receiver is on in RUN,
in NAP, and in DEEP when beacon wake is enabled. The line driver has the bus only while a frame of the unit's own is on it, which
in the model is the instant of its command (R56, R68). -/
def Block.syncLand (b : Block) : LandState :=
  if !(b.present .vdda && b.present .vddioC) then {}
  else match b.column with
    | .run => if b.get R.TB_CTL.TICK_SRC = 1 then { use := .input } else {}
    | .nap => if b.get R.TB_CTL.TICK_SRC = 1 then { use := .input } else {}
    | .deep => if bitOf b.power.wakeEn 3 then { use := .watched } else {}
    | _ => {}

/-- The CSI-2 lanes are at LP-11 whenever VDDPHY is valid and nothing is being sent: a burst is the instant of its command, and a
continuous clock runs on the clock lane from the start of output to its end (R69, R681). -/
def Block.laneDrive (b : Block) (s : Signal) : LandDrive :=
  match s with
  | .csiCk _ => if b.column = .run ∧ b.out.started ∧ b.flag R.VO_CTL.CONT_CLK ∧ b.out.lost = false then .driven else .lp11
  | _ => .lp11

/-! ## The state of a land (R56 to R58, R61, R64, R66 to R69) -/

/-- SDO is driven during a frame that the ports answer, and high-impedance at every other time (R61). -/
def Block.sdoDriven (b : Block) (p : Port) : Bool :=
  b.portsAnswer && (match (b.port p).cs with
    | some f => f.answered
    | none => false)

/-- A signal land without boundary control. -/
def Block.ownLand (b : Block) (n : Nests) (s : Signal) : LandState :=
  let col := b.column
  let jtag := b.present .vcore && b.present .vddioA
  if b.absent s then { drive := match landClass s with
    | .d1 | .d2 => .offPassive
    | .b1 => .lowBy10k
    | _ => .z }
  else match landClass s with
    | .h1 => { use := if col = .run then .input else .none }
    | .h1Select => { use := if col = .run then .input else if col = .nap ∨ col = .deep then .watched else .none }
    | .h2 => match s with
      | .hpSdo p => { drive := if b.sdoDriven p then .driven else .z }
      | _ => {}
    | .h3 => match s with
      | .irq p => { drive := if b.irqLand n p then .low else .z }
      | _ => { drive := if b.faultLow then .low else .z }
    | .j1Down => { pull := if jtag then .down else .none }
    | .j1Up => { pull := if jtag then .up else .none }
    | .j2 => { drive := if jtag && col != .deep && b.tap.shifting then .driven else .z }
    | .c1 => { pull := .up }
    | .c2 => { pull := .down, use := if col = .nap ∨ col = .deep then .watched else .none }
    | .c3 => { drive := levelDrive b.duskHighNow }
    | .g1 => { use := if col = .run then .input else .none }
    | .k1 => { drive := if col = .run ∨ col = .nap then .oscillates else .z }
    | .m1 => { drive := if col = .run ∨ col = .nap then b.memPortLand s else .z }
    | .m2 => { use := if col = .run then .input else .none }
    | .e1 => { use := if col = .run then .input else if col = .nap ∨ col = .deep then .watched else .none }
    | .e2 => { pull := .down, use := if col = .run then .input else .none }
    | .s1 => b.syncLand
    | .p1 => { drive := b.laneDrive s }
    | .d1 | .d2 => { drive := b.gateDrive s }
    | .a1 | .a2 => { use := if col = .run then .input else .none }
    | .b1 => { drive := levelDrive (match s with
      | .shA => b.shutterLands.1
      | _ => b.shutterLands.2) }

/-- A land whose boundary cell can drive it: an output, but for the gates, the shutter bridge and the CSI-2 lanes, whose cells are
observe-only, and for the test port's own TDO (R66). -/
def boundaryCell (s : Signal) : Bool :=
  match landType s with
  | .output | .openDrain | .inOut | .mlvds => true
  | .threeState => s != .tdo
  | _ => false

/-- What an instruction that holds the outputs makes of a land: EXTEST and CLAMP take the level of its boundary cell, HIGHZ turns
it off; none where the land keeps its own function (R66). -/
def Block.boundaryDrive (b : Block) (s : Signal) : Option LandDrive :=
  if !(b.tapAlive && boundaryCell s && !b.absent s) then none
  else match b.tap.instr with
    | .extest | .clamp => some (match (b.tap.cells.find? (fun c => c.1 == s)).bind (·.2) with
      | some x => if landType s = .openDrain ∧ x then .z else levelDrive x
      | none => .z)
    | .highz => some .z
    | _ => none

/-- The state of a signal land. -/
def Block.land (b : Block) (n : Nests) (s : Signal) : LandState :=
  match b.boundaryDrive s with
  | some d => { b.ownLand n s with drive := d }
  | none => b.ownLand n s

end Sys2Proof.Machine
end

