-- ==== Sys2Proof/Safety.lean ====
section
/-! DEFINITION. What a safe run is, and the terms the statements use: a state inside the part's requirements, the state a
meaning leaves, outputs held off, and stacks of the interrupt targets. -/

namespace Sys2Proof.Machine

/-- A state inside the part's requirements: no case of the catalogue of undefined behaviour was entered (R6). -/
def State.defined (s : State) : Prop := s.m.undef = none

/-- The state a command leaves whose effect on the block is `m`: the queue as it was; the outputs held off if a case of
undefined behaviour was entered (R6); the stacks of the interrupt targets kept unless the mode loses them (R587, R588). -/
def State.result (s : State) (m : Block) : State :=
  { s with m := m.offWhileUndef, nests := s.nests.after m.power.mode }

/-- The state a host port's command leaves: its effect, its result, and the end of its frame (R467, R471). -/
def State.portResult (s : State) (p : Port) (r : HostResult) (m : Block) : State := s.result (Machine.portResult p (r, m))

/-- The state a reset leaves: the stacks are empty (R587). -/
def State.afterReset (s : State) (m : Block) : State := { s with m := m, nests := {} }

/-- Every valve gate, lamp gate and the shutter bridge is off (R6). -/
def Block.outputsOff (b : Block) : Prop :=
  (∀ n, n < 16 → (b.valve n).drive = .off ∧ (b.valve n).checking = false) ∧ (∀ k, k < 8 → (b.lamp k).gate = false) ∧
  b.shut.pulse = none

/-- A stack of priorities below a running priority: each is lower than the one pushed after it, the lowest is 0, and the running
priority is 0 with nothing on the stack (R569, R575). -/
def risingBelow (run : Nat) : List Nat → Prop
  | [] => run = 0
  | p :: ps => p < run ∧ risingBelow p ps

/-- An interrupt target's running priority and stack are in order (R568, R575). -/
def Nest.ordered (n : Nest) : Prop := n.running ≤ 15 ∧ risingBelow n.running n.stack

/-- Every interrupt target is in order. -/
def Nests.ordered (n : Nests) : Prop := n.a.ordered ∧ n.b.ordered ∧ n.seq.ordered

/-- At its fire time the entry fires: it is not tentative, its confirmations suffice, or UNCONF lets it fire all the same (R363). -/
def ArmedEntry.commits (e : ArmedEntry) : Prop := e.tentative = false ∨ e.k ≤ e.confirms ∨ e.unconf = true

/-- The block with the sequencer at channel `ch`, discarded words gone (R554, R561). -/
def Block.standingAt (b : Block) (ch : Nat) : Block := (b.visiting ch).settleDiscard ch

/-- The sequencer's next visit is to channel `ch`, where a command of opcode `op` waits whole at the front (R554): its reply goes
to `ch` with the command's tag, `args` are its argument words, and `t` is the block once it has left the queue. -/
def Block.commandAt (b : Block) (ch op : Nat) (dst : ReplyTo) (args : List Nat) (t : Block) : Prop :=
  b.nextVisit = some ch ∧ ∃ w ws, (b.standingAt ch).goodCommand ch op = some (w, ws) ∧ dst = ⟨ch, cmdTag w⟩ ∧
    args = ws.map BitVec.toNat ∧ t = (b.standingAt ch).takeCommand ch ws

/-- What a report may change: the record in its rings, doorbells, interrupt sources with IC_STAT, and the fault log
(R33, R536, R543, R567, R715). -/
structure Block.Reported (b b' : Block) : Prop where
  rest : b' = { b with regs := b'.regs, mem := b'.mem, rings := b'.rings, dbA := b'.dbA, dbB := b'.dbB, dbSeq := b'.dbSeq,
                       irq := b'.irq, nv := { b.nv with log := b'.nv.log, nextSeq := b'.nv.nextSeq } }
  words : ∀ i, i ≠ 0xCB → b'.word i = b.word i

end Sys2Proof.Machine
end

