-- ==== Sys2Proof/WellFormed.lean ====
section
/-! DEFINITION. Which commands are well formed: each index stands for something the part has. The meanings are total; these
checks say which commands the outside can send. -/

namespace Sys2Proof

/-- A staged item names a direct register, or a word-aligned address. -/
def StagedItem.wf : StagedItem → Bool
  | .register idx _ => decide (idx < 256)
  | .table addr _ => decide (addr % 4 = 0) && decide (addr < 0x100000000)

/-- A word has 16 bits. -/
def FramePart.wf : FramePart → Bool
  | .fall _ => true
  | .shift w => decide (w < 65536)
  | .rise last => decide (last ≤ 16)

/-- Every index of the command is in its range. -/
def Instr.wf (i : Instr) : Bool :=
  match i with
  | .powerOnReset _ => true
  | .pinReset _ => true
  | .resetKey _ _ _ => true
  | .systemReset _ => true
  | .railUv _ _ => true
  | .railRestored _ _ => true
  | .pfail _ => true
  | .duskKey _ _ _ => true
  | .duskStep5Cut _ => true
  | .duskEnd _ _ => true
  | .dawnPhase _ _ => true
  | .dawnRetry _ _ _ => true
  | .settleEnd _ => true
  | .sleep _ ch => decide (ch < 8)
  | .wake _ sources => decide (sources < 64)
  | .aonTimerWake _ => true
  | .clockFail _ _ => true
  | .tick _ _ => true
  | .modelReset _ => true
  | .throttleGraceEnd _ => true
  | .lampSoftShort _ lamp => decide (lamp < 8)
  | .midnightTimer _ => true
  | .txnTimeout _ => true
  | .tickDeferred _ _ => true
  | .tickForced _ _ => true
  | .frameStart _ => true
  | .rowSlot _ _ => true
  | .zoneClose _ ecc _ => ecc.all (fun z => decide (z < 1024))
  | .publication _ => true
  | .loopUpdate _ => true
  | .encEdge _ _ _ _ _ => true
  | .encIndex _ _ => true
  | .beaconRx _ line => decide (line.length ≤ 1024)
  | .beaconMissed _ => true
  | .claimTx _ _ => true
  | .claimRx _ line => decide (line.length ≤ 1024)
  | .replyTx _ _ => true
  | .replyRx _ line _ => decide (line.length ≤ 1024)
  | .hostFrame _ frame => frame.part.wf
  | .registerWrite _ _ idx _ => decide (idx < 256)
  | .readClear _ _ idx _ => decide (idx < 256)
  | .ptCapture _ _ => true
  | .winData _ _ _ => true
  | .winAddrWrite _ _ _ => true
  | .readaheadRead _ _ => true
  | .stagedWrite _ _ item => item.wf
  | .pageProgramRequest _ _ _ => true
  | .nvWindowWrite _ _ _ => true
  | .softwareInterrupt _ _ _ => true
  | .interruptMessage _ source => decide (source < 256)
  | .beginTxn _ _ => true
  | .commitNext _ _ => true
  | .commitAt _ _ => true
  | .rollback _ _ _ => true
  | .icAck _ _ source prio => decide (source < 256) && decide (prio < 16)
  | .icEoi _ _ => true
  | .mbTx _ _ _ => true
  | .mbRx _ _ => true
  | .boothBegin _ _ => true
  | .boothLock _ _ => true
  | .mbPortReset _ _ _ => true
  | .mbDbRing _ _ _ => true
  | .ringEnable _ ring => decide (ring < 32)
  | .ringHeadWrite _ _ ring _ => decide (ring < 32)
  | .ringTailWrite _ _ ring _ => decide (ring < 32)
  | .lostRecord _ ring => decide (ring < 32)
  | .ping _ ch => decide (ch < 8)
  | .version _ ch => decide (ch < 8)
  | .status _ ch => decide (ch < 8)
  | .applyOverlay _ ch => decide (ch < 8)
  | .armOverlay _ ch => decide (ch < 8)
  | .commitArmed _ ch => decide (ch < 8)
  | .overlayInfo _ ch _ => decide (ch < 8)
  | .startMidnight _ ch => decide (ch < 8)
  | .midnightCompute _ => true
  | .abortRoutine _ ch => decide (ch < 8)
  | .nvFlush _ ch => decide (ch < 8)
  | .logRead _ ch => decide (ch < 8)
  | .logInfo _ ch => decide (ch < 8)
  | .logClear _ ch => decide (ch < 8)
  | .bracketForce _ ch => decide (ch < 8)
  | .peerSend _ ch => decide (ch < 8)
  | .badCommand _ ch => decide (ch < 8)
  | .routineSlice _ _ => true
  | .seqRestart _ => true
  | .deferredCommandStart _ => true
  | .replyEnqueue _ ch => decide (ch < 8)
  | .peerRx _ ch => decide (ch < 8)
  | .peerQueueEnter _ ch => decide (ch < 8)
  | .arm _ ring => decide (ring < 32)
  | .cancel _ ring => decide (ring < 32)
  | .confirm _ ring => decide (ring < 32)
  | .drainResume _ ring => decide (ring < 32)
  | .leadinStart _ entry => decide (entry < 512)
  | .valvePulse _ entry => decide (entry < 512)
  | .valveLevel _ entry => decide (entry < 512)
  | .valveRelease _ entry => decide (entry < 512)
  | .lampSet _ entry => decide (entry < 512)
  | .shutter _ entry => decide (entry < 512)
  | .hostNote _ entry => decide (entry < 512)
  | .peerNote _ entry => decide (entry < 512)
  | .lowsideCheckEnd _ channel _ _ => decide (channel < 16)
  | .boostEnd _ channel _ _ => decide (channel < 16)
  | .commandEnd _ channel => decide (channel < 16)
  | .releaseEnd _ channel _ => decide (channel < 16)
  | .bankWaitTimeout _ bank => decide (bank < 4)
  | .chopPeriod _ channel _ _ => decide (channel < 16)
  | .coilModelUpdate _ _ => true
  | .ontimeTrip _ channel => decide (channel < 16)
  | .valveOvercurrent _ channel _ => decide (channel < 16)
  | .openCoil _ channel _ => decide (channel < 16)
  | .bootstrapUv _ bank _ => decide (bank < 4)
  | .boostUv _ _ _ => true
  | .boostUvArm _ _ => true
  | .boostOv _ _ => true
  | .boostRestored _ _ => true
  | .lampPeriodStart _ lamp _ => decide (lamp < 8)
  | .inrushEnd _ lamp => decide (lamp < 8)
  | .inrushCurrentLimit _ lamp _ => decide (lamp < 8)
  | .lampShort _ lamp _ => decide (lamp < 8)
  | .lampGroupOc _ _ => true
  | .inrushPause _ _ => true
  | .inrushResume _ _ => true
  | .shutterPulseEnd _ => true
  | .shposCheck _ _ => true
  | .shutterOvercurrent _ => true
  | .bracketLoadDone _ => true
  | .copybackDone _ => true
  | .readyHoldExpiry _ => true
  | .mpTransferStart _ => true
  | .lineFillDone _ _ => true
  | .statusPoll _ value => decide (value < 256)
  | .mpProgTimeout _ => true
  | .mpEraseTimeout _ => true
  | .mpFillTimeout _ => true
  | .mpSwTransfer _ _ _ => true
  | .mpReadStatus _ _ sel => decide (sel < 2)
  | .mpReadId _ _ sel => decide (sel < 2)
  | .mpReadSfdp _ _ sel => decide (sel < 2)
  | .mpWriteEnable _ _ sel => decide (sel < 2)
  | .mpErase4k _ _ sel => decide (sel < 2)
  | .mpErase64k _ _ sel => decide (sel < 2)
  | .nvWriteDone _ badGroups softGroups => (badGroups ++ softGroups).all (fun g => decide (g < 16384))
  | .nvTimeout _ => true
  | .trapezeWrite _ _ => true
  | .trapezeRead _ _ => true
  | .carouselPush _ _ => true
  | .carouselRead _ _ => true
  | .csiBurst _ _ => true
  | .tapInstruction _ _ _ _ => true
  | .powerOnResetRelease _ => true
  | .resetNRise _ => true
  | .syncSearchTimeout _ => true
  | .dawn1msSample _ _ => true
  | .shutterBrakeEnd _ => true
  | .mpTransferEnd _ _ => true
  | .nvOpDone _ => true

end Sys2Proof
end

