-- ==== Sys2Proof/Certificates/Slice0/Obligations.lean ====
section
/-! DEFINITION. The statements for the provers, from the numbered rules of the spec. -/

open Sys2Proof Sys2Proof.Machine

/-! ## The queue, undefined behaviour and interrupts -/

/-- One step takes the command at the front of the queue and runs it on the state with the queue's rest; an empty queue leaves
the state as it is (the model's choice, log entry 2). No command's own meaning puts anything into the queue or takes anything
out of it. -/
def Obligations.StepRunsFrontCommand : Prop :=
  ((∀ (c : Instr) (rest : List Instr) (s : State), step { s with pending := c :: rest } = exec c { s with pending := rest }) ∧
   (∀ s : State, s.pending = [] → step s = .next s)) ∧
  (∀ (c : Instr) (s t : State), exec c s = .next t → t.pending = s.pending)

/-- R6: from a case of the catalogue until the next reset the gate and shutter outputs are held off, whatever the commands:
every step keeps that, from any state. -/
def Obligations.UndefinedHoldsOutputsOff : Prop :=
  ∀ s t : State, (s.m.undef.isSome → s.m.outputsOff) → step s = .next t → (t.m.undef.isSome → t.m.outputsOff)

/-- After a case of the catalogue (R6, R718) every command stops by name but those that reset the part: the model goes no
further where the manual guarantees nothing but outputs held off. Outside undefined behaviour every command completes, whatever
it finds: no command stops on ordinary data. -/
def Obligations.CommandsCompleteUnlessUndefined : Prop :=
  (∀ (c : Instr) (s : State) (u : UndefCase), s.m.undef = some u →
     exec c s = .fault (.undefinedBehaviour u) ∨ ∃ t, exec c s = .next t ∧ t.m.undef = none ∧ t.nests = {}) ∧
  (∀ (c : Instr) (s : State), s.defined → ∃ t, exec c s = .next t)

/-- R575: the stack of every interrupt target rises strictly from its bottom to the running priority, which is at most 15, and
so holds at most 15 entries; every step keeps that while the acknowledge commands that wait carry a priority of 0 to 15. -/
def Obligations.InterruptStacksNeverOverflow : Prop :=
  ∀ s t : State, s.nests.ordered → s.pending.all Instr.wf = true → step s = .next t →
    t.nests.ordered ∧ t.pending.all Instr.wf = true ∧
    t.nests.a.stack.length ≤ 15 ∧ t.nests.b.stack.length ≤ 15 ∧ t.nests.seq.stack.length ≤ 15

/-- The invariants of `UndefinedHoldsOutputsOff` and of `InterruptStacksNeverOverflow` hold right after reset. -/
def Obligations.InvariantsHoldAtReset : Prop :=
  (State.reset.m.undef.isSome → State.reset.m.outputsOff) ∧
  (State.reset.nests.ordered ∧ State.reset.pending.all Instr.wf = true)

/-! ## Rails, resets, Dawn, Dusk and sleep (chapter 03) -/

/-- R78: the resets. POWER_ON_RESET, RAIL_UV of VAON or VCORE, PIN_RESET and a system reset that is due leave the block as the
reset state says but for time, the non-volatile store, the rails, RESET_N, the encoder lands and the TAP as they stand, a
power-on reset the TAP too (the model's reading, log entry 161); the last two keep
PW_RESET_CAUSE and add their own bit; none of them needs the part to be inside its requirements. A system reset that is not due
changes nothing but the time. POWER_ON_RESET marks VAON and VCORE both invalid (the model's choice, log entry 72). R78, R82: the
part leaves a power-on reset or RESET_N and Dawn starts at D0, cold; while RESET_N is low it stays in reset. R486: writing 0xC3
to SYS_CTL.RESET_KEY requests a system reset 10 µs after the rise of CS_N; other values do nothing. -/
def Obligations.ResetsAndRelease : Prop :=
  ((∀ b : Block, b.nv.op = none → b.cleared = { Block.reset with
       now := b.now, free := b.free, tap := b.tap, nv := { cells := b.nv.cells, bad := b.nv.bad, soft := b.nv.soft },
       power := { valid := b.power.valid ++ b.power.restoring, resetLow := b.power.resetLow },
       clock := { enc := { levelA := b.clock.enc.levelA, levelB := b.clock.enc.levelB } } }) ∧
   (∀ b : Block, b.cleared.regs = regsReset ∧ b.cleared.mem = memReset ∧ b.cleared.rings = ringsReset ∧ b.cleared.mail = mailReset ∧
       b.cleared.irq = irqReset ∧ b.cleared.undef = none) ∧
   (∀ (dt : Nat) (s : State), exec (.powerOnReset dt) s = .next (s.afterReset ({ (s.m.elapse dt).cleared with tap := {} }.setPower (fun x =>
       { x with mode := .off, valid := x.valid.filter (fun r => !([.vaon, .vcore] : List Rail).contains r) })))) ∧
   (∀ (dt : Nat) (r : Rail) (s : State), (r = .vaon ∨ r = .vcore) → s.m.power.valid.contains r = true →
     exec (.railUv dt r) s = .next (s.afterReset ({ (s.m.elapse dt).cleared with tap := {} }.setPower (fun x =>
       { x with mode := .off, valid := x.valid.filter (fun q => !([r] : List Rail).contains q) })))) ∧
   (∀ (dt : Nat) (s : State), s.m.power.mode ≠ .off → exec (.pinReset dt) s = .next (s.afterReset
       ((((s.m.elapse dt).setPower (fun x => { x with resetLow := true })).cleared.set R.PW_RESET_CAUSE.CAUSE
         (orBit (s.m.get R.PW_RESET_CAUSE.CAUSE) 1)).setPower (fun x => { x with mode := .inReset })))) ∧
   (∀ (dt : Nat) (s : State), s.m.power.mode = .off → exec (.pinReset dt) s = .next (s.afterReset
       ((s.m.elapse dt).setPower (fun x => { x with resetLow := true })))) ∧
   (∀ (dt : Nat) (s : State), (s.m.elapse dt).resetDue = true → exec (.systemReset dt) s = .next (s.afterReset
       ((s.m.elapse dt).cleared.set R.PW_RESET_CAUSE.CAUSE (orBit (s.m.get R.PW_RESET_CAUSE.CAUSE) 2)).startD0)) ∧
   (∀ (dt : Nat) (s : State), s.defined → (s.m.elapse dt).resetDue = false →
     exec (.systemReset dt) s = .next (s.result (s.m.elapse dt)))) ∧
  ((∀ (dt : Nat) (s : State), s.defined → s.m.power.mode = .off → s.m.power.resetLow = false →
     exec (.powerOnResetRelease dt) s = .next (s.result ((s.m.elapse dt).setPower (fun x =>
       { (x.addRail .vaon).addRail .vcore with mode := .run, kind := .cold, dawnStart := s.m.now + dt, phaseAt := s.m.now + dt })))) ∧
   (∀ (dt : Nat) (s : State), s.defined → s.m.power.mode = .off → s.m.power.resetLow = true →
     exec (.powerOnResetRelease dt) s = .next (s.result ((s.m.elapse dt).setPower (fun x =>
       { (x.addRail .vaon).addRail .vcore with mode := .inReset })))) ∧
   (∀ (dt : Nat) (s : State), s.defined → s.m.power.mode = .inReset →
     exec (.resetNRise dt) s = .next (s.result ((s.m.elapse dt).setPower (fun x =>
       { x with resetLow := false, mode := .run, kind := .cold, dawnStart := s.m.now + dt, phaseAt := s.m.now + dt }))))) ∧
  (∀ (dt : Nat) (p : Port) (v : Word) (s : State), s.defined → s.m.portsAnswer = true →
     exec (.resetKey dt p v) s = .next (s.portResult p .ok
       (if v &&& 0xFF#32 = 0xC3#32 then (s.m.elapse dt).setPower (fun x => { x with resetAt := some (s.m.now + dt + 1000) })
        else s.m.elapse dt)))

/-- R82, R86: each phase of Dawn completes and starts the next. D0 leads to D1; D1 with its identity record and a base pair in
force to D2; D2 with every rail valid, the PLL locked and the checks of the flash, its image and the base passed to D3; D3 once
the settle has ended to D4; D4 with the coefficients in place to D5; D5 in the commit window of the first publication to D6. -/
def Obligations.DawnPhasesAdvance : Prop :=
  (∀ (dt : Nat) (inp : DawnInput) (s : State), s.defined → s.m.power.mode = .run → s.m.power.dusk = none → s.m.phase = 0 →
    exec (.dawnPhase dt inp) s = .next (s.result ((s.m.elapse dt).startDawn .cold 1))) ∧
  (∀ (dt : Nat) (inp : DawnInput) (x : Identity) (c : Nat × CopyInfo) (s : State), s.defined → s.m.power.mode = .run →
    s.m.power.dusk = none → s.m.phase = 1 → inp.identity = some x → s.m.inForce 0x4000 64 = some c →
    ∃ t, exec (.dawnPhase dt inp) s = .next t ∧ t.m.phase = 2 ∧ t.m.get R.SYS_SERIAL_LO.SERIAL = x.serial % 2 ^ 32 ∧
      t.m.get R.SYS_FW.PATCH_VER = x.patch % 2 ^ 16 ∧ t.m.overlay.pair = s.m.nvBytes (0x4000 + 4096 * c.1) c.2.len) ∧
  (∀ (dt : Nat) (inp : DawnInput) (y z : Block) (s : State), s.defined → s.m.power.mode = .run → s.m.power.dusk = none →
    s.m.phase = 2 → s.m.railsValid = true → inp.pll = true →
    ((s.m.elapse dt).setFlag R.TB_STATUS.PLL_LOCK true).probeFlash inp = .ok y → y.checkImage inp = .ok z →
    (z.power.kind = .warmD2 ∧ s.m.power.kind = .warmD2 →
      exec (.dawnPhase dt inp) s = .next (s.result
        ((((z.waitingRecords 2).enterPhase 3).setPower (fun p => { p with bias := true })).dawnEvent 3))) ∧
    (s.m.power.kind ≠ .warmD2 → ∀ w, z.applyBase inp = .ok w →
      exec (.dawnPhase dt inp) s = .next (s.result
        ((((w.waitingRecords 2).enterPhase 3).setPower (fun p => { p with bias := true })).dawnEvent 3)))) ∧
  (∀ (dt : Nat) (inp : DawnInput) (s : State), s.defined → s.m.power.mode = .run → s.m.power.dusk = none → s.m.phase = 3 →
    s.m.power.settled = true → exec (.dawnPhase dt inp) s = .next (s.result (((s.m.elapse dt).enterPhase 4).dawnEvent 4))) ∧
  (∀ (dt : Nat) (inp : DawnInput) (s : State), s.defined → s.m.power.mode = .run → s.m.power.dusk = none → s.m.phase = 4 →
    (s.m.elapse dt).resumeCopyback.power.coeffKept = true → (s.m.elapse dt).resumeCopyback.bracketInPlace = true →
    exec (.dawnPhase dt inp) s = .next (s.result
      (((s.m.elapse dt).resumeCopyback.setPower (fun x => { x with d4Skipped := true })).beginD5))) ∧
  (∀ (dt : Nat) (inp : DawnInput) (s : State), s.defined → s.m.power.mode = .run → s.m.power.dusk = none → s.m.phase = 5 →
    s.m.power.firstPub = true → s.m.clock.ticked = true → s.m.now + dt < s.m.clock.lastTick + 100 * s.m.clock.row0 →
    ∃ t, exec (.dawnPhase dt inp) s = .next t ∧ t.m.power.duskHigh = true ∧ t.m.sched.admitting = true ∧
      t.m.flag R.SYS_STATUS.RUNNING = true ∧ t.m.seq.routine = none ∧ t.m.power.mode = .run)

/-- R111: Dawn halts in its phase, PW_STATUS reading PHASE 14, DAWN_FAIL and the code: a rail not valid 100 ms after D2 began
gives code 2, a PLL that does not lock code 3, and what the checks of the flash and its image find their own codes. Until the
100 ms are over D2 waits. R112: DAWN_RETRY restarts a halted Dawn at D1 (a Dawn that began warm at D2 as one that begins warm at
D1, the model's reading); a Dawn that is not halted goes on, and the write's other bits act as usual. -/
def Obligations.DawnHaltsAndRetries : Prop :=
  ((∀ (b : Block) (code : Nat), (b.dawnFail code).phase = 14 ∧ (b.dawnFail code).flag R.PW_STATUS.DAWN_FAIL = true ∧
     (b.dawnFail code).get R.PW_STATUS.DAWN_FAIL_CODE = code % 16 ∧ (b.dawnFail code).seq.routine = none) ∧
   (∀ (dt : Nat) (inp : DawnInput) (s : State), s.defined → s.m.power.mode = .run → s.m.power.dusk = none → s.m.phase = 2 →
     s.m.railsValid = false → exec (.dawnPhase dt inp) s = .next (s.result
       (if s.m.power.phaseAt + 10000000 ≤ s.m.now + dt then (s.m.elapse dt).dawnFail 2 else s.m.elapse dt))) ∧
   (∀ (dt : Nat) (inp : DawnInput) (s : State), s.defined → s.m.power.mode = .run → s.m.power.dusk = none → s.m.phase = 2 →
     s.m.railsValid = true → inp.pll = false → exec (.dawnPhase dt inp) s = .next (s.result ((s.m.elapse dt).dawnFail 3))) ∧
   (∀ (dt : Nat) (inp : DawnInput) (y : Block) (c : Nat) (s : State), s.defined → s.m.power.mode = .run → s.m.power.dusk = none →
     s.m.phase = 2 → s.m.railsValid = true → inp.pll = true →
     ((s.m.elapse dt).setFlag R.TB_STATUS.PLL_LOCK true).probeFlash inp = .ok y → y.checkImage inp = .error c →
     exec (.dawnPhase dt inp) s = .next (s.result (((s.m.elapse dt).setFlag R.TB_STATUS.PLL_LOCK true).dawnFail c)))) ∧
  (∀ (dt : Nat) (p : Port) (v : Word) (s : State), s.defined → s.m.portsAnswer = true → R.PW_CTL.DAWN_RETRY.get v = 1 →
     R.PW_CTL.DUSK_KEY.get v ≠ 0xD5 →
     (s.m.phase = 14 → s.m.power.kind ≠ .warmD2 → exec (.dawnRetry dt p v) s = .next (s.portResult p .ok
       (((s.m.elapse dt).putFields 0x11 v).2.startDawn s.m.power.kind 1))) ∧
     (s.m.phase = 14 → s.m.power.kind = .warmD2 → exec (.dawnRetry dt p v) s = .next (s.portResult p .ok
       (((s.m.elapse dt).putFields 0x11 v).2.startDawn .warmD1 1))) ∧
     (s.m.phase ≠ 14 → exec (.dawnRetry dt p v) s = .next (s.portResult p .ok ((s.m.elapse dt).putFields 0x11 v).2)))

/-- R77, R75, R88: PFAIL, the loss of VDDA or VDRV, and the key 0xD5 in PW_CTL start a Dusk of their cause. R88, R89, R90, R95:
a Dusk sets its cause in PW_RESET_CAUSE and runs in RUN as the Dusk routine from step 1, its time being that of its start; in a
state that lost its memory, or while a Dusk runs, nothing happens. -/
def Obligations.DuskStarts : Prop :=
  ((∀ (dt : Nat) (s : State), s.defined → exec (.pfail dt) s = .next (s.result ((s.m.elapse dt).startDusk .pfail))) ∧
   (∀ (dt : Nat) (p : Port) (v : Word) (s : State), s.defined → s.m.portsAnswer = true → R.PW_CTL.DAWN_RETRY.get v = 0 →
     R.PW_CTL.DUSK_KEY.get v = 0xD5 → exec (.duskKey dt p v) s = .next (s.portResult p .ok
       (((s.m.elapse dt).putFields 0x11 v).2.startDusk .request))) ∧
   (∀ (dt : Nat) (r : Rail) (s : State), s.defined → (r = .vdda ∨ r = .vdrv) → s.m.power.valid.contains r = true →
     s.m.power.mode.lost = false → exec (.railUv dt r) s = .next (s.result
       ((((s.m.elapse dt).setPower (fun x => { x with valid := x.valid.filter (· != r), restoring := x.restoring.filter (· != r) })).setBit
         R.PW_RAIL.UV_SEEN (Rail.bit r)).startDusk .rail)))) ∧
  ((∀ (b : Block) (c : DuskCause), b.power.dusk = none → b.power.mode.lost = false →
     (b.startDusk c).seq.routine = some .dusk ∧ (b.startDusk c).seq.step = 1 ∧ (b.startDusk c).power.mode = .run ∧
     (b.startDusk c).power.dusk = some { cause := c, startedAt := b.now } ∧ (b.startDusk c).phase = 7 ∧
     (b.startDusk c).get R.PW_STATUS.DUSK_STEP = 0 ∧
     (b.startDusk c).get R.PW_RESET_CAUSE.CAUSE = orBit (b.get R.PW_RESET_CAUSE.CAUSE) c.bit % 1024 ∧
     (b.startDusk c).txn.owner = none ∧ (b.startDusk c).night.running = false) ∧
   (∀ (b : Block) (c : DuskCause), (b.power.dusk.isSome = true ∨ b.power.mode.lost = true) → b.startDusk c = b))

/-- R92, R96: step 5 of a Dusk by PFAIL_N or a rail ends 6.5 ms after the start of the Dusk; after step 7 a power-fail Dusk with
PFAIL_N high and every rail valid leads to a warm Dawn, at D1 when the base record was written and else at D2, and every other
Dusk ends in DEEP. R97, R184, R292: DEEP keeps nothing but the non-volatile store, the AON block (PW_WAKE_EN, PW_AON_TIMER,
PW_RESET_CAUSE and the shutter position), WP, TH_STATUS.SD_MARK and PW_STATUS.LAST_SLEEP, which reads 3: every other register is
at its reset value. -/
def Obligations.DuskEnds : Prop :=
  ((∀ (dt : Nat) (d : Dusk) (s : State), s.defined → s.m.power.dusk = some d → (d.cause = .pfail ∨ d.cause = .rail) →
     s.m.seq.routine = some .dusk → s.m.seq.step = 5 → exec (.duskStep5Cut dt) s = .next (s.result
       (if d.startedAt + 650000 ≤ s.m.now + dt then ((s.m.elapse dt).set R.PW_STATUS.DUSK_STEP 5).toStep 6 else s.m.elapse dt))) ∧
   (∀ (dt : Nat) (d : Dusk) (s : State), s.defined → s.m.power.dusk = some d → s.m.get R.PW_STATUS.DUSK_STEP = 7 →
     (d.cause = .pfail ∨ d.cause = .rail) → s.m.railsValid = true →
     exec (.duskEnd dt true) s = .next (s.result
       (if s.m.flag R.NV_STATUS.BASE_WRITTEN then (((s.m.elapse dt).endRoutine .completed).setBit R.PW_RESET_CAUSE.CAUSE 4).startDawn .warmD1 1
        else (((s.m.elapse dt).endRoutine .completed).setBit R.PW_RESET_CAUSE.CAUSE 4).startDawn .warmD2 2))) ∧
   (∀ (dt : Nat) (d : Dusk) (high : Bool) (s : State), s.defined → s.m.power.dusk = some d → s.m.get R.PW_STATUS.DUSK_STEP = 7 →
     ((d.cause ≠ .pfail ∧ d.cause ≠ .rail) ∨ high = false ∨ s.m.railsValid = false) →
     exec (.duskEnd dt high) s = .next (s.result ((s.m.elapse dt).endRoutine .completed).enterDeep))) ∧
  (∀ b : Block, b.enterDeep.power.mode = .deep ∧ b.enterDeep.shut.aonPos = b.shut.aonPos ∧ b.enterDeep.word 0x12 = b.word 0x12 ∧
     b.enterDeep.word 0x14 = b.word 0x14 ∧ b.enterDeep.word 0x16 = b.word 0x16 ∧ b.enterDeep.wp = b.wp ∧
     b.enterDeep.get R.PW_STATUS.LAST_SLEEP = 3 ∧ b.enterDeep.get R.TH_STATUS.SD_MARK = b.get R.TH_STATUS.SD_MARK ∧
     b.enterDeep.mem = memReset ∧ b.enterDeep.rings = ringsReset ∧ b.enterDeep.irq = irqReset ∧ b.enterDeep.mail = mailReset ∧
     (b.nv.op = none → b.enterDeep.nv = { cells := b.nv.cells, bad := b.nv.bad, soft := b.nv.soft }) ∧
     (∀ i, i ∉ [0x12, 0x14, 0x16, R.PW_STATUS.LAST_SLEEP.idx, R.TH_STATUS.SD_MARK.idx] → b.enterDeep.word i = regsReset.getD i 0#32))

/-- R75, R76: the loss of another rail sets its bit in PW_RAIL and writes RAIL_UV with its number, and stops that rail's
functions; its return writes RAIL_OK, and its functions resume at the next tick, or at once while no tick comes (log entry 71).
-/
def Obligations.RailsLostAndRestored : Prop :=
  (∀ (dt : Nat) (r : Rail) (s : State), s.defined → r ≠ .vaon → r ≠ .vcore → r ≠ .vdda → r ≠ .vdrv →
    s.m.power.valid.contains r = true → s.m.power.mode.lost = false →
    exec (.railUv dt r) s = .next (s.result
      (((((s.m.elapse dt).setPower (fun x => { x with valid := x.valid.filter (· != r), restoring := x.restoring.filter (· != r) })).setBit
        R.PW_RAIL.UV_SEEN (Rail.bit r)).event 0x0107 (leBytes 1 (Rail.bit r))).railStops r))) ∧
  (∀ (dt : Nat) (r : Rail) (s : State), s.defined → r ≠ .vdda → r ≠ .vdrv → (s.m.power.valid ++ s.m.power.restoring).contains r = false →
    s.m.power.mode.lost = false → exec (.railRestored dt r) s = .next (s.result
      (if ((s.m.elapse dt).event 0x0108 (leBytes 1 (Rail.bit r))).ticking then
        ((s.m.elapse dt).event 0x0108 (leBytes 1 (Rail.bit r))).setPower (fun x => { x with restoring := x.restoring ++ [r] })
       else ((s.m.elapse dt).event 0x0108 (leBytes 1 (Rail.bit r))).setPower (fun x => x.addRail r))))

/-- R670, R104: the settle ends 20 ms or later after the bias ramp once the substrate is steady, and at 150 ms at the latest,
and PW_DAWN_TIME.SETTLE_MS takes its length; no other time ends it. R215: the bias ramps in 10 ms from 1.0 V to the level of
FP_BIAS. R215, R670, R675: each sample of 1 ms takes the die sites, and with the array biased the power sample and the model;
before D5 it reads the thermistor too. SHUTDOWN then starts a Dusk. -/
def Obligations.SettleAndDawnSamples : Prop :=
  (∀ (dt : Nat) (s : State), s.defined → s.m.settling = true →
     exec (.settleEnd dt) s = .next (s.result
       (if (20 ≤ (s.m.elapse dt).settleMs ∧ (s.m.img.lastGood - s.m.thermal.latched0).natAbs ≤ 64 ∧
             (s.m.thermal.latchedH - s.m.thermal.latched0).natAbs ≤ 25) ∨ 150 ≤ (s.m.elapse dt).settleMs then
         ((s.m.elapse dt).set R.PW_DAWN_TIME.SETTLE_MS (s.m.elapse dt).settleMs).setPower (fun p => { p with settled := true })
        else s.m.elapse dt))) ∧
  (∀ (dt : Nat) (s : State), s.defined → s.m.settling = false → exec (.settleEnd dt) s = .next (s.result (s.m.elapse dt))) ∧
  (∀ b : Block, (b.power.bias = false → b.biasAmplitude = 0) ∧
     (b.power.bias = true → b.phase = 3 → b.now = b.power.phaseAt → b.biasAmplitude = 1000000) ∧
     (b.power.bias = true → b.phase = 3 → b.power.phaseAt + 1000000 ≤ b.now → b.biasAmplitude = biasMicro (b.get R.FP_BIAS.LEVEL))) ∧
  ((∀ (dt : Nat) (inp : TickInput) (s : State), s.defined → s.m.samples1ms = true → s.m.power.bias = false →
     exec (.dawn1msSample dt inp) s = .next (s.result
       (if ((s.m.elapse dt).thermalSample inp.sites).2 then ((s.m.elapse dt).thermalSample inp.sites).1.startDusk .thermal
        else ((s.m.elapse dt).thermalSample inp.sites).1))) ∧
   (∀ (dt : Nat) (inp : TickInput) (x : Block) (s : State), s.defined → s.m.samples1ms = true → s.m.power.bias = true →
     x = (if s.m.phase = 5 then s.m.elapse dt else ((s.m.elapse dt).thermistor (s.m.get R.TB_FRAME.FRAME) inp.thermistor.sum).1) →
     (x.thermalSample inp.sites).2 = false → exec (.dawn1msSample dt inp) s = .next (s.result
       (if ((x.thermalSample inp.sites).1.powerSample inp.iCode inp.vcore).thermal.started then
         ((x.thermalSample inp.sites).1.powerSample inp.iCode inp.vcore).modelUpdate true
        else ((x.thermalSample inp.sites).1.powerSample inp.iCode inp.vcore).startModel.latchModel false))))

/-- R98, R102 to R106: an enabled source wakes the part: from IDLE to RUN at once, from NAP through the sleep-exit routine, from
DEEP through Dawn from D1; PW_WAKE_SRC and the WAKE event name it. In sleep entry the source is kept for the next step boundary
(R108, R109), and in sleep exit it joins PW_WAKE_SRC (R110). Sources that are not enabled, or encoder motion short of ENC_COUNT,
wake nothing. The AON timer wakes PERIOD of its clocks after the sleep state was entered, and not before. -/
def Obligations.WakesResume : Prop :=
  ((∀ (dt src : Nat) (s : State), s.defined → s.m.power.mode = .nap → s.m.seq.routine = none → s.m.wakeHits (src % 32) ≠ 0 →
     exec (.wake dt src) s = .next (s.result ((s.m.elapse dt).wakeNap (s.m.wakeHits (src % 32))))) ∧
   (∀ (dt src : Nat) (s : State), s.defined → s.m.power.mode = .deep → s.m.seq.routine = none → s.m.wakeHits (src % 32) ≠ 0 →
     exec (.wake dt src) s = .next (s.result ((s.m.elapse dt).wakeDeep (s.m.wakeHits (src % 32))))) ∧
   (∀ (dt src : Nat) (s : State), s.defined → s.m.power.mode = .idle → s.m.seq.routine = none → s.m.wakeHits (src % 32) ≠ 0 →
     exec (.wake dt src) s = .next (s.result (((s.m.elapse dt).setPower (fun x =>
       { x with signal := some (aonClock (s.m.now + dt), src % 32) })).wakeIdle (s.m.wakeHits (src % 32))))) ∧
   (∀ (dt src : Nat) (s : State), s.defined → s.m.power.mode = .run → s.m.seq.routine = some .sleepEntry →
     s.m.wakeHits (src % 32) ≠ 0 → exec (.wake dt src) s = .next (s.result ((s.m.elapse dt).setPower (fun x =>
       { x with signal := some (aonClock (s.m.now + dt), src % 32), wakeSrc := x.wakeSrc ||| s.m.wakeHits (src % 32) })))) ∧
   (∀ (dt src : Nat) (s : State), s.defined → s.m.power.mode = .nap → s.m.seq.routine = some .sleepExit →
     s.m.wakeHits (src % 32) ≠ 0 → exec (.wake dt src) s = .next (s.result
       ((s.m.elapse dt).set R.PW_WAKE_SRC.SRC (s.m.get R.PW_WAKE_SRC.SRC ||| s.m.wakeHits (src % 32))))) ∧
   (∀ (dt src : Nat) (s : State), s.defined → s.m.power.mode ≠ .run → s.m.power.mode ≠ .idle → s.m.wakeHits (src % 32) = 0 →
     exec (.wake dt src) s = .next (s.result (s.m.elapse dt))) ∧
   (∀ (dt src : Nat) (s : State), s.defined → (s.m.power.mode = .run ∨ s.m.power.mode = .idle) → s.m.wakeHits (src % 32) = 0 →
     exec (.wake dt src) s = .next (s.result ((s.m.elapse dt).setPower (fun x =>
       { x with signal := some (aonClock (s.m.now + dt), src % 32) })))) ∧
   (∀ (b : Block) (sources i : Nat), i < 6 → (bitOf (b.wakeHits sources) i = true ↔
      bitOf b.wakeEnable.toNat i = true ∧ bitOf sources i = true ∧ b.wakeSeen b.wakeEnable i = true))) ∧
  ((∀ (dt : Nat) (s : State), s.defined → s.m.power.mode = .nap → s.m.seq.routine = none → s.m.wakeHits 32 ≠ 0 →
     100000000 * s.m.get R.PW_AON_TIMER.PERIOD ≤ 32768 * (s.m.now + dt - s.m.power.pubAt) →
     exec (.aonTimerWake dt) s = .next (s.result ((s.m.elapse dt).wakeNap (s.m.wakeHits 32)))) ∧
   (∀ (dt : Nat) (s : State), s.defined → s.m.power.mode = .deep → s.m.seq.routine = none → s.m.wakeHits 32 ≠ 0 →
     100000000 * s.m.get R.PW_AON_TIMER.PERIOD ≤ 32768 * (s.m.now + dt - s.m.power.pubAt) →
     exec (.aonTimerWake dt) s = .next (s.result ((s.m.elapse dt).wakeDeep (s.m.wakeHits 32)))) ∧
   (∀ (dt : Nat) (s : State), s.defined → s.m.power.mode = .idle → s.m.seq.routine = none → s.m.wakeHits 32 ≠ 0 →
     100000000 * s.m.get R.PW_AON_TIMER.PERIOD ≤ 32768 * (s.m.now + dt - s.m.power.pubAt) →
     exec (.aonTimerWake dt) s = .next (s.result ((s.m.elapse dt).wakeIdle (s.m.wakeHits 32)))) ∧
   (∀ (dt : Nat) (s : State), s.defined → 32768 * (s.m.now + dt - s.m.power.pubAt) < 100000000 * s.m.get R.PW_AON_TIMER.PERIOD →
     exec (.aonTimerWake dt) s = .next (s.result (s.m.elapse dt)))) ∧
  (∀ (b : Block) (hits : Nat), (b.wakeNap hits).seq.routine = some .sleepExit ∧ (b.wakeNap hits).phase = 10 ∧
    (b.wakeDeep hits).power.kind = .deepWake ∧ (b.wakeDeep hits).seq.routine = some .dawn ∧ (b.wakeDeep hits).power.mode = .run ∧
    (b.wakeIdle hits).power.mode = .run ∧ (b.wakeIdle hits).phase = 6 ∧
    (b.wakeIdle hits).get R.PW_WAKE_SRC.SRC = hits % 64 ∧ (b.wakeNap hits).get R.PW_WAKE_SRC.SRC = hits % 64 ∧
    (b.wakeDeep hits).get R.PW_WAKE_SRC.SRC = hits % 64)

/-! ## The sequencer (chapters 16 and 17) -/

/-- R559: the commands that start no routine. PING echoes its arguments; VERSION answers the ROM and patch versions and 1;
STATUS the routine with its step, the commands held, the overlay active and the frame number; OVERLAY_INFO the slot of an absent
overlay with free values for SEQ and NAME (log entry 78), and SRC, length, SEQ and NAME of one in flash or in its own Trapeze
pair; an id above 63 is BAD_ARGS (log entry 79). R560: LOG_READ puts the records asked for into an enabled output ring of the
sender and answers how many, and a count outside 1 to 64 is BAD_ARGS; LOG_INFO answers how many records there are and the oldest
sequence, a free value of an empty log (log entry 78); BRACKET_FORCE (R273) forces a bracket of 0 to 15, or none with 31, and is
BAD_ARGS between; PEER_SEND (R179) queues four words toward the sync bus, or answers FULL. R554: none of them does anything while
the sequencer's next visit is to another channel, or to none. -/
def Obligations.CommandsAnswerAtOnce : Prop :=
  ((∀ (dt ch : Nat) (dst : ReplyTo) (args : List Nat) (t : Block) (s : State), s.defined →
     (s.m.elapse dt).commandAt ch 0x01 dst args t → exec (.ping dt ch) s = .next (s.result (t.reply dst 0 args))) ∧
   (∀ (dt ch : Nat) (dst : ReplyTo) (args : List Nat) (t : Block) (s : State), s.defined →
     (s.m.elapse dt).commandAt ch 0x02 dst args t → exec (.version dt ch) s = .next (s.result (t.reply dst 0
       [Config.romVersion % 2 ^ 16 + 2 ^ 16 * t.get R.SYS_FW.PATCH_VER, 1]))) ∧
   (∀ (dt ch : Nat) (dst : ReplyTo) (args : List Nat) (t : Block) (s : State), s.defined →
     (s.m.elapse dt).commandAt ch 0x03 dst args t → exec (.status dt ch) s = .next (s.result (t.reply dst 0
       [t.routineCode + 16 * (t.seq.step % 16) + 2 ^ 8 * t.heldCommands + 2 ^ 16 * t.get R.CFG_OVERLAY.ACTIVE,
        t.get R.TB_FRAME.FRAME]))) ∧
   (∀ (dt ch id : Nat) (header : List Byte) (dst : ReplyTo) (t : Block) (s : State), s.defined → id < 64 →
     (s.m.elapse dt).commandAt ch 0x13 dst [id] t → (t.slotOf id).src = 2 →
     exec (.overlayInfo dt ch header) s = .next (s.result ((t.freeBytes 32).2.reply dst 0
       ((2 + 2 ^ 16 * (t.slotOf id).len) :: infoWords (t.freeBytes 32).1)))) ∧
   (∀ (dt ch id : Nat) (header : List Byte) (dst : ReplyTo) (t : Block) (s : State), s.defined → id < 64 →
     (s.m.elapse dt).commandAt ch 0x13 dst [id] t → (t.slotOf id).src = 0 →
     header.length = 32 → exec (.overlayInfo dt ch header) s = .next (s.result (t.reply dst 0
       [2 ^ 16 * (t.slotOf id).len, leField header 24 4, leField header 8 4, leField header 12 4, leField header 16 4,
        leField header 20 4]))) ∧
   (∀ (dt ch id c : Nat) (header : List Byte) (dst : ReplyTo) (i : CopyInfo) (t : Block) (s : State), s.defined → id < 64 →
     (s.m.elapse dt).commandAt ch 0x13 dst [id] t → (t.slotOf id).src = 1 →
     t.pairFound (t.slotOf id).addr (slotPages (t.slotOf id).len) = {} →
     t.inForce (t.slotOf id).addr (slotPages (t.slotOf id).len) = some (c, i) →
     exec (.overlayInfo dt ch header) s = .next (s.result (t.reply dst 0 ((1 + 2 ^ 16 * (t.slotOf id).len) ::
       infoWords (t.nvBytes ((t.slotOf id).addr + 64 * slotPages (t.slotOf id).len * c) i.len))))) ∧
   (∀ (dt ch id : Nat) (header : List Byte) (dst : ReplyTo) (t : Block) (s : State), s.defined → 64 ≤ id → id < 256 →
     (s.m.elapse dt).commandAt ch 0x13 dst [id] t →
     exec (.overlayInfo dt ch header) s = .next (s.result (t.reply dst 3 [])))) ∧
  ((∀ (dt ch k off n : Nat) (dst : ReplyTo) (t : Block) (s : State), s.defined →
     (s.m.elapse dt).commandAt ch 0x50 dst [k, off, n] t → 1 ≤ n → n ≤ 64 → (t.ring (k % 32)).en = true →
     ((t.ring (k % 32)).role = 1 ∨ (t.ring (k % 32)).role = 2) → t.hostEnd ch = some (t.ring (k % 32)).owner →
     exec (.logRead dt ch) s = .next (s.result
       ((((t.nv.log.drop off).take n).foldl (fun b e => b.ringPut (k % 32) (some e.seq) e.entry) t).reply dst 0
         [((t.nv.log.drop off).take n).length]))) ∧
   (∀ (dt ch k off n : Nat) (dst : ReplyTo) (t : Block) (s : State), s.defined →
     (s.m.elapse dt).commandAt ch 0x50 dst [k, off, n] t → (n = 0 ∨ 64 < n) →
     exec (.logRead dt ch) s = .next (s.result (t.reply dst 3 []))) ∧
   (∀ (dt ch k off n : Nat) (dst : ReplyTo) (t : Block) (s : State), s.defined →
     (s.m.elapse dt).commandAt ch 0x50 dst [k, off, n] t → 1 ≤ n → n ≤ 64 →
     ((t.ring (k % 32)).en = false ∨ (t.ring (k % 32)).role = 0 ∨ t.hostEnd ch ≠ some (t.ring (k % 32)).owner) →
     exec (.logRead dt ch) s = .next (s.result (t.reply dst 4 []))) ∧
   (∀ (dt ch : Nat) (dst : ReplyTo) (args : List Nat) (t : Block) (s : State), s.defined →
     (s.m.elapse dt).commandAt ch 0x51 dst args t → exec (.logInfo dt ch) s = .next (s.result
       (match t.nv.log with
        | e :: _ => t.reply dst 0 [t.nv.log.length, e.seq]
        | [] => t.freeNat.2.reply dst 0 [0, t.freeNat.1]))) ∧
   (∀ (dt ch k : Nat) (dst : ReplyTo) (t : Block) (s : State), s.defined → (s.m.elapse dt).commandAt ch 0x60 dst [k] t → k < 32 →
     exec (.bracketForce dt ch) s = .next (s.result
       (if k = 31 then (t.forceBracket none).reply dst 0 []
        else if k < 16 then (t.forceBracket (some k)).reply dst 0 [] else t.reply dst 3 []))) ∧
   (∀ (dt ch : Nat) (dst : ReplyTo) (args : List Nat) (t : Block) (s : State), s.defined →
     (s.m.elapse dt).commandAt ch 0x70 dst args t → exec (.peerSend dt ch) s = .next (s.result
       (if t.peerRoom then (t.queuePeer (args.flatMap (leBytes 4))).reply dst 0 [] else t.reply dst 7 [])))) ∧
  (∀ (dt ch : Nat) (header : List Byte) (s : State), s.defined → (s.m.elapse dt).nextVisit ≠ some ch →
    ∀ c ∈ ([.ping dt ch, .version dt ch, .status dt ch, .overlayInfo dt ch header, .logRead dt ch, .logInfo dt ch,
            .bracketForce dt ch, .peerSend dt ch, .abortRoutine dt ch, .badCommand dt ch, .applyOverlay dt ch, .armOverlay dt ch,
            .commitArmed dt ch, .startMidnight dt ch, .nvFlush dt ch, .sleep dt ch, .logClear dt ch] : List Instr),
      exec c s = .next (s.result (s.m.elapse dt)))

/-- R554, R557, R559: with Dawn over, no routine running and nothing held, a routine command starts its routine at once:
APPLY_OVERLAY and ARM_OVERLAY the apply routine (0xFF asks for the base), COMMIT_ARMED its last steps, START_MIDNIGHT a cycle,
NV_FLUSH and LOG_CLEAR the flush; an overlay id above 63 that does not ask for the base is BAD_ARGS (log entry 79). R98, R99,
R100, R108: SLEEP is refused before Dawn has reached D6, while a transaction is open, or to NAP or DEEP with no wake source
enabled; else it is answered OK and sleep entry begins, unless a wake source signalled in the same clock of the AON block; to
RUN it has no effect in RUN and wakes the part from IDLE. -/
def Obligations.RoutineCommandsStart : Prop :=
  ((∀ (dt ch id tick : Nat) (dst : ReplyTo) (t : Block) (s : State), s.defined → (s.m.elapse dt).commandAt ch 0x10 dst [id, tick] t →
     s.m.mayStart = true → (id < 64 ∨ id = 255) →
     exec (.applyOverlay dt ch) s = .next (s.result
       (((t.startRoutine .overlay 1 (some dst)).setOv (fun x => { x with
         want := (if id = 255 then 0x7F else id), stop := false, tick := (if tick = 0xFFFFFFFF then none else some tick), got := [] })).reply dst 1 []))) ∧
   (∀ (dt ch id : Nat) (dst : ReplyTo) (t : Block) (s : State), s.defined → (s.m.elapse dt).commandAt ch 0x11 dst [id] t →
     s.m.mayStart = true → (id < 64 ∨ id = 255) →
     exec (.armOverlay dt ch) s = .next (s.result
       ((t.startRoutine .overlay 1 (some dst)).setOv (fun x => { x with
         want := (if id = 255 then 0x7F else id), stop := true, tick := none, got := [] })))) ∧
   (∀ (dt ch id tick : Nat) (dst : ReplyTo) (t : Block) (s : State), s.defined → s.m.mayStart = true → 64 ≤ id → id < 255 →
     ((s.m.elapse dt).commandAt ch 0x10 dst [id, tick] t → exec (.applyOverlay dt ch) s = .next (s.result (t.reply dst 3 []))) ∧
     ((s.m.elapse dt).commandAt ch 0x11 dst [id] t → exec (.armOverlay dt ch) s = .next (s.result (t.reply dst 3 [])))) ∧
   (∀ (dt ch tick : Nat) (dst : ReplyTo) (t : Block) (s : State), s.defined → (s.m.elapse dt).commandAt ch 0x12 dst [tick] t →
     s.m.mayStart = true → exec (.commitArmed dt ch) s = .next (s.result
       (if s.m.overlayArmed then ((t.startRoutine .overlay 5 (some dst)).setOv (fun x => { x with
           tick := (if tick = 0xFFFFFFFF then none else some tick) })).reply dst 1 []
        else t.reply dst 4 []))) ∧
   (∀ (dt ch : Nat) (dst : ReplyTo) (args : List Nat) (t : Block) (s : State), s.defined →
     (s.m.elapse dt).commandAt ch 0x20 dst args t → s.m.mayStart = true →
     exec (.startMidnight dt ch) s = .next (s.result (t.beginMidnight 2 false (some dst)))) ∧
   (∀ (dt ch : Nat) (dst : ReplyTo) (args : List Nat) (t : Block) (s : State), s.defined → s.m.mayStart = true →
     ∀ c ∈ ([(0x30, 0, .nvFlush dt ch), (0x52, 3, .logClear dt ch)] : List (Nat × Nat × Instr)),
       (s.m.elapse dt).commandAt ch c.1 dst args t →
       (s.m.nv.op = none → exec c.2.2 s = .next (s.result
         (((t.setNv (fun x => { x with flushCause := c.2.1 })).startRoutine .flush 0 (some dst)).startSegment c.2.1 true))) ∧
       (∀ op, s.m.nv.op = some op → exec c.2.2 s = .next (s.result
         ((t.setNv (fun x => { x with flushCause := c.2.1, op := some { op with flush := false } })).startRoutine .flush 0
           (some dst)))))) ∧
  ((∀ (dt ch code : Nat) (dst : ReplyTo) (t : Block) (s : State), s.defined → (s.m.elapse dt).commandAt ch 0x40 dst [code] t →
     s.m.mayStart = true → code ∈ [1, 2, 3] →
     (s.m.sleepRefused (sleepTarget code) = true → exec (.sleep dt ch) s = .next (s.result (t.reply dst 4 []))) ∧
     (s.m.sleepRefused (sleepTarget code) = false → s.m.power.signal = none →
       exec (.sleep dt ch) s = .next (s.result
         (((((t.reply dst 0 []).setPower (fun x => { x with
               target := sleepTarget code, wakeSrc := 0, wakeEn := (s.m.word 0x12).toNat, flushStarted := false })).setEnc
           (fun e => { e with moved := 0 })).setPhase 9).startRoutine .sleepEntry 1 none)))) ∧
   (∀ (dt ch : Nat) (dst : ReplyTo) (t : Block) (s : State), s.defined → (s.m.elapse dt).commandAt ch 0x40 dst [0] t →
     s.m.mayStart = true → exec (.sleep dt ch) s = .next (s.result
       ((if s.m.power.mode = .idle then t.wakeIdle 0 else t).reply dst 0 []))) ∧
   (∀ (dt ch code : Nat) (dst : ReplyTo) (t : Block) (s : State), s.defined → (s.m.elapse dt).commandAt ch 0x40 dst [code] t →
     s.m.dawned = false → code ∈ [1, 2, 3] → exec (.sleep dt ch) s = .next (s.result (t.reply dst 4 []))) ∧
   (∀ (b : Block) (target : PowerMode), b.sleepRefused target = true ↔
     b.dawned = false ∨ b.txn.owner.isSome = true ∨ (target ≠ .idle ∧ (b.word 0x12).toNat % 64 = 0)))

/-- R557, R563: a routine command that may not start (SLEEP once Dawn has reached D6, R99) takes its channel's deferred slot;
while the slot is full it waits in the mailbox and nothing changes. R517: APPLY_OVERLAY and COMMIT_ARMED abort a Midnight cycle
before M8 and run at once, and wait in the mailbox from M8 on. R557, R301: what was held first starts once no routine runs: a held
command as it would have, a Midnight request as its trigger. -/
def Obligations.RoutineCommandsWait : Prop :=
  (∀ (dt ch op : Nat) (w : Word) (args : List Word) (s : State), s.defined → s.m.seq.routine ≠ some .midnight →
     (s.m.elapse dt).nextVisit = some ch → ((s.m.elapse dt).standingAt ch).goodCommand ch op = some (w, args) →
     s.m.mayStart = false → (op = 0x40 → s.m.dawned = true) →
     ∀ c ∈ ([(0x10, .applyOverlay dt ch), (0x11, .armOverlay dt ch), (0x12, .commitArmed dt ch), (0x20, .startMidnight dt ch),
             (0x30, .nvFlush dt ch), (0x40, .sleep dt ch), (0x52, .logClear dt ch)] : List (Nat × Instr)), c.1 = op →
       s.m.slotFull ch = false ∧ exec c.2 s = .next (s.result
         ((((s.m.elapse dt).standingAt ch).takeCommand ch args).hold (.command ch w args)))) ∧
  (∀ (b : Block) (ch op : Nat) (w : Word) (args : List Word), (b.settleDiscard ch).goodCommand ch op = some (w, args) →
     b.mayStart = false → b.slotFull ch = true →
     (op ∈ [0x11, 0x20, 0x30, 0x52] ∨ (op = 0x40 ∧ b.dawned = true) ∨
       (op ∈ [0x10, 0x12] ∧ (b.seq.routine ≠ some .midnight ∨ 8 ≤ b.night.step))) →
     b.takeable ch = false) ∧
  (∀ (dt ch id tick : Nat) (dst : ReplyTo) (t : Block) (s : State), s.defined → s.m.seq.routine = some .midnight → s.m.night.step < 8 →
     ((s.m.elapse dt).commandAt ch 0x10 dst [id, tick] t → (id < 64 ∨ id = 255) →
       exec (.applyOverlay dt ch) s = .next (s.result ((t.abortMidnight 1).startApply id (commitTick tick) false (some dst)))) ∧
     ((s.m.elapse dt).commandAt ch 0x12 dst [tick] t →
       exec (.commitArmed dt ch) s = .next (s.result ((t.abortMidnight 1).startCommitArmed (commitTick tick) (some dst))))) ∧
  (∀ (dt : Nat) (rest : List Held) (s : State), s.defined → s.m.seqListens = true → s.m.seq.routine = none → s.m.dawned = true →
     (∀ ch w args, s.m.seq.held = .command ch w args :: rest → exec (.deferredCommandStart dt) s = .next (s.result
       (runHeld (cmdOp w) ⟨ch, cmdTag w⟩ (args.map BitVec.toNat) ((s.m.elapse dt).setSeq (fun x => { x with held := rest }))))) ∧
     (∀ n, s.m.seq.held = .midnight n :: rest → exec (.deferredCommandStart dt) s = .next (s.result
       (((s.m.elapse dt).setSeq (fun x => { x with held := rest })).beginMidnight n false none)))) ∧
  (∀ (dt : Nat) (s : State), s.defined → (s.m.seqListens = false ∨ s.m.seq.routine ≠ none ∨ s.m.dawned = false ∨ s.m.seq.held = []) →
     exec (.deferredCommandStart dt) s = .next (s.result (s.m.elapse dt)))

/-- R583, R518, R309: ABORT_ROUTINE aborts a Midnight cycle, an overlay, a flush or sleep entry and answers its code; it is
refused while Dawn, Dusk or sleep exit runs, and when nothing runs and no overlay is armed. R638: an aborted flush leaves the
write operation in progress, which is no longer its own. R561: an unknown opcode is answered BAD_COMMAND (2) and a wrong argument
count BAD_ARGS (3), and the argument words leave the queue; of a command that states more than 7 arguments, the words that have
come and those that follow are discarded. -/
def Obligations.AbortAndBadCommands : Prop :=
  (∀ (dt ch : Nat) (dst : ReplyTo) (args : List Nat) (t : Block) (s : State), s.defined →
     (s.m.elapse dt).commandAt ch 0x21 dst args t →
     (s.m.seq.routine = some .midnight → exec (.abortRoutine dt ch) s = .next (s.result ((t.abortMidnight 0).reply dst 0 [3]))) ∧
     (s.m.seq.routine = some .overlay → exec (.abortRoutine dt ch) s = .next (s.result (t.abortOverlay.reply dst 0 [4]))) ∧
     (s.m.seq.routine = some .flush → exec (.abortRoutine dt ch) s = .next (s.result
       (((t.setNv (fun x => { x with op := x.op.map (fun op => { op with flush := false }) })).finishRoutine .aborted 6 []).reply
         dst 0 [5]))) ∧
     (s.m.seq.routine = some .sleepEntry → exec (.abortRoutine dt ch) s = .next (s.result
       ((t.sleepAbort s.m.seq.step 0 .aborted).reply dst 0 [6]))) ∧
     (s.m.seq.routine ∈ [some .dawn, some .dusk, some .sleepExit] →
       exec (.abortRoutine dt ch) s = .next (s.result (t.reply dst 4 []))) ∧
     (s.m.seq.routine = none → exec (.abortRoutine dt ch) s = .next (s.result
       (if s.m.overlayArmed then (t.rollbackTxn 4).reply dst 0 [4] else t.reply dst 4 [])))) ∧
  (∀ (dt ch : Nat) (w : Word) (args : List Word) (b : Block) (s : State), s.defined → (s.m.elapse dt).nextVisit = some ch →
     b = (s.m.elapse dt).standingAt ch → b.nextCommand ch = some (w, args) → cmdGood w = false →
     exec (.badCommand dt ch) s = .next (s.result
       ((if 7 < cmdCount w then
           ((b.takeCommand ch args).setSeq (fun x => { x with discard := x.discard.set ch (cmdCount w) })).settleDiscard ch
         else b.takeCommand ch args).reply ⟨ch, cmdTag w⟩ (if (cmdArgs (cmdOp w)).isSome then 3 else 2) [])))

/-- R578, R580, R581, R584: a slice of a routine takes SEQ's eligible sources first, but in Dusk, and then, once no command that
starts no routine waits, runs the routine's step, which ends the slice; each step of Dusk completes in its order. R711, R712: a
slice that ran 100 µs restarts SEQ: a receiver reset of SEQ, its running priority and stack emptied, and SEQ_RESTART with the
routine, its step and the count; the third restart of one slice starts a Dusk, or ends the Dusk step. -/
def Obligations.SlicesAndRestarts : Prop :=
  ((∀ (dt : Nat) (inp : SliceInput) (b : Block) (s : State), s.defined → (s.m.power.mode = .run ∨ s.m.power.mode = .idle) →
     s.m.seqListens = true → b = (List.range 8).foldl Block.settleDiscard (s.m.elapse dt).seqTakeSources →
     (b.plainWaits = true → s.m.seq.routine ≠ some .dusk → exec (.routineSlice dt inp) s = .next (s.result b)) ∧
     (b.plainWaits = false → s.m.night.running = false →
       (s.m.seq.routine = some .overlay → exec (.routineSlice dt inp) s = .next (s.result b.sliceDone.overlaySlice)) ∧
       (s.m.seq.routine = some .flush → exec (.routineSlice dt inp) s = .next (s.result b.sliceDone.flushSlice)) ∧
       (s.m.seq.routine = some .sleepEntry → exec (.routineSlice dt inp) s = .next (s.result b.sliceDone.sleepSlice)) ∧
       ((s.m.seq.routine = none ∨ s.m.seq.routine = some .dawn ∨ s.m.seq.routine = some .midnight) →
         exec (.routineSlice dt inp) s = .next (s.result b.sliceDone))) ∧
     (b.plainWaits = false → s.m.night.running = true → s.m.seq.routine = some .midnight →
       (s.m.night.abortCause = none → b.sliceDone.nightAccept.seq.routine = some .midnight →
         exec (.routineSlice dt inp) s = .next (s.result b.sliceDone.nightAccept)))) ∧
   (∀ (dt : Nat) (inp : SliceInput) (x : Block) (s : State), s.defined → s.m.power.mode = .run → s.m.seq.routine = some .dusk →
     x = (s.m.elapse dt).setSeq (fun q => { q with restarts := 0 }) →
     (s.m.seq.step = 1 → exec (.routineSlice dt inp) s = .next (s.result
       (((x.closeAdmission 8).stopBrackets.set R.PW_STATUS.DUSK_STEP 1).toStep 2))) ∧
     (s.m.seq.step = 2 → exec (.routineSlice dt inp) s = .next (s.result ((x.stopValves.set R.PW_STATUS.DUSK_STEP 2).toStep 3))) ∧
     (s.m.seq.step = 3 → exec (.routineSlice dt inp) s = .next (s.result
       ((x.stopLamps.stopLoops.set R.PW_STATUS.DUSK_STEP 3).toStep 4))) ∧
     (s.m.seq.step = 4 → exec (.routineSlice dt inp) s = .next (s.result
       (((if s.m.flag R.PW_CTL.DUSK_SHUTTER then x.offerPulse { dir := .close, width := 0, source := .dusk } else x).set
         R.PW_STATUS.DUSK_STEP 4).toStep 5))) ∧
     (s.m.seq.step = 5 → s.m.nvBusy = true → exec (.routineSlice dt inp) s = .next (s.result x)) ∧
     (s.m.seq.step = 5 → s.m.nvBusy = false → s.m.power.flushStarted = false → s.m.flag R.PW_CTL.PERSIST_FLUSH = true →
       exec (.routineSlice dt inp) s = .next (s.result ((x.setPower (fun p => { p with flushStarted := true })).startSegment 1))) ∧
     (s.m.seq.step = 5 → s.m.nvBusy = false → (s.m.power.flushStarted = true ∨ s.m.flag R.PW_CTL.PERSIST_FLUSH = false) →
       exec (.routineSlice dt inp) s = .next (s.result ((x.set R.PW_STATUS.DUSK_STEP 5).toStep 6))) ∧
     (s.m.seq.step = 6 → exec (.routineSlice dt inp) s = .next (s.result
       (((x.stopReadout.cpStop.setPower (fun p => { p with bias := false })).set R.PW_STATUS.DUSK_STEP 6).toStep 7))) ∧
     (s.m.seq.step = 7 → exec (.routineSlice dt inp) s = .next (s.result
       ((x.duskLow.set R.PW_STATUS.DUSK_STEP 7).toStep 8))))) ∧
  (∀ (dt : Nat) (k : RoutineKind) (t : Block) (s : State), s.defined → (s.m.power.mode = .run ∨ s.m.power.mode = .idle) →
     s.m.seq.routine = some k →
     t = (((s.m.elapse dt).setSeq (fun x => { x with restarts := s.m.seq.restarts + 1 })).receiverReset 2 0) →
     (s.m.seq.restarts < 2 → exec (.seqRestart dt) s = .next ({ s with nests := { s.nests with seq := {} } }.result
       (t.eventFrom 0x0115 0 0 (leBytes 1 t.routineCode ++ leBytes 1 t.seq.step ++ leBytes 1 (s.m.seq.restarts + 1))))) ∧
     (2 ≤ s.m.seq.restarts → k ≠ .dusk → exec (.seqRestart dt) s = .next ({ s with nests := { s.nests with seq := {} } }.result
       ((t.eventFrom 0x0115 0 0 (leBytes 1 t.routineCode ++ leBytes 1 t.seq.step ++ leBytes 1 (s.m.seq.restarts + 1))).startDusk
         .request))) ∧
     (2 ≤ s.m.seq.restarts → k = .dusk → exec (.seqRestart dt) s = .next ({ s with nests := { s.nests with seq := {} } }.result
       ((t.eventFrom 0x0115 0 0 (leBytes 1 t.routineCode ++ leBytes 1 t.seq.step ++ leBytes 1 (s.m.seq.restarts + 1))).duskDone
         s.m.seq.step))))

/-- R558, R552, R555: the first reply that waits on a channel enters its queue when the whole of it has room, else it waits on;
four words toward PEER enter the outbound queue when that has room; four words that came from PEER leave the channel of SEQ as
an event record in ring 0. -/
def Obligations.RepliesAndPeerWords : Prop :=
  (∀ (dt ch m : Nat) (ws : List Word) (s : State), s.defined → (s.m.power.mode = .run ∨ s.m.power.mode = .idle) →
    s.m.seq.waiting.find? (fun p => p.1 == ch) = some (ch, ws) → s.m.hostEnd ch = some m →
    exec (.replyEnqueue dt ch) s = .next (s.result
      (if (s.m.toward ch m).length + ws.length ≤ 8 then
        { (s.m.elapse dt).enqueue ch m ws with
          seq := { ((s.m.elapse dt).enqueue ch m ws).seq with waiting := s.m.seq.waiting.eraseP (fun p => p.1 == ch) } }
       else s.m.elapse dt))) ∧
  (∀ (dt ch : Nat) (s : State), s.defined → (s.m.power.mode = .run ∨ s.m.power.mode = .idle) → ((s.m.booth ch).other 3).isSome = true →
    s.m.peerRoom = true → 4 ≤ (s.m.toward ch 3).length → exec (.peerQueueEnter dt ch) s = .next (s.result
      (((s.m.elapse dt).dequeue ch 3 4).queuePeer (wordBytes ((s.m.toward ch 3).take 4))))) ∧
  (∀ (dt ch : Nat) (s : State), s.defined → s.m.seqListens = true → s.m.otherEnd ch 2 = some 3 → 4 ≤ (s.m.toward ch 2).length →
    exec (.peerRx dt ch) s = .next (s.result
      (((s.m.elapse dt).dequeue ch 2 4).eventFrom 0x0B05 (leField (wordBytes ((s.m.toward ch 2).take 4)) 0 2) 0
        (((wordBytes ((s.m.toward ch 2).take 4)).drop 2).take 14))))

/-! ## Host ports and registers (chapter 14) -/

/-- R15 to R18: a register write acts field by field. An RW field that is live takes the value written; so does an X- or U-class
field while its block does not run; an X-class field of a block that runs keeps its value; a W1C field loses the bits written as
1; S-class fields and RO, WO and RC fields are left as they are. Registers of other indices are not touched. R16: a write that
would change an X-class field of a running block has the result LOCKED, and else the result is OK. -/
def Obligations.RegisterFieldsByClass : Prop :=
  (∀ (b : Block) (idx : Nat) (w : Word) (f : RegField), f ∈ fieldsOf idx →
     (f.acc = .rw → f.cls ≠ .S → ¬ (f.cls = .X ∧ b.ownerRuns idx = true) → (b.putFields idx w).2.get f = f.get w) ∧
     (f.acc = .rw → f.cls = .X → b.ownerRuns idx = true → (b.putFields idx w).2.get f = b.get f) ∧
     (f.acc = .w1c → (b.putFields idx w).2.get f = f.get (b.word idx &&& ~~~ w)) ∧
     (f.acc = .rw → f.cls = .S → (b.putFields idx w).2.get f = b.get f) ∧
     (f.acc = .ro ∨ f.acc = .wo ∨ f.acc = .rc → (b.putFields idx w).2.get f = b.get f) ∧
     (∀ j, j ≠ idx → (b.putFields idx w).2.word j = b.word j)) ∧
  (∀ (b : Block) (idx : Nat) (w : Word),
     ((b.putFields idx w).1 = .locked ↔ b.ownerRuns idx = true ∧ ∃ f ∈ fieldsOf idx, f.acc = .rw ∧ f.cls = .X ∧ f.get w ≠ b.get f) ∧
     ((b.putFields idx w).1 = .locked ∨ (b.putFields idx w).1 = .ok))

/-- R470, R471: REGISTER_WRITE of an index of its own meaning acts as one write item of the port and leaves its result; the
registers of power, of the ends of interrupt and the window data have statements of their own. An unassigned index is BAD_INDEX
and writes nothing. R11, R474: READ_CLEAR of a register whose read-clear bits are separate flags or counters takes the value
read off each of those fields: a flag field loses the bits read as 1, a counter keeps what it gained since. R145: a read of
TB_PT_LO captures PT and WP of one TIME clock together. -/
def Obligations.RegisterAccessCompletes : Prop :=
  ((∀ (dt : Nat) (p : Port) (idx : Nat) (v : Word) (s : State), s.defined → s.m.portsAnswer = true → idx < 256 →
     idx ∉ [0x05, 0x0A, 0x11, 0xC5, 0xC7] → exec (.registerWrite dt p idx v) s = .next (s.result
       (portResult p (((s.m.elapse dt).settleWire.writeReg p {} idx v).1, ((s.m.elapse dt).settleWire.writeReg p {} idx v).2.2)).endRefused)) ∧
   (∀ (dt : Nat) (p : Port) (idx : Nat) (v : Word) (s : State), s.defined → s.m.portsAnswer = true → idx < 256 → assigned idx = false →
     exec (.registerWrite dt p idx v) s = .next (s.result (portResult p (.badIndex, (s.m.elapse dt).settleWire)).endRefused)) ∧
   (∀ (dt : Nat) (p : Port) (v : Word) (s : State), s.defined → s.m.portsAnswer = true →
     exec (.registerWrite dt p 0x06 v) s = .next (s.result
       (portResult p (.ok, (s.m.elapse dt).settleWire.setWord 0x06 v)).endRefused))) ∧
  ((∀ (dt : Nat) (p : Port) (idx : Nat) (v : Word) (s : State), s.defined → s.m.portsAnswer = true →
     idx ∉ [0x07, 0xA7, 0xB5, 0xC4, 0xC6] → exec (.readClear dt p idx v) s = .next (s.result
       ((rcFields idx (BitVec.allOnes 32)).foldl (Block.rcField v) (s.m.elapse dt)))) ∧
   (∀ (b : Block) (w : Word) (f : RegField), f ∈ fieldsOf f.idx → f ≠ R.AS_COUNT.PEAK → f ≠ R.VO_STATUS.BUF_PEAK →
     (rcBits.contains f = false → (b.rcField w f).get f = b.get f - f.get w) ∧
     (rcBits.contains f = true → (b.rcField w f).get f = f.get (b.word f.idx &&& ~~~ w)) ∧
     (∀ g, g ∈ fieldsOf g.idx → g ≠ f → (b.rcField w f).get g = b.get g)) ∧
   (∀ (dt : Nat) (p : Port) (v : Word) (s : State), s.defined → s.m.portsAnswer = true →
     exec (.readClear dt p 0xB5 v) s = .next (s.result ((s.m.elapse dt).mbReceive p)))) ∧
  (∀ (dt : Nat) (p : Port) (s : State), s.defined → s.m.portsAnswer = true → exec (.ptCapture dt p) s = .next (s.portResult p .ok
     { s.m.elapse dt with clock := { (s.m.elapse dt).clock with
         captured := (s.m.elapse dt).clock.pt, capturedWp := (s.m.elapse dt).wp } }))

/-- R464, R475, R478, R486, for every region of the internal map: a window write stores the four bytes of its word, least
significant first, in the ring SRAM, and in the pixel records and BREF tables while correction stands; it is a staged item of a
staged table (R491), an interrupt message (R34), a write of the store (R619) or a page program (R601); elsewhere it is
WINDOW_FAULT with its address. A window read gives the word at its address (free values where the manual lays nothing down, log
entries 168 and 169), or WINDOW_FAULT, NV_BUSY or MP_TIMEOUT. WIN_ADDR advances after every access, faults included. WIN_ADDR
takes an address of whole words, and asks for its line in a flash window. R479: a read in a flash window takes a line that the
port holds; a line that the port does not hold is WINDOW_FAULT and sets RA_MISS, or MP_TIMEOUT when its fill timed out. -/
def Obligations.WindowAccesses : Prop :=
  ((∀ (dt a : Nat) (p : Port) (w : Word) (b : Block) (s : State), s.defined → s.m.portsAnswer = true →
     b = (s.m.elapse dt).settleWire → a = (s.m.port p).winAddr →
     (∀ (r : HostResult) (run : FrameRun) (y : Block), regionOf a ∉ [.store, .flash1, .vendor] → b.windowWrite p.mid {} a w = (r, run, y) →
       exec (.winData dt p (some w)) s = .next (s.portResult p r (portResult p (r, (y.advance p).winFaultAt p r a)).endRefused)) ∧
     (∀ (r : HostResult) (y : Block), regionOf a = .store → (b.advance p).nvWindow [(a - 0x00A00000, w)] = ([r], y) →
       exec (.winData dt p (some w)) s = .next (s.portResult p r (portResult p (r, y.winFaultAt p r a)).endRefused)) ∧
     (∀ (r : HostResult) (y : Block), regionOf a = .flash1 → (b.advance p).pageRequest [(a, w)] = (r, y) →
       exec (.winData dt p (some w)) s = .next (s.portResult p r (portResult p (r, y.winFaultAt p r a)).endRefused)) ∧
     (∀ r : HostResult, regionOf a = .vendor → r = (if s.m.nvBusy then HostResult.nvBusy else .windowFault) →
       exec (.winData dt p (some w)) s = .next (s.portResult p r (portResult p (r, (b.advance p).winFaultAt p r a)).endRefused))) ∧
   (∀ (b : Block) (mid a : Nat) (w : Word),
     (regionOf a = .ring → b.windowWrite mid {} a w = (.ok, {}, b.store a (leBytes 4 w.toNat))) ∧
     (regionOf a = .pixels → b.img.cpRun = false → b.windowWrite mid {} a w = (.ok, {}, b.store a (recordBytes a w))) ∧
     (regionOf a = .bref → b.img.cpRun = false → b.windowWrite mid {} a w = (.ok, {}, b.store a (leBytes 4 w.toNat))) ∧
     (regionOf a = .staged → stagedWord a = true → b.windowWrite mid {} a w = b.stage mid {} (.table a (leBytes 4 w.toNat))) ∧
     (regionOf a = .interrupt → 0xE0 ≤ w.toNat → w.toNat ≤ 0xEF → b.windowWrite mid {} a w = (.ok, {}, b.message w.toNat)) ∧
     (regionOf a ∈ [.shadow, .work, .results, .armed, .journal, .booth, .flash0, .absent] →
       b.windowWrite mid {} a w = (.windowFault, {}, b)))) ∧
  ((∀ (dt a v : Nat) (p : Port) (r : HostResult) (found : NvFound) (b x y : Block) (s : State), s.defined → s.m.portsAnswer = true →
     b = (s.m.elapse dt).settleWire → a = (s.m.port p).winAddr → b.windowRead p a = (r, v, found, x) →
     y = ((x.advance p).winFaultAt p r a).nvTell found →
     exec (.winData dt p none) s = .next (s.portResult p r
       (if lampCounter a then y.rcLamp a (BitVec.ofNat 32 v) (BitVec.allOnes 32) else y).endRefused)) ∧
   (∀ (b : Block) (p : Port) (a : Nat),
     (regionOf a ∈ [.pixels, .bref, .staged, .ring, .results, .armed, .journal, .booth, .interrupt] →
       b.windowRead p a = (.ok, ofLe (b.viewBytes a), {}, b)) ∧
     (regionOf a ∈ [.pixels, .bref, .ring] → b.viewBytes a = b.bytes a 4) ∧
     (regionOf a = .shadow → b.brk.sums = false → b.windowRead p a = (.ok, ofLe (b.bytes a 4), {}, b)) ∧
     (regionOf a = .absent → b.windowRead p a = (.windowFault, 0, {}, b)) ∧
     (regionOf a ∈ [.store, .vendor] → b.nvBusy = true → b.windowRead p a = (.nvBusy, 0, {}, b)) ∧
     (regionOf a = .store → b.nvBusy = false → (b.nvFound (a - 0x00A00000) 4).bad = [] →
       b.windowRead p a = (.ok, ofLe (b.nvBytes (a - 0x00A00000) 4), b.nvFound (a - 0x00A00000) 4, b)) ∧
     (regionOf a = .store → b.nvBusy = false → (b.nvFound (a - 0x00A00000) 4).bad ≠ [] →
       b.windowRead p a = (.ok, ofLe (b.freeBytes 4).1, b.nvFound (a - 0x00A00000) 4, (b.freeBytes 4).2)) ∧
     ((regionOf a = .work ∨ (regionOf a = .vendor ∧ b.nvBusy = false) ∨ (regionOf a = .shadow ∧ b.brk.sums = true)) →
       b.windowRead p a = (.ok, ofLe (b.freeBytes 4).1, {}, (b.freeBytes 4).2)))) ∧
  (∀ (dt : Nat) (p : Port) (v : Word) (s : State), s.defined → s.m.portsAnswer = true →
     exec (.winAddrWrite dt p v) s = .next (s.portResult p .ok
       ((((s.m.elapse dt).settleWire.setPort p (fun x => { x with winAddr := v.toNat - v.toNat % 4 })).readAhead p
         (v.toNat - v.toNat % 4)).endRefused))) ∧
  ((∀ (dt a : Nat) (p : Port) (b : Block) (s : State), s.defined → s.m.portsAnswer = true → b = (s.m.elapse dt).settleWire →
     a = (s.m.port p).winAddr → regionOf a ∈ [.flash0, .flash1] →
     ((s.m.port p).ra.ready = true → (s.m.port p).ra.line = a / 256 →
       exec (.readaheadRead dt p) s = .next (s.portResult p .ok (b.advance p).endRefused)) ∧
     (((s.m.port p).ra.ready = false ∨ (s.m.port p).ra.line ≠ a / 256) → (s.m.port p).ra.timedOut ≠ some (a / 256) →
       exec (.readaheadRead dt p) s = .next (s.portResult p .windowFault
         ((((b.setPort p (fun x => { x with raMiss := true })).advance p).setPort p (fun x =>
           { x with winFault := true, winFaultAddr := a })).endRefused))) ∧
     (((s.m.port p).ra.ready = false ∨ (s.m.port p).ra.line ≠ a / 256) → (s.m.port p).ra.timedOut = some (a / 256) →
       exec (.readaheadRead dt p) s = .next (s.portResult p .mpTimeout
         (((b.advance p).setPort p (fun x => { x with winFault := true, winFaultAddr := a })).endRefused)))) ∧
   (∀ (dt : Nat) (p : Port) (s : State), s.defined → s.m.portsAnswer = true → regionOf (s.m.port p).winAddr ∉ [.flash0, .flash1] →
     exec (.readaheadRead dt p) s = .next (s.portResult p .ok (s.m.elapse dt))) ∧
   (∀ (b : Block) (p : Port) (a : Nat), regionOf a ∈ [.flash0, .flash1] → (b.port p).ra.ready = true → (b.port p).ra.line = a / 256 →
     b.windowRead p a = (.ok, leField (b.port p).ra.data (a % 256) 4, {}, b))) ∧
  (∀ (b : Block) (p : Port), ((b.advance p).port p).winAddr = ((b.port p).winAddr + (if (b.port p).winInc = 0 then 0 else 4)) % 2 ^ 32)

/-- R460 to R467, R472: the moments of a host frame. When CS_N falls the port takes the mode and the status word of that moment,
and whether the fall comes less than 500 ns after the rise before. Each word that begins to shift joins the frame and SDO shifts
out the status word, a zero word, and then each read item's two halves, the upper one first; a read item is captured as its upper
half begins. R472: when CS_N rises, a frame that fell too early is not accepted, one of fewer than 16 bits, a read frame that is
cut inside a word, or a write frame of another length than its command word asks for, is rejected: nothing is written or cleared;
FRAME_ERR, the result FRAME_REJECTED and the port's count tell it. A frame while the ports do not answer is not executed. R463 to
R474: a write frame of one register without a meaning of its own executes as REGISTER_WRITE does; a read frame of one such
register clears what it read. R484: a frame outside the port's timing is undefined behaviour. -/
def Obligations.HostFrames : Prop :=
  ((∀ (dt : Nat) (p : Port) (mode3 early : Bool) (s : State), s.defined →
     (early = true ↔ ∃ r, (s.m.port p).lastRise = some r ∧ s.m.now + dt < r + 50) →
     exec (.hostFrame dt { port := p, part := .fall mode3 }) s = .next (s.result ((s.m.elapse dt).setPort p (fun x => { x with
       sdo := [], cs := some { mode3 := mode3, answered := s.m.portsAnswer, early := early, status := s.m.statusWord s.nests p early } })))) ∧
   (∀ (b : Block) (n : Nests) (p : Port) (early : Bool), b.statusWord n p early % 256 = b.get R.TB_FRAME.FRAME % 256 ∧
     b.statusWord n p early / 256 % 16 = (b.port p).lastResult.code ∧
     ((b.statusWord n p early).testBit 12 = b.txn.owner.isSome) ∧ ((b.statusWord n p early).testBit 13 = b.irqLow n p) ∧
     ((b.statusWord n p early).testBit 14 = (b.port p).frameErr) ∧ ((b.statusWord n p early).testBit 15 = early))) ∧
  ((∀ (dt w k : Nat) (p : Port) (f g : FrameInProgress) (s : State), s.defined → (s.m.port p).cs = some f → f.answered = true →
     k = f.words.length → g = { f with words := f.words ++ [w % 65536] } →
     ((k < 2 ∨ k % 2 = 1 ∨ f.early = true ∨ f.reads = false ∨ f.count ≤ (k - 2) / 2) →
       exec (.hostFrame dt { port := p, part := .shift w }) s = .next (s.result ((s.m.elapse dt).setPort p (fun x =>
         { x with cs := some g, sdo := x.sdo ++ [g.out k] })))) ∧
     (∀ (i : ReadItem) (y : Block) (h : FrameInProgress), 2 ≤ k → k % 2 = 0 → f.early = false → f.reads = true → (k - 2) / 2 < f.count →
       (s.m.elapse dt).settleWire.latchWps.readItem s.nests p f.op f.index ((k - 2) / 2) = (i, y) →
       h = { g with items := f.items ++ [i] } →
       exec (.hostFrame dt { port := p, part := .shift w }) s = .next (s.result (y.endRefused.setPort p (fun x =>
         { x with cs := some h, sdo := x.sdo ++ [h.out k] }))))) ∧
   (∀ (b : Block) (n : Nests) (p : Port) (index i : Nat), index + i < 256 → index + i ∉ [0x0A, 0x26] → assigned (index + i) = true →
     (nvGated (index + i) = true → b.nvBusy = false) →
     b.readItem n p 0 index i = ({ result := .ok, word := b.readReg n p (index + i), idx := some (index + i) }, b)) ∧
   (∀ (f : FrameInProgress) (i : Nat) (x : ReadItem), f.out 0 = f.status ∧ f.out 1 = 0 ∧
     (f.items[i]? = some x → f.out (2 + 2 * i) = x.word.toNat / 65536 ∧ f.out (3 + 2 * i) = x.word.toNat % 65536))) ∧
  ((∀ (dt last : Nat) (p : Port) (f : FrameInProgress) (y : Block) (s : State), s.defined → (s.m.port p).cs = some f → f.answered = true →
     y = (s.m.elapse dt).settleWire.latchWps.setPort p (fun x => { x with cs := none, lastRise := some (s.m.now + dt), mode3 := f.mode3 }) →
     (f.early = true → exec (.hostFrame dt { port := p, part := .rise last }) s = .next (s.result (y.refuseFrame p false).endRefused)) ∧
     (f.early = false → f.bits last < 16 →
       exec (.hostFrame dt { port := p, part := .rise last }) s = .next (s.result (y.refuseFrame p true).endRefused)) ∧
     (f.early = false → 16 ≤ f.bits last → f.reads = false → f.bits last ≠ 16 * (1 + 2 * f.count) →
       exec (.hostFrame dt { port := p, part := .rise last }) s = .next (s.result (y.refuseFrame p true).endRefused)) ∧
     (f.early = false → 16 ≤ f.bits last → f.reads = true → f.bits last % 16 ≠ 0 → (∀ i ∈ f.items, i.found = {}) →
       exec (.hostFrame dt { port := p, part := .rise last }) s = .next (s.result (y.refuseFrame p true).endRefused)) ∧
     (∀ (idx hi lo : Nat) (v : Word), f.early = false → f.words = [0x4000 + idx, hi, lo] → 16 ≤ last → idx < 256 →
       idx ∉ [0x05, 0x0A, 0x11, 0xC5, 0xC7] → v = BitVec.ofNat 32 (hi * 65536 + lo) →
       exec (.hostFrame dt { port := p, part := .rise last }) s = .next (s.result
         (portResult p ((y.writeReg p {} idx v).1, (y.writeReg p {} idx v).2.2)).endRefused)) ∧
     (∀ (idx w1 w2 w3 : Nat) (v : Word), f.early = false → f.words = [idx, w1, w2, w3] → idx < 256 → 16 ≤ last →
       f.items = [{ result := .ok, word := v, idx := some idx }] →
       exec (.hostFrame dt { port := p, part := .rise last }) s = .next
         ({ s with nests := (clearRead p idx v (BitVec.allOnes 32) s.nests y).1 }.result
           (portResult p (.ok, (clearRead p idx v (BitVec.allOnes 32) s.nests y).2)).endRefused))) ∧
   (∀ (dt last : Nat) (p : Port) (f : FrameInProgress) (s : State), s.defined → (s.m.port p).cs = some f → f.answered = false →
     exec (.hostFrame dt { port := p, part := .rise last }) s = .next (s.result ((s.m.elapse dt).setPort p (fun x =>
       { x with cs := none, lastRise := some (s.m.now + dt) })))) ∧
   (∀ (b : Block) (p : Port) (accepted : Bool), ((b.refuseFrame p accepted).port p).frameErr = true ∧
     ((b.refuseFrame p accepted).port p).lastResult = .frameRejected ∧
     (accepted = true → ((b.refuseFrame p accepted).port p).rejected = min R.SYS_PORT.REJECTED.top ((b.port p).rejected + 1)) ∧
     (accepted = false → ((b.refuseFrame p accepted).port p).notAccepted = min R.SYS_PORT.NOT_ACCEPTED.top ((b.port p).notAccepted + 1)))) ∧
  (∀ (dt : Nat) (p : Port) (part : FramePart) (s : State), s.defined → s.m.portsAnswer = true →
    exec (.hostFrame dt { port := p, part := part, timing := false }) s = .next (s.result ((s.m.elapse dt).enterUndef .hostTiming)))

/-! ## Interrupts, doorbells, mailboxes and rings (chapters 16 and 17) -/

/-- R566, R567, R34: a message sets its source's pending bit, and one for a source that is pending counts in IC_STAT.COALESCED;
number 0 and messages before the end of D0 are not accepted. A host writes 0xE0 to 0xEF to the message address; other values are
WINDOW_FAULT and send nothing. R543: a doorbell bit that is set sends its source when its mask bit is 1, also when it was set
before, and no message when the mask bit is 0. R573: an acknowledge of a pending source above the running priority clears its
pending bit, pushes the running priority and takes the captured one; any other does nothing, and so does one that comes while the
ports do not answer (R62). -/
def Obligations.MessagesAndAcknowledges : Prop :=
  ((∀ (dt src : Nat) (x : IrqSource) (s : State), s.defined → 0 < src → s.m.phase ≠ 0 → s.m.irq[src]? = some x →
     exec (.interruptMessage dt src) s = .next (s.result
       (if x.pending then (s.m.elapse dt).set R.IC_STAT.COALESCED
           (min R.IC_STAT.COALESCED.top (s.m.get R.IC_STAT.COALESCED + 1))
        else { s.m.elapse dt with irq := s.m.irq.setIfInBounds src { x with pending := true } }))) ∧
   (∀ (dt src : Nat) (s : State), s.defined → src < 256 → (src = 0 ∨ s.m.phase = 0) →
     exec (.interruptMessage dt src) s = .next (s.result (s.m.elapse dt))) ∧
   (∀ (dt : Nat) (p : Port) (v : Word) (s : State), s.defined → s.m.portsAnswer = true → 0xE0 ≤ v.toNat → v.toNat ≤ 0xEF →
     exec (.softwareInterrupt dt p v) s = .next (s.portResult p .ok ((s.m.elapse dt).message v.toNat))) ∧
   (∀ (dt : Nat) (p : Port) (v : Word) (s : State), s.defined → s.m.portsAnswer = true → (v.toNat < 0xE0 ∨ 0xEF < v.toNat) →
     exec (.softwareInterrupt dt p v) s = .next (s.portResult p .windowFault
       ((s.m.elapse dt).setPort p (fun x => { x with winFault := true, winFaultAddr := 0x00C00000 }))))) ∧
  (∀ (b : Block) (i : Nat), i < 32 →
     (b.doorbell 0 i = if bitOf b.portA.dbMask i then ({ b with dbA := b.dbA ||| BitVec.ofNat 32 (2 ^ i) } : Block).message (0x80 + i)
       else { b with dbA := b.dbA ||| BitVec.ofNat 32 (2 ^ i) }) ∧
     (b.doorbell 1 i = if bitOf b.portB.dbMask i then ({ b with dbB := b.dbB ||| BitVec.ofNat 32 (2 ^ i) } : Block).message (0xA0 + i)
       else { b with dbB := b.dbB ||| BitVec.ofNat 32 (2 ^ i) }) ∧
     (b.doorbell 2 i = if i < 27 then ({ b with dbSeq := b.dbSeq ||| BitVec.ofNat 32 (2 ^ i) } : Block).message (0xC0 + i)
       else { b with dbSeq := b.dbSeq ||| BitVec.ofNat 32 (2 ^ i) })) ∧
  (∀ (dt : Nat) (p : Port) (src prio : Nat) (x : IrqSource) (s : State), s.defined → s.m.portsAnswer = true → s.m.irq[src]? = some x →
     (x.pending = true → (s.nests.port p).running < prio → exec (.icAck dt p src prio) s = .next
       ({ s with nests := s.nests.setPort p { running := prio, stack := (s.nests.port p).running :: (s.nests.port p).stack } }.result
         { s.m.elapse dt with irq := s.m.irq.setIfInBounds src { x with pending := false } })) ∧
     (x.pending = false ∨ prio ≤ (s.nests.port p).running →
       exec (.icAck dt p src prio) s = .next (s.result (s.m.elapse dt)))) ∧
  (∀ (dt src prio : Nat) (p : Port) (s : State), s.defined → s.m.portsAnswer = false →
     ∀ c ∈ ([.icAck dt p src prio, .icEoi dt p] : List Instr), exec c s = .next (s.result (s.m.elapse dt)))

/-- R574: an end of interrupt of a host port that answers pops that port's stack into its running priority; when the stack is empty it is
ignored and counts in IC_STAT.EOI_EMPTY, which saturates. -/
def Obligations.EndOfInterruptPops : Prop :=
  ∀ (dt : Nat) (p : Port) (s : State), s.defined → s.m.portsAnswer = true →
    (∀ top rest, (s.nests.port p).stack = top :: rest → exec (.icEoi dt p) s = .next
      ({ s with nests := s.nests.setPort p { running := top, stack := rest } }.result (s.m.elapse dt))) ∧
    ((s.nests.port p).stack = [] → exec (.icEoi dt p) s = .next (s.result
      ((s.m.elapse dt).set R.IC_STAT.EOI_EMPTY (min R.IC_STAT.EOI_EMPTY.top (s.m.get R.IC_STAT.EOI_EMPTY + 1)))))

/-- R569: the highest eligible source of a target is pending, delivered to that target and above its running priority; no
eligible source has a greater priority, and of equal ones it has the lowest number. There is none when no source is eligible. A
target in order whose stack is empty, with no handler in service, has running priority 0. -/
def Obligations.HighestSourceWins : Prop :=
  (∀ n : Nest, n.ordered → n.stack = [] → n.running = 0) ∧
  ∀ (b : Block) (target run : Nat),
    (∀ n p, b.highest target run = some (n, p) →
      (∃ x, b.irq[n]? = some x ∧ x.pending = true ∧ x.dest = target ∧ x.prio = p ∧ run < p) ∧
      (∀ (k : Nat) (y : IrqSource), b.irq[k]? = some y → y.pending = true → y.dest = target → run < y.prio → y.prio < p ∨ (y.prio = p ∧ n ≤ k))) ∧
    (b.highest target run = none → ∀ (k : Nat) (y : IrqSource), b.irq[k]? = some y → y.pending = true → y.dest = target → y.prio ≤ run)

/-- R550, R551: a word sent on a bound channel with room joins the queue toward the other end, and the first into an empty queue
rings MB_RX (one that the sequencer has to discard goes at once, R561); a full queue sets FULL and an unbound channel ERR in the
sender's view, and the word is dropped. A received word
leaves its queue; an empty queue is left as it is. R544, R547, R548, R553: a booth edit begins once and locks once, with the
pending copy taking effect, MB_BOOTH written; a host rings bits 0 to 23 of a host's doorbell and no others; the key 0xA5 resets
the port as receiver and other values do nothing. -/
def Obligations.MailboxesAndBooth : Prop :=
  ((∀ (dt : Nat) (p : Port) (w : Word) (o : Nat) (s : State), s.defined → s.m.portsAnswer = true →
     s.m.otherEnd (s.m.port p).mbCh p.mid = some o →
     exec (.mbTx dt p w) s = .next (s.portResult p .ok
       (if (s.m.toward (s.m.port p).mbCh o).length < 8 then
          (if o = 2 ∧ s.m.seqListens = true then ((s.m.elapse dt).enqueue (s.m.port p).mbCh o [w]).settleDiscard (s.m.port p).mbCh
           else (s.m.elapse dt).enqueue (s.m.port p).mbCh o [w])
        else (s.m.elapse dt).setEnd p.mid (s.m.port p).mbCh (fun v => { v with full := true })))) ∧
   (∀ (dt : Nat) (p : Port) (w : Word) (s : State), s.defined → s.m.portsAnswer = true →
     s.m.otherEnd (s.m.port p).mbCh p.mid = none →
     exec (.mbTx dt p w) s = .next (s.portResult p .ok
       ((s.m.elapse dt).setEnd p.mid (s.m.port p).mbCh (fun v => { v with err := true })))) ∧
   (∀ (dt : Nat) (p : Port) (s : State), s.defined → s.m.portsAnswer = true →
     exec (.mbRx dt p) s = .next (s.portResult p .ok
       (if s.m.rxWords (s.m.port p).mbCh p.mid = 0 then s.m.elapse dt else (s.m.elapse dt).dequeue (s.m.port p).mbCh p.mid 1))) ∧
   (∀ (b : Block) (c mid o : Nat) (ws : List Word), c < 8 → b.otherEnd c mid = some o →
     (b.enqueue c mid ws).toward c mid = b.toward c mid ++ ws ∧ (b.enqueue c mid ws).toward c o = b.toward c o ∧
     (∀ n, (b.dequeue c mid n).toward c mid = (b.toward c mid).drop n ∧ (b.dequeue c mid n).toward c o = b.toward c o))) ∧
  ((∀ (dt : Nat) (p : Port) (s : State), s.defined → s.m.portsAnswer = true → exec (.boothBegin dt p) s = .next
     (if s.m.mail.begun then s.portResult p .locked (s.m.elapse dt)
      else s.portResult p .ok ((s.m.elapse dt).setMail (fun x =>
        { x with begun := true, edit := true, editor := p.mid, editMids := [], pendBooth := x.booth })))) ∧
   (∀ (dt : Nat) (p : Port) (s : State), s.defined → s.m.portsAnswer = true → exec (.boothLock dt p) s = .next
     (if s.m.mail.edit then s.portResult p .ok
       ((((List.range 8).foldl (Block.rebind s.m.mail.pendBooth) (s.m.elapse dt)).setMail (fun x =>
         { x with booth := s.m.mail.pendBooth, pendBooth := [], edit := false, locked := true })).event 0x0B03
           (s.m.mail.pendBooth.flatMap (fun e => leBytes 1 e.byte)))
      else s.portResult p .locked (s.m.elapse dt))) ∧
   (∀ (dt : Nat) (p : Port) (v : Word) (s : State), s.defined → s.m.portsAnswer = true → exec (.mbDbRing dt p v) s = .next
     (s.portResult p .ok (if R.MB_DB_RING.BIT.get v < 24 then (s.m.elapse dt).doorbell (R.MB_DB_RING.TARGET.get v) (R.MB_DB_RING.BIT.get v)
       else s.m.elapse dt))) ∧
   (∀ (dt : Nat) (p : Port) (v : Word) (s : State), s.defined → s.m.portsAnswer = true → exec (.mbPortReset dt p v) s = .next
     (s.portResult p .ok (if R.MB_PORT_RESET.KEY.get v = 0xA5 then (s.m.elapse dt).receiverReset p.mid 2 else s.m.elapse dt))) ∧
   (∀ (b : Block) (mid c : Nat), c < 8 → mid < 4 → (b.otherEnd c mid).isSome = true → (b.resetChannel mid c).toward c mid = []))

/-- R525, R526, R528 to R530: a ring whose descriptor breaks no rule is enabled empty with its numbers from 0; else EN stays 0,
CFG_ERR is set and RING_CFG_ERR names the first rule broken. A producer's HEAD and a consumer's TAIL move forwards alone, within
the entries of the ring, and only by the MID that owns the ring; an index beyond the ring is undefined behaviour. R532, R534,
R537: a record put into a ring with a free slot and nothing dropped is written at HEAD with the ring's number, and HEAD and the
number advance; into a full ring that keeps its records it is dropped: SRAM stays, it takes its number, and the counts of losses
rise. -/
def Obligations.RingsMoveAndRecord : Prop :=
  ((∀ (dt k : Nat) (s : State), s.defined → s.m.portsAnswer = true → k < 32 → (s.m.ring k).en = false →
     (s.m.ringRule k = none → exec (.ringEnable dt k) s = .next (s.result ((s.m.elapse dt).setRing k
       { s.m.ring k with cfg := (s.m.ring k).cfg ||| 1#32, head := 0, tail := 0, seq := 0, pendLost := 0 }))) ∧
     (∀ n, s.m.ringRule k = some n → exec (.ringEnable dt k) s = .next (s.result
       (((s.m.elapse dt).setRing k { s.m.ring k with cfgErr := true }).event 0x0B04 (leBytes 1 k ++ leBytes 1 n))))) ∧
   (∀ (dt : Nat) (p : Port) (k v : Nat) (s : State), s.defined → s.m.portsAnswer = true → k < 32 → (s.m.ring k).beyond v = false →
     exec (.ringHeadWrite dt p k v) s = .next (s.portResult p .ok
       (if (s.m.ring k).en ∧ (s.m.ring k).role = 0 ∧ (s.m.ring k).owner = p.mid ∧
           (s.m.ring k).count ≤ (v + (s.m.ring k).depth - (s.m.ring k).tail) % (s.m.ring k).depth then
         (s.m.elapse dt).setRing k { s.m.ring k with head := v } else s.m.elapse dt))) ∧
   (∀ (dt : Nat) (p : Port) (k v : Nat) (s : State), s.defined → s.m.portsAnswer = true → k < 32 → (s.m.ring k).beyond v = false →
     exec (.ringTailWrite dt p k v) s = .next (s.portResult p .ok
       (if (s.m.ring k).en ∧ (s.m.ring k).role ≠ 0 ∧ (s.m.ring k).owner = p.mid ∧
           (v + (s.m.ring k).depth - (s.m.ring k).tail) % (s.m.ring k).depth ≤ (s.m.ring k).count then
         ((s.m.elapse dt).setRing k { s.m.ring k with tail := v }).flushLost k else s.m.elapse dt))) ∧
   (∀ (dt : Nat) (p : Port) (k v : Nat) (s : State), s.defined → s.m.portsAnswer = true → k < 32 → (s.m.ring k).beyond v = true →
     ∃ t, exec (.ringTailWrite dt p k v) s = .next t ∧ t.m.undef = some .ringIndex ∧ t.m.outputsOff) ∧
   (∀ (dt k : Nat) (s : State), s.defined → exec (.lostRecord dt k) s = .next (s.result ((s.m.elapse dt).flushLost k)))) ∧
  (∀ (b : Block) (k : Nat) (rec : Record), k < 32 →
     ((b.ring k).full = false → (b.ring k).pendLost = 0 →
       (b.ringPut k none rec).mem = Mem.writeBytes 0#8 b.mem ((b.ring k).slot (b.ring k).head) (rec.encode (b.ring k).seq (b.ring k).esize) ∧
       (b.ringPut k none rec).ring k = { b.ring k with
         head := ((b.ring k).head + 1) % (b.ring k).depth, seq := ((b.ring k).seq + 1) % 2 ^ 32 }) ∧
     ((b.ring k).full = true → (b.ring k).overwrites = false →
       (b.ringPut k none rec).mem = b.mem ∧ ((b.ringPut k none rec).ring k).pendLost = (b.ring k).pendLost + 1 ∧
       ((b.ringPut k none rec).ring k).lost = min 0xFFFFFFFF ((b.ring k).lost + 1) ∧
       ((b.ringPut k none rec).ring k).dropped = true ∧ ((b.ringPut k none rec).ring k).seq = ((b.ring k).seq + 1) % 2 ^ 32 ∧
       ((b.ringPut k none rec).ring k).head = (b.ring k).head ∧ ((b.ringPut k none rec).ring k).tail = (b.ring k).tail) ∧
     (∀ j, j ≠ k → (b.ringPut k none rec).ring j = b.ring j))

/-- R56, R66, R718, R720: while the test access port is alive, a selected instruction is held with the port's shift state, and one
that selects the boundary register brings its cells; BYPASS, IDCODE and SAMPLE change nothing else; any other is undefined
behaviour in RUN and IDLE, with the outputs off. Without VCORE or VDDIO_A, and in DEEP, no instruction does anything. No
instruction makes a gate land, a shutter land or a CSI-2 lane follow its cell. -/
def Obligations.TapInstructions : Prop :=
  (∀ (dt : Nat) (i : TapInstr) (sh : Bool) (cells : List (Signal × Option Bool)) (s : State), s.defined → s.m.tapAlive = true →
    (i ∈ [.bypass, .idcode, .sample] ∨ s.m.inRun = false) →
    exec (.tapInstruction dt i sh cells) s = .next (s.result { s.m.elapse dt with
      tap := { instr := i, shifting := sh, cells := if i = .sample ∨ i = .extest then cells else s.m.tap.cells } })) ∧
  (∀ (dt : Nat) (i : TapInstr) (sh : Bool) (cells : List (Signal × Option Bool)) (s : State), s.defined → s.m.tapAlive = false →
    exec (.tapInstruction dt i sh cells) s = .next (s.result (s.m.elapse dt))) ∧
  (∀ (dt : Nat) (i : TapInstr) (sh : Bool) (cells : List (Signal × Option Bool)) (s : State), s.defined → s.m.tapAlive = true →
    s.m.inRun = true → i ∉ [.bypass, .idcode, .sample] →
    ∃ t, exec (.tapInstruction dt i sh cells) s = .next t ∧ t.m.undef = some .tap ∧ t.m.outputsOff ∧ t.m.tap.instr = i) ∧
  (∀ (b : Block) (n : Nat) (k : Bool),
    ∀ x ∈ [Signal.gl n, .gb n, .gh n, .gf n, .lg n, .bstGate, .shA, .shB, .csiCk k, .csiD n k], b.boundaryDrive x = none)

/-! ## Transactions and overlays (chapter 15) -/

/-- R490, R493, R495: BEGIN opens a transaction when none is open; COMMIT_NEXT and COMMIT_AT make it pending when the port's MID
owns it and it is neither pending nor doomed; all three are TXN_REFUSED otherwise and change nothing. R496: a commit for the
current tick, or for one at most 2^31 − 1 before it, is late: it waits for the next window, with LATE and COMMIT_LATE; a commit
for a later tick waits for that tick. -/
def Obligations.TransactionsBeginAndPend : Prop :=
  ((∀ (dt : Nat) (p : Port) (s : State), s.defined → s.m.portsAnswer = true →
     exec (.beginTxn dt p) s = .next (if s.m.txn.owner.isSome then s.portResult p .txnRefused (s.m.elapse dt)
       else s.portResult p .ok ((s.m.elapse dt).setTxn (fun x => { x with
         owner := some p.mid, pending := none, beganAt := s.m.now + dt, timeout := s.m.get R.CFG_TIMEOUT.MS, doomed := false,
         journal := [] })))) ∧
   (∀ (dt : Nat) (p : Port) (s : State), s.defined → s.m.portsAnswer = true →
     exec (.commitNext dt p) s = .next
       (if s.m.txn.owner = some p.mid ∧ s.m.txn.pending = none ∧ s.m.txn.doomed = false then
         s.portResult p .ok ((s.m.elapse dt).setTxn (fun x => { x with pending := some .next }))
        else s.portResult p .txnRefused (s.m.elapse dt))) ∧
   (∀ (dt : Nat) (p : Port) (s : State), s.defined → s.m.portsAnswer = true →
     exec (.commitAt dt p) s = .next
       (if s.m.txn.owner = some p.mid ∧ s.m.txn.pending = none ∧ s.m.txn.doomed = false then
         s.portResult p .ok ((s.m.elapse dt).pendAt (s.m.get R.CFG_COMMIT_TICK.TICK))
        else s.portResult p .txnRefused (s.m.elapse dt)))) ∧
  (∀ (b : Block) (t : Nat), t < 2 ^ 32 →
     ((b.tickNow + 2 ^ 32 - t) % 2 ^ 32 < 2 ^ 31 → b.pendAt t =
       ((b.setTxn (fun x => { x with pending := some .next })).setFlag R.CFG_STATUS.LATE true).event 0x0904
         (leBytes 4 t ++ leBytes 4 b.tickNext)) ∧
     (2 ^ 31 ≤ (b.tickNow + 2 ^ 32 - t) % 2 ^ 32 → b.pendAt t = b.setTxn (fun x => { x with pending := some (.at t) })))

/-- R493, R494, R498, R499: ROLLBACK by the owner rolls back with cause HOST, or FORCE when FORCE is set; with FORCE a host also
rolls back the other host's, but not SEQ's; else it is TXN_REFUSED. A host's open transaction without a pending commit is rolled
back at its timeout. A rollback empties the journal, leaves every register it does not itself report in, and writes
TXN_ROLLBACK. -/
def Obligations.TransactionsRollBack : Prop :=
  (∀ (dt : Nat) (p : Port) (force : Bool) (s : State), s.defined → s.m.portsAnswer = true →
    (s.m.txn.owner = some p.mid → exec (.rollback dt p force) s = .next (s.portResult p .ok ((s.m.elapse dt).rollbackTxn (bit force)))) ∧
    (∀ o, s.m.txn.owner = some o → o ≠ p.mid → o < 2 → force = true →
      exec (.rollback dt p force) s = .next (s.portResult p .ok ((s.m.elapse dt).rollbackTxn 1))) ∧
    (∀ o, s.m.txn.owner = some o → o ≠ p.mid → (2 ≤ o ∨ force = false) →
      exec (.rollback dt p force) s = .next (s.portResult p .txnRefused (s.m.elapse dt))) ∧
    (s.m.txn.owner = none → exec (.rollback dt p force) s = .next (s.portResult p .txnRefused (s.m.elapse dt)))) ∧
  (∀ (dt o : Nat) (s : State), s.defined → s.m.txn.owner = some o → o < 2 → s.m.txn.timeout ≠ 0 → s.m.txn.pending = none →
    exec (.txnTimeout dt) s = .next (s.result
      (if s.m.txn.beganAt + 100000 * s.m.txn.timeout ≤ s.m.now + dt then (s.m.elapse dt).rollbackTxn 2 else s.m.elapse dt))) ∧
  (∀ (b : Block) (o cause : Nat), b.txn.owner = some o → o < 2 → cause ≤ 4 →
    b.rollbackTxn cause =
      ((((b.setTxn (fun x => { x with owner := none, pending := none, doomed := false, journal := [] })).set
        R.CFG_STATUS.LAST_OUTCOME (2 + cause)).inc R.CFG_COUNT.ROLLBACKS).event 0x0902 (leBytes 1 o ++ leBytes 1 cause)))

/-- R491, R492, R495, R503: a staged item of the owner joins the journal; of another MID, or while the transaction is pending or
doomed, it is TXN_REFUSED; an item that does not fit 65,536 bytes dooms the transaction and is OK. Nothing takes effect. R504: a
staged item outside a transaction waits for the next commit window as a group of its own, within 4,096 bytes, else it is
TXN_REFUSED. -/
def Obligations.StagedWrites : Prop :=
  (∀ (dt o : Nat) (p : Port) (i : StagedItem) (e : JournalEntry) (s : State), s.defined → s.m.portsAnswer = true →
     stagedEntry i = some e → s.m.txn.owner = some o →
     ((o ≠ p.mid ∨ s.m.txn.pending.isSome = true ∨ s.m.txn.doomed = true) →
       exec (.stagedWrite dt p i) s = .next (s.portResult p .txnRefused (s.m.elapse dt))) ∧
     (o = p.mid → s.m.txn.pending = none → s.m.txn.doomed = false → journalSize (s.m.txn.journal ++ [e]) ≤ 65536 →
       exec (.stagedWrite dt p i) s = .next (s.portResult p .ok
         ((s.m.elapse dt).setTxn (fun x => { x with journal := x.journal ++ [e] })))) ∧
     (o = p.mid → s.m.txn.pending = none → s.m.txn.doomed = false → 65536 < journalSize (s.m.txn.journal ++ [e]) →
       exec (.stagedWrite dt p i) s = .next (s.portResult p .ok ((s.m.elapse dt).doom o)))) ∧
  (∀ (dt : Nat) (p : Port) (i : StagedItem) (e : JournalEntry) (s : State), s.defined → s.m.portsAnswer = true →
     stagedEntry i = some e → s.m.txn.owner = none → s.m.geometryHit e = false →
     (journalSize s.m.txn.implicit.flatten + e.size ≤ 4096 → exec (.stagedWrite dt p i) s = .next (s.portResult p .ok
       ((s.m.elapse dt).setTxn (fun x => { x with implicit := x.implicit ++ [[e]] })))) ∧
     (4096 < journalSize s.m.txn.implicit.flatten + e.size →
       exec (.stagedWrite dt p i) s = .next (s.portResult p .txnRefused (s.m.elapse dt))))

/-- R497: an entry of a commit writes the S-class fields of its register, or the staged bits of its bytes, and nothing else.
R490, R513, R515, R519: the steps of the apply routine. O1 begins the transaction as SEQ, or fails with TXN_OPEN (5) while one
is open; O2 of the base goes on with an empty body, and of an absent overlay fails with ABSENT (0); the record read is checked
for its id (1), then its CRC (2); O5 asks for the commit. R515: the reverts of O3 give back exactly what the active overlay
wrote and the new body does not write: each register of its undo list that the body leaves, at its base value. -/
def Obligations.CommitsAndOverlays : Prop :=
  ((∀ (b : Block) (idx : Nat) (v : Word) (f : RegField), f ∈ fieldsOf f.idx →
     (b.applyEntry (.register idx v)).get f =
       if f.idx = idx ∧ f.cls = .S ∧ f.acc = .rw then f.get v else b.get f) ∧
   (∀ (b : Block) (idx : Nat) (v : Word), (b.applyEntry (.register idx v)) = { b with regs := (b.applyEntry (.register idx v)).regs }) ∧
   (∀ (b : Block) (a x : Nat) (bs : List Byte), Mem.wf 0#8 b.mem = true →
     Mem.read 0#8 (b.applyEntry (.table a bs)).mem x =
       if a ≤ x ∧ x < a + bs.length then
         (Mem.read 0#8 b.mem x &&& ~~~ BitVec.ofNat 8 (stagedMask x)) ||| (bs.getD (x - a) 0#8 &&& BitVec.ofNat 8 (stagedMask x))
       else Mem.read 0#8 b.mem x)) ∧
  ((∀ b : Block, b.seq.step = 1 → b.txn.owner = none → b.overlaySlice =
     ((((b.openTxn 2 0).set R.CFG_OVERLAY.STATE 1).setOv (fun x =>
       { x with id := x.want, body := [], flags := 0, got := [] })).toStep 2)) ∧
   (∀ b : Block, b.seq.step = 1 → b.txn.owner.isSome = true → b.overlaySlice = b.overlayFail 5 false) ∧
   (∀ b : Block, b.seq.step = 2 → b.overlay.id = 0x7F → b.overlaySlice =
     ((b.setOv (fun x => { x with body := [], flags := 0 })).toStep 3)) ∧
   (∀ b : Block, b.seq.step = 2 → b.overlay.id ≠ 0x7F → (b.slotOf b.overlay.id).src = 2 → b.overlaySlice = b.overlayFail 0 true) ∧
   (∀ (b : Block) (bs : List Byte), (recId bs ≠ b.overlay.id → b.overlayRecord bs = b.overlayFail 1 true) ∧
     (recId bs = b.overlay.id → recCrcOk bs = false → b.overlayRecord bs = b.overlayFail 2 true) ∧
     (recId bs = b.overlay.id → recCrcOk bs = true → b.overlayRecord bs =
       ((b.setOv (fun x => { x with body := recEntries bs, flags := recFlags bs, got := [] })).toStep 3))) ∧
   (∀ b : Block, b.seq.step = 5 → b.txn.pending = none → b.overlay.tick = none → b.overlaySlice =
     ((b.set R.CFG_OVERLAY.STATE 3).setTxn (fun x => { x with pending := some .next })))) ∧
  ((∀ (b : Block) (i : Nat) (v : Word), JournalEntry.register i v ∈ b.reverts ↔
     i ∈ b.overlay.undoRegs ∧ i ∉ bodyRegs b.overlay.body ∧ v = b.overlay.baseRegs.getD i 0#32) ∧
   (∀ (b : Block) (a : Nat), (∃ c bs, JournalEntry.table c bs ∈ b.reverts ∧ c ≤ a ∧ a < c + bs.length) ↔
     (∃ r ∈ b.overlay.undoBytes, r.1 ≤ a ∧ a < r.1 + r.2) ∧ ¬ ∃ r ∈ bodyRanges b.overlay.body, r.1 ≤ a ∧ a < r.1 + r.2))

/-! ## The memory port and the store (chapters 18 and 19) -/

/-- R600, R590 to R592: with the wire free, the transfer next in the order of precedence starts, and occupies the wire for its
clocks; with nothing to start, or the wire taken, or the port not running, nothing starts. A write's next step goes before host
requests, those before the sequencer's fills, and those before the fills of a bracket load. R597, R602: a write enable precedes
its write, and MP_SDO sends the opcode, the address and the data of a write. -/
def Obligations.TransfersStart : Prop :=
  ((∀ (dt : Nat) (t : Transfer) (b : Block) (s : State), s.defined → b = (s.m.elapse dt).settleWire → b.mp.wire = none →
     b.portRuns = true → b.nextTransfer = some t → (∀ sel, t ≠ .poll sel) →
     exec (.mpTransferStart dt) s = .next (s.result ((b.takeTransfer t).setMp (fun x =>
       { x with wire := some t, wireEnd := b.now + b.transferTime t, sent := b.sentBytes t })))) ∧
   (∀ (dt sel : Nat) (w : Writing) (b : Block) (s : State), s.defined → b = (s.m.elapse dt).settleWire → b.mp.wire = none →
     b.portRuns = true → b.nextTransfer = some (.poll sel) → b.mp.writing = some w →
     exec (.mpTransferStart dt) s = .next (s.result (b.setMp (fun x => { x with
       wire := some (.poll sel), wireEnd := b.now + b.transferTime (.poll sel), sent := [0x05#8], pollOnce := x.pollOnce.erase sel,
       writing := some { w with
         firstPoll := some (w.firstPoll.getD (b.now + b.transferTime (.poll sel))),
         nextPoll := b.now + b.transferTime (.poll sel) + b.pollTime } })))) ∧
   (∀ (dt sel : Nat) (b : Block) (s : State), s.defined → b = (s.m.elapse dt).settleWire → b.mp.wire = none →
     b.portRuns = true → b.nextTransfer = some (.poll sel) → b.mp.writing = none →
     exec (.mpTransferStart dt) s = .next (s.result (b.setMp (fun x => { x with
       wire := some (.poll sel), wireEnd := b.now + b.transferTime (.poll sel), sent := [0x05#8], pollOnce := x.pollOnce.erase sel })))) ∧
   (∀ (dt : Nat) (b : Block) (s : State), s.defined → b = (s.m.elapse dt).settleWire →
     (b.mp.wire.isSome = true ∨ b.portRuns = false ∨ b.nextTransfer = none) →
     exec (.mpTransferStart dt) s = .next (s.result b))) ∧
  ((∀ b : Block,
     (∀ t, b.writeStep = some t → b.nextTransfer = some t) ∧
     (b.writeStep = none → b.hostRequests ≠ [] → ∃ p ∈ b.hostRequests, b.nextTransfer = some p.2 ∧
       ∀ q ∈ b.hostRequests, p.1 ≤ q.1) ∧
     (b.writeStep = none → b.hostRequests = [] → ∀ f l, b.readyFills (· == .sequencer) = f :: l →
       b.nextTransfer = some (.fill f)) ∧
     (b.writeStep = none → b.hostRequests = [] → b.readyFills (· == .sequencer) = [] →
       b.nextTransfer = (b.readyFills (· == .bracket)).head?.map Transfer.fill)) ∧
   (∀ (b : Block) (w : WriteOp), b.softLow = false → b.mp.writing = none → b.mp.queued = some w → b.mp.pollOnce.contains w.sel = false →
     b.writeStep = some (if b.mp.enabled then .write w else .enable w)) ∧
   (∀ (b : Block) (w : WriteOp), b.mp.wire = some (.enable w) → b.mp.wireEnd ≤ b.now →
     b.settleWire.mp.enabled = true ∧ b.settleWire.mp.wire = none) ∧
   (∀ (b : Block) (w : WriteOp), b.mp.wire = some (.write w) → b.mp.wireEnd ≤ b.now →
     b.settleWire.mp.writing = some { op := w, startedAt := b.mp.wireEnd, nextPoll := b.mp.wireEnd + b.pollTime } ∧
     b.settleWire.mp.wire = none) ∧
   (∀ (b : Block) (a : Nat) (bs : List Byte), b.addr4 (selOf a) = false →
     b.sentBytes (.write (.program a bs)) = 0x02#8 :: (leBytes 3 (flashOf a)).reverse ++ bs))

/-- R594, R599, R602, R605: what the end of a transfer does. A fill's line goes to its requester; a poll that shows no write in
progress ends the write, and one that shows it leaves the write; a command's bits enter MP_CMD_DATA and a software transfer's
MP_SW_RX, the other bits staying. R606, R607: a program or erase that shows write in progress past its limit from its first poll
ends: STUCK of its select, its event and MP_ERRADDR, and the write that waits is refused. The oldest fill that has not started
FILL_MS after its request ends with MP_FILL_TIMEOUT. -/
def Obligations.TransfersEnd : Prop :=
  ((∀ (dt line : Nat) (data : List Byte) (f : Fill) (b : Block) (s : State), s.defined → b = (s.m.elapse dt).settleWire →
     b.mp.wire = some (.fill f) → b.mp.wireEnd ≤ b.now → f.who = .portA → f.dead = false → b.portA.ra.want = some line →
     data.length = 256 → exec (.lineFillDone dt data) s = .next (s.result
       (b.wireFree.setRa .a (fun x => { x with line := line, data := data, ready := true, filling := false, want := none })).endRefused)) ∧
   (∀ (dt sel status : Nat) (w : Writing) (b : Block) (s : State), s.defined → b = (s.m.elapse dt).settleWire →
     b.mp.wire = some (.poll sel) → b.mp.wireEnd ≤ b.now → b.mp.writing = some w →
     exec (.statusPoll dt status) s = .next (s.result (if bitOf status 0 then b.wireFree else b.wireFree.writeDone w))) ∧
   (∀ (dt data op sel addr n : Nat) (s : State), s.defined → s.m.mp.wire = some (.command op sel addr) → s.m.mp.wireEnd ≤ s.m.now + dt →
     (op, n) ∈ [(0x05, 8), (0x9F, 24), (0x5A, 32), (0x06, 0)] → exec (.mpTransferEnd dt data) s = .next (s.result
       ((s.m.elapse dt).wireFree.set R.MP_CMD_DATA.DATA
         (s.m.get R.MP_CMD_DATA.DATA - s.m.get R.MP_CMD_DATA.DATA % 2 ^ n + data % 2 ^ n)))) ∧
   (∀ (dt data len tx : Nat) (s : State), s.defined → s.m.mp.wire = some (.software len tx) → s.m.mp.wireEnd ≤ s.m.now + dt →
     exec (.mpTransferEnd dt data) s = .next (s.result
       ((s.m.elapse dt).wireFree.set R.MP_SW_RX.RX (s.m.get R.MP_SW_RX.RX - s.m.get R.MP_SW_RX.RX % 2 ^ len + data % 2 ^ len))))) ∧
  ((∀ (dt addr : Nat) (bs : List Byte) (w : Writing) (b : Block) (s : State), s.defined → b = (s.m.elapse dt).settleWire →
     b.mp.writing = some w → w.op = .program addr bs → b.writeLate w = true →
     exec (.mpProgTimeout dt) s = .next (s.result
       (((((b.setBit R.MP_STATUS.STUCK (selOf addr)).set R.MP_ERRADDR.ADDR (flashOf addr)).event 0x0A11
         (leBytes 1 (selOf addr) ++ leBytes 4 (flashOf addr)))).dropWrites))) ∧
   (∀ (dt sel addr n : Nat) (w : Writing) (b : Block) (s : State), s.defined → b = (s.m.elapse dt).settleWire →
     b.mp.writing = some w → w.op = .erase sel addr n → b.writeLate w = true →
     exec (.mpEraseTimeout dt) s = .next (s.result
       (((((b.setBit R.MP_STATUS.STUCK sel).set R.MP_ERRADDR.ADDR (addr - addr % n)).event 0x0A12
         (leBytes 1 sel ++ leBytes 4 (addr - addr % n)))).dropWrites))) ∧
   (∀ (dt : Nat) (f : Fill) (rest : List Fill) (b : Block) (s : State), s.defined → b = (s.m.elapse dt).settleWire.endRefused →
     b.mp.fills = f :: rest → f.askedAt + b.fillLimit ≤ b.now → exec (.mpFillTimeout dt) s = .next (s.result
       ((((b.set R.MP_ERRADDR.ADDR (flashOf f.addr)).event 0x0A10
         (leBytes 1 (selOf f.addr) ++ leBytes 4 (flashOf f.addr) ++ leBytes 1 f.who.mid))).fillTimedOut f))))

/-- R605, R607: a command of MP_CMD waits for the wire with its select and address; while a command is queued or runs another is
LOCKED; on a stuck select, or without VDDIO_B, it ends with MP_TIMEOUT. R604 to R606: an erase enters the write path with the
block of its address, on select 1 or, with S0_WRITE, on select 0; an erase of select 0 without S0_WRITE is refused with CMD_ERR;
with both places of the write path taken it is WINDOW_FAULT. A software transfer waits with its bits. R601, R602: a select-1
item of a frame of its own forms one page program of its bytes. -/
def Obligations.PortRequestsQueue : Prop :=
  (∀ (dt sel : Nat) (p : Port) (b : Block) (s : State), s.defined → s.m.portsAnswer = true → b = (s.m.elapse dt).settleWire →
     ∀ c ∈ ([(0x05, .mpReadStatus dt p sel), (0x9F, .mpReadId dt p sel), (0x5A, .mpReadSfdp dt p sel),
             (0x06, .mpWriteEnable dt p sel)] : List (Nat × Instr)),
       (b.cmdBusy = true → exec c.2 s = .next (s.portResult p .locked b)) ∧
       (b.cmdBusy = false → b.refuses sel = true → exec c.2 s = .next (s.portResult p .mpTimeout b)) ∧
       (b.cmdBusy = false → b.refuses sel = false → exec c.2 s = .next (s.portResult p .ok (b.setMp (fun x =>
         { x with command := some (c.1, sel, b.get R.MP_CMD_ADDR.ADDR), commandAt := b.now, commandMid := p.mid }))))) ∧
  ((∀ (dt sel : Nat) (p : Port) (b : Block) (s : State), s.defined → s.m.portsAnswer = true → b = (s.m.elapse dt).settleWire →
     b.cmdBusy = false →
     ∀ c ∈ ([(4096, .mpErase4k dt p sel), (65536, .mpErase64k dt p sel)] : List (Nat × Instr)),
       (sel = 0 → b.flag R.MP_CTL.S0_WRITE = false →
         exec c.2 s = .next (s.portResult p .ok (b.setFlag R.MP_STATUS.CMD_ERR true))) ∧
       ((sel ≠ 0 ∨ b.flag R.MP_CTL.S0_WRITE = true) → b.refuses b.writeSel = false → b.writeBusy = false →
         exec c.2 s = .next (s.portResult p .ok (b.setMp (fun x =>
           { x with queued := some (.erase b.writeSel (b.get R.MP_CMD_ADDR.ADDR) c.1) })))) ∧
       ((sel ≠ 0 ∨ b.flag R.MP_CTL.S0_WRITE = true) → b.refuses b.writeSel = false → b.writeBusy = true → b.mp.waiting.isSome = true →
         exec c.2 s = .next (s.portResult p .windowFault (b.setFlag R.MP_STATUS.CMD_ERR true)))) ∧
   (∀ (dt : Nat) (p : Port) (v : Word) (b : Block) (s : State), s.defined → s.m.portsAnswer = true →
     b = (s.m.elapse dt).settleWire → exec (.mpSwTransfer dt p v) s = .next (s.portResult p .ok
       (if b.swBusy then b else b.setMp (fun x =>
         { x with software := some (8 * (b.get R.MP_SW.LEN + 1), v.toNat), softwareAt := b.now }))))) ∧
  (∀ (dt a : Nat) (p : Port) (w : Word) (b : Block) (s : State), s.defined → s.m.portsAnswer = true →
     b = (s.m.elapse dt).settleWire → regionOf a = .flash1 → b.refuses b.writeSel = false → b.writeBusy = false →
     exec (.pageProgramRequest dt p [⟨a, w⟩]) s = .next (s.portResult p .ok
       (b.setMp (fun x => { x with queued := some (.program
         (b.writeSel * 2 ^ 32 + b.sent b.writeSel (a - 0x14000000)) (leBytes 4 w.toNat)) })).endRefused))

/-- R626, R631: of two sequence numbers modulo 2^w, at most one is the newer, and with half the range between them neither is.
-/
def Obligations.NewerIsAntisymmetric : Prop :=
  ∀ w x y : Nat, 1 ≤ w → x < 2 ^ w → y < 2 ^ w →
    ¬ (newer w x y = true ∧ newer w y x = true) ∧
    (x ≠ y → (x + 2 ^ w - y) % 2 ^ w ≠ 2 ^ (w - 1) → newer w x y = true ∨ newer w y x = true) ∧
    (newer w ((y + 1) % 2 ^ w) y = true ↔ 2 ≤ w)

/-- R618, R627, R629, R632, R633, R646: the four operations of the store start when it is not busy, and are NV_BUSY otherwise;
arguments out of order end a read at once with BAD_ARGS (4) and NV_OP_DONE. A Trapeze write programs the copy that is not in
force; a Carousel push the slot after the newest; the reads wait for their end. R617, R619, R624: a store item of one frame
forms one write operation; while the store is busy its items are NV_BUSY; an item in the protected range is WINDOW_FAULT, with
NV_STATUS.PROTECTED and its event. -/
def Obligations.StoreOperations : Prop :=
  ((∀ (dt : Nat) (p : Port) (s : State), s.defined → s.m.portsAnswer = true → s.m.nvBusy = true →
     ∀ c ∈ ([.trapezeWrite dt p, .trapezeRead dt p, .carouselPush dt p, .carouselRead dt p] : List Instr),
       exec c s = .next (s.portResult p .nvBusy (s.m.elapse dt))) ∧
   (∀ (dt : Nat) (p : Port) (op : NvOp) (s : State), s.defined → s.m.portsAnswer = true → s.m.nvBusy = false →
     op = (s.m.elapse dt).nvArgs .trapezeRead → exec (.trapezeRead dt p) s = .next (s.portResult p .ok
       (if pairArgsOk op then (s.m.elapse dt).setNv (fun x => { x with op := some op }) else (s.m.elapse dt).nvOpEnd .trapezeRead 4))) ∧
   (∀ (dt : Nat) (p : Port) (op : NvOp) (s : State), s.defined → s.m.portsAnswer = true → s.m.nvBusy = false →
     op = (s.m.elapse dt).nvArgs .carouselRead → exec (.carouselRead dt p) s = .next (s.portResult p .ok
       (if carouselArgsOk op then (s.m.elapse dt).setNv (fun x => { x with op := some op }) else (s.m.elapse dt).nvOpEnd .carouselRead 4))) ∧
   (∀ (dt c : Nat) (p : Port) (i : CopyInfo) (op : NvOp) (s : State), s.defined → s.m.portsAnswer = true → s.m.nvBusy = false →
     op = (s.m.elapse dt).nvArgs .trapezeWrite → pairArgsOk op = true → 0x4000 ≤ op.addr → op.len % 8 = 0 →
     op.len + 8 ≤ 64 * op.pages → op.src + op.len ≤ 0x80000 → s.m.inForce op.addr op.pages = some (c, i) →
     s.m.pairFound op.addr op.pages = {} → op.addr + 64 * op.pages * (1 - c) + 64 * op.pages ≤ s.m.nvLimit →
     exec (.trapezeWrite dt p) s = .next (s.portResult p .ok
       ((s.m.elapse dt).startWrite { op with copy := 1 - c, seq := (i.seq + 1) % 2 ^ 32, told := false }
         (s.m.nvWrites
           (spanGroups [(op.addr + 64 * op.pages * (1 - c), s.m.bytes (0x00800000 + op.src) op.len)])
           [(op.addr + 64 * op.pages * (1 - c), s.m.bytes (0x00800000 + op.src) op.len)]) true))) ∧
   (∀ (dt i q v : Nat) (p : Port) (op : NvOp) (s : State), s.defined → s.m.portsAnswer = true → s.m.nvBusy = false →
     op = (s.m.elapse dt).nvArgs .carouselPush → carouselArgsOk op = true → 0x4000 ≤ op.addr →
     s.m.newestSlot op.addr op.slots = some (i, q, v) → q + 1 < 0xFFFFFF → s.m.nvFound op.addr (8 * op.slots) = {} →
     op.addr + 8 * ((i + 1) % op.slots) + 8 ≤ s.m.nvLimit → exec (.carouselPush dt p) s = .next (s.portResult p .ok
       ((s.m.elapse dt).startWrite { op with slot := (i + 1) % op.slots, seq := q + 1 }
         [((op.addr + 8 * ((i + 1) % op.slots)) / 8, slotBytes (s.m.get R.NV_DATA.VALUE) (q + 1))] false)))) ∧
  ((∀ (dt : Nat) (p : Port) (items : List WindowItem) (s : State), s.defined → s.m.portsAnswer = true → items ≠ [] →
     (∀ i ∈ items, 0x00A04000 ≤ i.addr ∧ i.addr < 0x00A40000) → s.m.nvBusy = true →
     exec (.nvWindowWrite dt p items) s = .next (s.portResult p .nvBusy (s.m.elapse dt))) ∧
   (∀ (dt a : Nat) (p : Port) (w : Word) (s : State), s.defined → s.m.portsAnswer = true → 0x00A04000 ≤ a → a < 0x00A40000 →
     s.m.nvBusy = false → a - 0x00A00000 < s.m.nvLimit → a % 4 = 0 →
     exec (.nvWindowWrite dt p [⟨a, w⟩]) s = .next (s.portResult p .ok
       ((s.m.elapse dt).startWrite { kind := .window, addr := a - 0x00A00000 }
         (s.m.nvWrites [(a - 0x00A00000) / 8] [(a - 0x00A00000, leBytes 4 w.toNat)]) (s.m.flag R.NV_CTL.MODE)))) ∧
   (∀ (dt a : Nat) (p : Port) (w : Word) (s : State), s.defined → s.m.portsAnswer = true → 0x00A04000 ≤ a → a < 0x00A40000 →
     s.m.nvBusy = false → s.m.nvLimit ≤ a - 0x00A00000 →
     exec (.nvWindowWrite dt p [⟨a, w⟩]) s = .next (s.portResult p .windowFault ((s.m.elapse dt).nvProtected (a - 0x00A00000)))))

/-- R616, R617, R627, R629, R633, R645: when a write operation completes, its groups hold the new bytes, those named with a
single-bit error, which reads correct and count, and its next step follows; a
write not complete 10 ms after its start ends with NV_TIMEOUT (outcome 5), some of its groups written; a read of the pair in
force copies its payload to ring SRAM with its SEQ, copy and length, and of an empty pair ends with EMPTY (1); a Carousel read
gives the newest value, its SEQ and slot. -/
def Obligations.StoreOperationsEnd : Prop :=
  (∀ (dt : Nat) (bad soft : List Nat) (op : NvOp) (s : State), s.defined → s.m.nv.op = some op → op.writing = true →
    (∀ g ∈ bad ++ soft, ¬ ∃ w ∈ op.writes, w.1 = g) → exec (.nvWriteDone dt bad soft) s = .next (s.result
      (((s.m.elapse dt).setNv (fun x => x.program op.writes)).afterWrite op).flushStart)) ∧
  (∀ (dt g : Nat) (bs : List Byte) (op : NvOp) (s : State), s.defined → s.m.nv.op = some op → op.writing = true → op.writes = [(g, bs)] →
    exec (.nvWriteDone dt [] [g]) s = .next (s.result
      (((s.m.elapse dt).setNv (fun x => { x with cells := Mem.writeBytes 0xFF#8 x.cells (8 * g) bs, bad := x.bad.filter (· != g),
                                                  soft := x.soft.filter (· != g) ++ [g] })).afterWrite op).flushStart)) ∧
  (∀ (b : Block) (x : NvFound), x.bad = [] → b.nvTell x = if x.soft = [] then b else
    b.set R.NV_ECC.CORR (min R.NV_ECC.CORR.top (b.get R.NV_ECC.CORR + x.soft.length))) ∧
  (∀ (dt : Nat) (op : NvOp) (w : Nat × List Byte) (rest : List (Nat × List Byte)) (s : State), s.defined → s.m.nv.op = some op →
    op.writing = true → op.writes = w :: rest → op.startedAt + 1000000 ≤ s.m.now + dt → op.kind = .window →
    exec (.nvTimeout dt) s = .next (s.result
      (((s.m.elapse dt).tearWrite.event 0x0A05 (leBytes 1 op.kind.code ++ leBytes 4 (8 * w.1))).set R.NV_OUTCOME.OUTCOME 5).flushStart)) ∧
  (∀ (dt c : Nat) (op : NvOp) (i : CopyInfo) (s : State), s.defined → s.m.nv.op = some op → op.kind = .trapezeRead →
    s.m.inForce op.addr op.pages = some (c, i) → s.m.pairFound op.addr op.pages = {} → op.src + i.len ≤ 0x80000 →
    exec (.nvOpDone dt) s = .next (s.result
      (((((s.m.elapse dt).store (0x00800000 + op.src) (s.m.nvBytes (op.addr + 64 * op.pages * c) i.len)).set
        R.NV_RESULT_SEQ.SEQ i.seq |>.set R.NV_OUTCOME.COPY c).set R.NV_LEN.LEN i.len).nvOpEnd .trapezeRead 0).flushStart)) ∧
  (∀ (dt i q v : Nat) (op : NvOp) (s : State), s.defined → s.m.nv.op = some op → op.kind = .carouselRead →
    s.m.newestSlot op.addr op.slots = some (i, q, v) → s.m.nvFound op.addr (8 * op.slots) = {} →
    exec (.nvOpDone dt) s = .next (s.result
      ((((s.m.elapse dt).set R.NV_DATA.VALUE v).set R.NV_RESULT_SEQ.SEQ q |>.set R.NV_OUTCOME.SLOT i).nvOpEnd .carouselRead 0).flushStart))

/-! ## Armed actions, valves, lamps and the shutter (chapters 09, 11, 12 and 13) -/

/-- R353, R358, R360, R366, R370: the drain takes the entry at the TAIL of a drained ring by its OP, and advances the ring's
read index: ARM arms or rejects it, CANCEL and CONFIRM act on the entries they match, and DRAIN_RESUME takes whichever stands
there. A ring that the drain does not serve, or a full table, leaves all as it is; so does a drain less than 250 ns after the last
one, and, R38, one in a clock in which the entries of zone bindings arm. The rings are served one entry at a visit, in ascending
number from the one after the last visited (log entry 182). An armed host entry is rejected RANGE or LATE, or takes a free place.
-/
def Obligations.DrainTakesEntries : Prop :=
  (∀ (dt k : Nat) (bs : List Byte) (s : State), s.defined → (s.m.elapse dt).drainable k = true → (s.m.elapse dt).ringTailEntry k = bs →
    ((ringOp bs = 0 ∨ ringOp bs = 3) → ∀ c ∈ [Instr.arm dt k, Instr.drainResume dt k], exec c s = .next (s.result
      (((s.m.elapse dt).armHost (ringOp bs) (ringEntry (s.m.ring k).owner bs)).advanceTail k))) ∧
    (ringOp bs = 1 → ∀ c ∈ [Instr.cancel dt k, Instr.drainResume dt k], exec c s = .next (s.result
      (((s.m.elapse dt).applyCancel (s.m.ring k).owner bs).advanceTail k))) ∧
    (ringOp bs = 2 → ∀ c ∈ [Instr.confirm dt k, Instr.drainResume dt k], exec c s = .next (s.result
      (((s.m.elapse dt).applyConfirm (s.m.ring k).owner bs).advanceTail k)))) ∧
  (∀ (dt k : Nat) (s : State), s.defined → (s.m.elapse dt).drainable k = false →
    ∀ c ∈ [Instr.arm dt k, Instr.cancel dt k, Instr.confirm dt k, Instr.drainResume dt k],
      exec c s = .next (s.result (s.m.elapse dt))) ∧
  (∀ (b : Block) (k : Nat), (512 ≤ b.sched.table.length ∨ b.publicationDue = true ∨ b.now < b.sched.bindEnd ∨
      (∃ t, b.sched.drainAt = some t ∧ b.now < t + 25) ∨ b.drainOffers k = false) → b.drainable k = false) ∧
  (∀ (b : Block) (k : Nat), b.drainable k = true → b.drainOffers k = true ∧
    (∀ j, j < 32 → b.drainOffers j = true → (k + 32 - b.sched.visit) % 32 ≤ (j + 32 - b.sched.visit) % 32 ∨ 32 ≤ b.sched.visit) ∧
    (b.advanceTail k).sched.visit = (k + 1) % 32) ∧
  (∀ (b : Block) (op : Nat) (e : ArmedEntry), op ≠ 3 → rangeOk e.type e.channel = true → e.baseWp = false → e.tentative = false →
    e.state = .armed → e.late = false →
    (0 < ptDiff e.tf b.clock.pt → b.armHost op e = b.enterTable (b.resolveRing e)) ∧
    (ptDiff e.tf b.clock.pt ≤ 0 → -ptDiff e.tf b.clock.pt ≤ (usec (b.get R.AS_CTL.LATE_GRACE) : Nat) →
      b.armHost op e = b.enterTable { b.resolveRing e with late := true }) ∧
    ((usec (b.get R.AS_CTL.LATE_GRACE) : Nat) < -ptDiff e.tf b.clock.pt → b.armHost op e = b.reject (b.resolveRing e) 4)) ∧
  (∀ (b : Block) (op : Nat) (e : ArmedEntry), (op = 3 ∨ rangeOk e.type e.channel = false) →
    b.armHost op e = b.reject (b.resolveRing e) 5)

/-- R168, R357, R359, R363: an action's command acts on the entry that is due, first on its channel, and not behind a due entry of
another channel with an earlier fire time: one unconfirmed at its fire
time without UNCONF is cancelled with cause UNCONFIRMED, a committed one leaves the table and its own effect follows; a command
for anything else does nothing. R351, R368, R375, R437: what a committed note and a committed LAMP_SET do: the NOTE record; the
slot on the outbound peer queue with the next sequence byte, or REJECTED with cause FULL; the lamp's request, or LAMP_REFUSED
with cause LOOP, DISABLED or FAULT, tested in that order. -/
def Obligations.ActionsFireOrCancel : Prop :=
  ((∀ (dt i : Nat) (s : State), s.defined →
     ∀ p ∈ [(0, Instr.valvePulse dt i), (1, Instr.valveLevel dt i), (2, Instr.valveRelease dt i), (3, Instr.lampSet dt i),
            (4, Instr.shutter dt i), (5, Instr.hostNote dt i), (6, Instr.peerNote dt i)],
       (∀ e, (s.m.elapse dt).fireable i p.1 = some e → ¬ e.commits → exec p.2 s = .next (s.result ((s.m.elapse dt).cancelEntry e 2))) ∧
       ((s.m.elapse dt).fireable i p.1 = none → exec p.2 s = .next (s.result (s.m.elapse dt)))) ∧
   (∀ (b : Block) (i ty : Nat) (e : ArmedEntry), b.fireable i ty = some e →
     b.entry i = some e ∧ e.type = ty ∧ b.due e = true ∧
     ∀ p ∈ b.sched.table, b.due p.2 = true →
       (p.2.lane = e.lane → p.2.before e = false) ∧ (p.2.lane ≠ e.lane → 0 ≤ ptDiff p.2.tf e.tf))) ∧
  ((∀ (dt i : Nat) (e : ArmedEntry) (s : State), s.defined → (s.m.elapse dt).fireable i 5 = some e → e.commits →
     exec (.hostNote dt i) s = .next (s.result (((s.m.elapse dt).fired e).recordNote e))) ∧
   (∀ (dt i : Nat) (e : ArmedEntry) (s : State), s.defined → (s.m.elapse dt).fireable i 6 = some e → e.commits →
     exec (.peerNote dt i) s = .next (s.result
       (if s.m.clock.sync.queue.length < 4 then
         (((s.m.elapse dt).fired e).queuePeer (peerSlot e s.m.clock.sync.peerSeq)).setSync (fun x =>
           { x with peerSeq := (s.m.clock.sync.peerSeq + 1) % 256 })
        else ((s.m.elapse dt).freeEntry i).reject e 7))) ∧
   (∀ (dt i : Nat) (e : ArmedEntry) (x : Block) (s : State), s.defined → (s.m.elapse dt).fireable i 3 = some e → e.commits →
     x = (s.m.elapse dt).fired e → exec (.lampSet dt i) s = .next (s.result
       (if x.loopRuns e.channel then (x.recordEntry 0x0609 e 24).setLamp e.channel (fun c => { c with refused := min 65535 (c.refused + 1) })
        else if x.lampOn e.channel = false then
         (x.recordEntry 0x0609 e 25).setLamp e.channel (fun c => { c with refused := min 65535 (c.refused + 1) })
        else if x.lampLatched e.channel then
         (x.recordEntry 0x0609 e 26).setLamp e.channel (fun c => { c with refused := min 65535 (c.refused + 1) })
        else x.setLamp e.channel (fun c => { c with
         req := e.width % 4096, fresh := true, replaced := if c.fresh then min 65535 (c.replaced + 1) else c.replaced })))))

/-- R385, R397, R398, R402 to R404, R418: a committed VALVE_PULSE on a running drive is refused for the first cause of R418 that
holds (in the model's order, log entry 13), or acts by its channel's phase: OFF with a free bank takes the bank and starts with
the low-side check, OFF with an occupied bank and RELEASE wait, BOOST and HOLD start again at once, and a LEAD-IN commits: its
own without reading the profile again, another entry's as spent. R396, R405: a committed VALVE_LEVEL sets the setpoint scale of
a running hold, or requests its bank; a committed VALVE_RELEASE sends a running channel to RELEASE and does nothing elsewhere;
on a drive that does not run an entry fires and nothing follows. R361, R401: a lead-in takes its bank or waits for it, and is
skipped on a channel that would refuse its pulse (log entry 16). -/
def Obligations.ValveActions : Prop :=
  (∀ (dt i : Nat) (e : ArmedEntry) (x : Block) (s : State), s.defined → (s.m.elapse dt).fireable i 0 = some e → e.commits →
     ((s.m.elapse dt).fired e).valves.running = true → x = ((s.m.elapse dt).fired e).dropWaitingLeadin e →
     (∀ c, x.refusal e = some c → exec (.valvePulse dt i) s = .next (s.result (x.refuseValve e c))) ∧
     (x.refusal e = none →
       ((x.valve e.channel).phase = .off → (x.bank (bankOf e.channel)).owner = none → (x.bank (bankOf e.channel)).waiting = [] →
         exec (.valvePulse dt i) s = .next (s.result ((x.takeBank e.channel).startCommand e.channel e))) ∧
       ((x.valve e.channel).phase = .off →
         ((x.bank (bankOf e.channel)).owner ≠ none ∨ (x.bank (bankOf e.channel)).waiting ≠ []) →
         exec (.valvePulse dt i) s = .next (s.result (x.waitBank e false))) ∧
       (((x.valve e.channel).phase = .release ∨ (x.valve e.channel).phase = .slowDecay) →
         exec (.valvePulse dt i) s = .next (s.result (x.waitBank e false))) ∧
       (((x.valve e.channel).phase = .boost ∨ (x.valve e.channel).phase = .hold) →
         exec (.valvePulse dt i) s = .next (s.result (x.restartCommand e.channel e true))) ∧
       ((x.valve e.channel).phase = .leadin → (x.valve e.channel).owner = e.seq →
         exec (.valvePulse dt i) s = .next (s.result (x.restartCommand e.channel e false))) ∧
       ((x.valve e.channel).phase = .leadin → (x.valve e.channel).owner ≠ e.seq →
         exec (.valvePulse dt i) s = .next (s.result
           ((x.spendLeadin (x.valve e.channel).owner).restartCommand e.channel e true))))) ∧
  ((∀ (dt i : Nat) (e : ArmedEntry) (x : Block) (s : State), s.defined → (s.m.elapse dt).fireable i 1 = some e → e.commits →
     x = (s.m.elapse dt).fired e → x.valves.running = true →
     (∀ c, x.refusal e = some c → exec (.valveLevel dt i) s = .next (s.result (x.refuseValve e c))) ∧
     (x.refusal e = none →
       (((x.valve e.channel).phase = .boost ∨ (x.valve e.channel).phase = .hold) → exec (.valveLevel dt i) s = .next (s.result
         (x.setLogical e.channel (fun c => { c with scale := e.width % 4096 })))) ∧
       ((x.valve e.channel).phase = .off → exec (.valveLevel dt i) s = .next (s.result (x.request e false))) ∧
       (((x.valve e.channel).phase = .leadin ∨ (x.valve e.channel).phase = .release ∨ (x.valve e.channel).phase = .slowDecay) →
         exec (.valveLevel dt i) s = .next (s.result (x.waitBank e false))))) ∧
   (∀ (dt i : Nat) (e : ArmedEntry) (x : Block) (s : State), s.defined → x = (s.m.elapse dt).fired e → x.valves.running = false →
     e.commits → ∀ p ∈ [(0, Instr.valvePulse dt i), (1, Instr.valveLevel dt i), (2, Instr.valveRelease dt i)],
       (s.m.elapse dt).fireable i p.1 = some e → exec p.2 s = .next (s.result x)) ∧
   (∀ (dt i : Nat) (e : ArmedEntry) (x : Block) (s : State), s.defined → (s.m.elapse dt).fireable i 2 = some e → e.commits →
     x = (s.m.elapse dt).fired e → x.valves.running = true →
     (∀ c, x.refusal e = some c → exec (.valveRelease dt i) s = .next (s.result (x.refuseValve e c))) ∧
     (x.refusal e = none →
       (((x.valve e.channel).phase = .boost ∨ (x.valve e.channel).phase = .hold) →
         exec (.valveRelease dt i) s = .next (s.result (x.startRelease e.channel))) ∧
       ((x.valve e.channel).phase ≠ .boost → (x.valve e.channel).phase ≠ .hold →
         exec (.valveRelease dt i) s = .next (s.result x)))) ∧
   (∀ (dt i : Nat) (e : ArmedEntry) (s : State), s.defined → (s.m.elapse dt).leadinDue i = some e →
     exec (.leadinStart dt i) s = .next (s.result
       (if s.m.valves.running = false ∨ ((s.m.elapse dt).refusal e).isSome then (s.m.elapse dt).skipLeadin e
        else if (s.m.valve e.channel).phase = .off ∧ (s.m.bank (bankOf e.channel)).owner = none ∧ (s.m.bank (bankOf e.channel)).waiting = []
         then ((s.m.elapse dt).takeBank e.channel).startLeadin e.channel e
        else (s.m.elapse dt).waitBank e true))))

/-- R385, R386, R389, R390, R398, R413, R417: the phases of a running channel end as the table of R385 says: the low-side check of
each channel after 2 µs, the switches turning on with the last of a pair's, BOOST on BOOST_I or BOOST_T, the command at its length
and at MAX_ON, RELEASE on REL_I or REL_T_MAX, when the oldest request takes the bank; a request that has waited its time is
refused BANK_BUSY; a chop period acts on HOLD and LEAD-IN alone, and with the peak current it is in ON until the setpoint is
reached, never before the blanking ends, and in FREEWHEEL from then on. -/
def Obligations.ValvePhasesEnd : Prop :=
  (∀ (dt n i : Nat) (r : Option Nat) (x : Block) (s : State), s.defined → (s.m.valve n).checking = true →
    (s.m.valve n).code i ≤ s.m.ownCode n (s.m.valve n).shortI → (s.m.valve n).checkAt + 200 ≤ s.m.now + dt →
    x = (s.m.elapse dt).setValve n (fun c => { c with checking := false, iMeas := i }) →
    exec (.lowsideCheckEnd dt n i r) s = .next (s.result
      (if ∃ k ∈ x.members (s.m.logical n), (x.valve k).checking = true then x
       else x.switchOn (s.m.logical n) (x.sensed (s.m.logical n)) r))) ∧
  (∀ (dt n i : Nat) (r : Option Nat) (s : State), s.defined → (s.m.valve n).checking = true →
    s.m.ownCode n (s.m.valve n).shortI < (s.m.valve n).code i →
    exec (.lowsideCheckEnd dt n i r) s = .next (s.result ((s.m.elapse dt).latchAll (s.m.latchGroup n) 1 (fun _ => i)))) ∧
  (∀ (dt n i m : Nat) (r : Option Nat) (s : State), s.defined → m = s.m.logical n → (s.m.valve m).phase = .boost →
    (s.m.valve m).checking = false →
    ((s.m.valve m).code (s.m.valve m).profile.boostI ≤ (s.m.valve m).code i ∨
      (s.m.valve m).boostAt + 100 * (s.m.valve m).profile.boostT ≤ s.m.now + dt) →
    exec (.boostEnd dt n i r) s = .next (s.result ((((s.m.elapse dt).setLogical m (fun c =>
      { c with phase := .hold, next := .hold, holdAt := s.m.now + dt, debt := 0, fullOn := 0 })).measured m i).chopLogical m i r))) ∧
  (∀ (dt n t : Nat) (s : State), s.defined → ((s.m.valve n).phase = .boost ∨ (s.m.valve n).phase = .hold) →
    (s.m.valve n).cmdEnd = some t → t ≤ s.m.now + dt →
    exec (.commandEnd dt n) s = .next (s.result ((s.m.elapse dt).startRelease (s.m.logical n)))) ∧
  (∀ (dt n i : Nat) (c : ValveChannel) (s : State), s.defined → c = s.m.valve (s.m.logical n) →
    ((c.phase = .release ∧ c.releaseAt + 100 * c.profile.relTMax ≤ s.m.now + dt) ∨
     (c.phase = .slowDecay ∧ c.releaseAt + 100 * (20 * c.profile.relTMax) ≤ s.m.now + dt) ∨
     ((c.phase = .release ∨ c.phase = .slowDecay) ∧ c.code i < c.code c.profile.relI)) →
    exec (.releaseEnd dt n i) s = .next (s.result (((s.m.elapse dt).freeBank (s.m.logical n)).grant (bankOf n)))) ∧
  (∀ (dt x : Nat) (late : BankRequest → Bool) (s : State), s.defined →
    late = (fun r => decide (r.due + s.m.bankWait x ≤ s.m.now + dt)) → exec (.bankWaitTimeout dt x) s = .next (s.result
      ((((s.m.bank x).waiting.filter late).foldl
        (fun b r => if r.leadin then (b.skipLeadin r.entry).refuseValve r.entry 17 else b.refuseValve r.entry 16)
        ((s.m.elapse dt).setBank x (fun k => { k with waiting := k.waiting.filter (fun r => !late r) }))).grant x))) ∧
  (∀ (dt n : Nat) (s : State), s.defined → ((s.m.valve n).phase = .boost ∨ (s.m.valve n).phase = .hold) →
    bitOf (s.m.prot n) 1 = true → (s.m.valve n).boostAt + 100000 * s.m.maxOn n ≤ s.m.now + dt →
    exec (.ontimeTrip dt n) s = .next (s.result
      ((((s.m.elapse dt).startRelease (s.m.logical n)).setBit R.VD_TRIP.ONTIME_SEEN n).eventFrom 0x0504 (0x30 + n) (0x30 + n)
        (leBytes 1 n ++ leBytes 2 ((s.m.now + dt - (s.m.valve n).boostAt) / 100000))))) ∧
  (∀ (dt n i m : Nat) (r : Option Nat) (s : State), s.defined → m = s.m.logical n →
    ((s.m.valve m).phase = .hold ∨ (s.m.valve m).phase = .leadin) → (∀ k ∈ s.m.members m, (s.m.valve k).checking = false) →
    exec (.chopPeriod dt n i r) s = .next (s.result (((s.m.elapse dt).measured m i).chopLogical m i r))) ∧
  (∀ (dt n i : Nat) (r : Option Nat) (s : State), s.defined →
    ((s.m.valve (s.m.logical n)).phase ∉ [ValvePhase.hold, ValvePhase.leadin] → exec (.chopPeriod dt n i r) s =
      .next (s.result (s.m.elapse dt))) ∧
    ((s.m.valve (s.m.logical n)).phase ≠ .boost → exec (.boostEnd dt n i r) s = .next (s.result (s.m.elapse dt)))) ∧
  (∀ (c : ValveChannel) (now i t : Nat) (r : Option Nat), (c.phase = .leadin ∨ (c.phase = .hold ∧ c.profile.openMode = false)) →
    ¬ (c.phase = .hold ∧ c.level = true ∧ c.scale = 0) →
    ((c.setpointCode now < c.code i → (c.chop now i r).drive = .freewheel ∧ (c.chop now i r).chopOn = 0) ∧
     (c.code i ≤ c.setpointCode now → c.fullOn < 32 → 10 ≤ c.profile.chopF → c.profile.chopF ≤ 50 →
       (c.chop now i r).chopAt = now ∧ (c.chop now i r).drive = .on ∧
       (r = some t → (t : Rat) ≤ c.chopPeriod → (c.chop now i r).chopOn = (max 50 t : Nat)) ∧
       (r = none → (c.chop now i r).chopOn = c.chopPeriod ∧ (c.chop now i r).fullOn = c.fullOn + 1)))) ∧
  (∀ (c : ValveChannel) (now t : Nat), c.drive = .on → c.chopAt = now → c.chopOn = (t : Rat) → ∀ u, now ≤ u →
    c.driveNow u = (if u < now + t then .on else .freewheel))

/-- R407, R409, R411, R412, R415, R416, R418 to R420, R422: what latches channels and what moves the boost converter. A fault of a
channel latches it and its pair partner, BOOTSTRAP_UV its bank, BOOST_UV all four, and a latched channel, bank or pair partner
refuses an action with FAULT; each trip of the coil model sends a running channel to RELEASE and each resume ends the trip; the
undervoltage check arms; BOOST_OV stops the converter until VBOOST is below SETPOINT, and every RELEASE falls back. Every
measurement of VBOOST acts as `Block.boostSense` says: the converter starts to switch at SETPOINT − HYST, or below the target in a
lead-in, and stops at the target, which ramps from VBAT in the first 10 ms. -/
def Obligations.ValveFaultsLatch : Prop :=
  (∀ (dt n i : Nat) (s : State), s.defined → (s.m.valve n).phase ≠ .off → (s.m.valve n).checking = false →
    s.m.ownCode n (s.m.valve n).profile.ocI < (s.m.valve n).code i →
    exec (.valveOvercurrent dt n i) s = .next (s.result ((s.m.elapse dt).latchAll (s.m.latchGroup n) 0 (fun _ => i)))) ∧
  (∀ (dt n i : Nat) (s : State), s.defined → ((s.m.valve n).phase = .boost ∨ (s.m.valve n).phase = .hold) →
    (s.m.valve n).profile.openWin ≠ 0 → (s.m.valve n).boostAt + 100 * (s.m.valve n).profile.openWin ≤ s.m.now + dt →
    (s.m.valve n).code i < s.m.ownCode n (s.m.valve n).profile.openI →
    exec (.openCoil dt n i) s = .next (s.result ((s.m.elapse dt).latchAll (s.m.latchGroup n) 2 (fun _ => i)))) ∧
  (∀ (dt x n : Nat) (l : List Nat) (d : DriveState) (s : State), s.defined → (s.m.bank x).owner = some n →
    d = (s.m.valve n).driveNow (s.m.now + dt) →
    ((d = .boost ∨ d = .on) → exec (.bootstrapUv dt x l) s = .next (s.result
      (((s.m.elapse dt).setBit R.VD_FAULT.BOOTSTRAP_UV x).latchAll [4 * x, 4 * x + 1, 4 * x + 2, 4 * x + 3] 3
        (fun k => if (s.m.valve k).drive = .off then 0 else l.getD (k - 4 * x) 0)))) ∧
    (d ≠ .boost → d ≠ .on → exec (.bootstrapUv dt x l) s = .next (s.result (s.m.elapse dt)))) ∧
  (∀ (dt v : Nat) (l : List Nat) (x : Block) (s : State), s.defined → x = (s.m.elapse dt).boostSense v →
    exec (.boostUv dt v l) s = .next (s.result
      (if x.valves.boost.uvArmed = true ∧ 100 * v < 85 * s.m.setpoint then
        (x.setFlag R.VD_FAULT.BOOST_UV true).latchAll (List.range 16) 4 (fun k => if (x.valve k).drive = .off then 0 else l.getD k 0)
       else x)) ∧
    exec (.boostUvArm dt v) s = .next (s.result
      (if x.valves.boost.running = true ∧
          (s.m.setpoint ≤ v + 5 * s.m.get R.VD_BST_CTL.HYST ∨ x.valves.boost.startedAt + 5000000 ≤ s.m.now + dt) then
        x.setBoost (fun k => { k with uvArmed := true }) else x)) ∧
    exec (.boostOv dt v) s = .next (s.result x) ∧ exec (.boostRestored dt v) s = .next (s.result x)) ∧
  (∀ (b x : Block) (v : Nat), x = b.setBoost (fun k => { k with vboost := v }) →
    (b.valves.boost.running = true → 11 * b.setpoint < 10 * v → b.boostSense v =
      (([0, 1, 2, 3] : List Nat).foldl Block.fallback
        ((x.setBoost (fun k => { k with running := false, ovStop := true, pumping := false })).event 0x0508 (leBytes 2 v))).regulate) ∧
    (b.valves.boost.ovStop = true → v < b.setpoint → b.boostSense v =
      ((x.setBoost (fun k => { k with ovStop := false, running := true })).event 0x0509 (leBytes 2 v)).regulate) ∧
    (10 * v ≤ 11 * b.setpoint → b.valves.boost.ovStop = false → b.boostSense v = x.regulate)) ∧
  (∀ (b : Block) (x : Boost), x = b.valves.boost →
    (b.regulate.valves.boost.pumping = true ↔ x.running = true ∧ (x.vboost : Rat) < b.boostTarget ∧
      (x.pumping = true ∨ (x.vboost : Rat) ≤ b.boostTarget - (5 * b.get R.VD_BST_CTL.HYST : Nat) ∨
        ∃ c ∈ b.valves.chans.toList, c.phase = .leadin)) ∧
    (b.regulate = b.setBoost (fun k => { k with pumping := b.regulate.valves.boost.pumping })) ∧
    (x.running = true → x.startedAt ≤ b.now → b.now < x.startedAt + 1000000 → b.boostTarget =
      x.vstart + ((b.setpoint : Rat) - x.vstart) * (b.now - x.startedAt : Nat) / 1000000) ∧
    (x.startedAt + 1000000 ≤ b.now → b.boostTarget = (b.setpoint : Rat))) ∧
  (∀ (b : Block) (e : ArmedEntry), b.bitAt R.VD_CTL.BANK_EN (bankOf e.channel) = true →
    (b.latched e.channel = true ∨ b.bitAt R.VD_FAULT.BOOTSTRAP_UV (bankOf e.channel) = true ∨ b.flag R.VD_FAULT.BOOST_UV = true ∨
      (b.pairedNow e.channel = true ∧ b.latched (e.channel + 1) = true)) → b.refusal e = some 21) ∧
  (∀ (dt : Nat) (l : List Rat) (s : State), s.defined → exec (.coilModelUpdate dt l) s = .next (s.result
    ((List.range 16).foldl (fun b n => b.coilChannel (n, l.getD n 0)) (s.m.elapse dt)))) ∧
  (∀ (b : Block) (n : Nat) (sq t : Rat), n < 16 → t = b.coilStep n sq →
    ((b.valve n).tripped = false → bitOf (b.prot n) 0 = true → (b.coilMax n : Rat) ≤ t →
      ((b.coilChannel (n, sq)).valve n).tripped = true ∧ ((b.coilChannel (n, sq)).valve n).temp = t ∧
      (b.logical n = n → ((b.coilChannel (n, sq)).valve n).phase ∉ [ValvePhase.leadin, ValvePhase.boost, ValvePhase.hold])) ∧
    ((b.valve n).tripped = true → t ≤ (b.coilMax n : Rat) - (b.coilHyst n : Rat) →
      ((b.coilChannel (n, sq)).valve n).tripped = false ∧ ((b.coilChannel (n, sq)).valve n).temp = t) ∧
    (((b.valve n).tripped = false → bitOf (b.prot n) 0 = false ∨ t < (b.coilMax n : Rat)) →
      ((b.valve n).tripped = true → (b.coilMax n : Rat) - (b.coilHyst n : Rat) < t) →
      b.coilChannel (n, sq) = b.setValve n (fun c => { c with temp := t, iMeas := if sq = 0 then 0 else c.iMeas })))

/-- What the units' events leave alone, every form of them: an event of a lamp channel changes the lamps, LD registers and what
a report changes (records in rings, doorbells, pending bits with IC_STAT, the fault log); an event of the valve drive changes
the valves, the armed table, AS and VD registers and what a report changes; all other state is as time alone leaves it, the
stacks of the interrupt targets included. -/
def Obligations.UnitEventsStayInTheirUnit : Prop :=
  (∀ (dt k i v : Nat) (inp : LampSample) (s t : State),
    ∀ c ∈ [Instr.lampPeriodStart dt k inp, Instr.inrushEnd dt k, Instr.inrushCurrentLimit dt k i, Instr.lampShort dt k i,
           Instr.lampSoftShort dt k, Instr.lampGroupOc dt i, Instr.inrushPause dt v, Instr.inrushResume dt v],
      exec c s = .next t → t.pending = s.pending ∧ t.nests = s.nests.after s.m.power.mode ∧
        t.m = { s.m.elapse dt with
          lamps := t.m.lamps, regs := t.m.regs, mem := t.m.mem, rings := t.m.rings, dbA := t.m.dbA, dbB := t.m.dbB, dbSeq := t.m.dbSeq,
          irq := t.m.irq, nv := { s.m.nv with log := t.m.nv.log, nextSeq := t.m.nv.nextSeq } } ∧
        ∀ j, (j < 0x80 ∨ 0x8F < j) → j ≠ 0xCB → t.m.word j = s.m.word j) ∧
  (∀ (dt n i x v : Nat) (r : Option Nat) (l : List Rat) (is : List Nat) (s t : State),
    ∀ c ∈ [Instr.lowsideCheckEnd dt n i r, Instr.boostEnd dt n i r, Instr.commandEnd dt n, Instr.releaseEnd dt n i,
           Instr.bankWaitTimeout dt x, Instr.chopPeriod dt n i r, Instr.coilModelUpdate dt l, Instr.ontimeTrip dt n,
           Instr.valveOvercurrent dt n i, Instr.openCoil dt n i, Instr.bootstrapUv dt x is, Instr.boostUv dt v is, Instr.boostUvArm dt v,
           Instr.boostOv dt v, Instr.boostRestored dt v],
      exec c s = .next t → t.pending = s.pending ∧ t.nests = s.nests.after s.m.power.mode ∧
        t.m = { s.m.elapse dt with
          valves := t.m.valves, sched := t.m.sched, regs := t.m.regs, mem := t.m.mem, rings := t.m.rings, dbA := t.m.dbA,
          dbB := t.m.dbB, dbSeq := t.m.dbSeq, irq := t.m.irq,
          nv := { s.m.nv with log := t.m.nv.log, nextSeq := t.m.nv.nextSeq } } ∧
        ∀ j, (j < 0x60 ∨ 0x7F < j) → j ≠ 0xCB → t.m.word j = s.m.word j)

/-- R382, R383, R386, R407, R424, R56 to R58, R61, R64, R66, R67, R69, R6: the lands follow the state. With the valve drive running
GLn is on in every drive state but RECOVERY and OFF, one channel drives at most one of GB, GH and GF, each after the dead time of
R383, and the low-side check GLn alone; outside RUN, without VDRV or in undefined behaviour every gate is off, and both shutter
lands are low outside RUN and outside a pulse, never both high. A land whose rail is absent is off passively, and the bridge lands
low by their resistors; SDO is driven only in a frame that is answered; the lanes rest at LP-11; no boundary cell drives a gate,
the bridge or a lane; FAULT_N and the interrupt lands are driven low in RUN, IDLE and NAP alone. -/
def Obligations.LandsFollowState : Prop :=
  ((∀ (b : Block) (n : Nat), b.valveGatesLive = true → (b.glOn n = true ↔
    ((b.valve n).drive ≠ .off ∧ (b.valve n).drive ≠ .recovery) ∨ (b.valve n).checking = true)) ∧
  (∀ d : DriveState, (d.gates.gb && d.gates.gh) = false ∧ (d.gates.gb && d.gates.gf) = false ∧ (d.gates.gh && d.gates.gf) = false ∧
    (d.gates.gb = true ↔ d = .boost) ∧ (d.gates.gh = true ↔ d = .on) ∧ (d.gates.gf = true ↔ d = .freewheel ∨ d = .slowDecay)) ∧
  (∀ (c : ValveChannel) (now : Nat), ((c.gates now).gb && (c.gates now).gh) = false ∧ ((c.gates now).gb && (c.gates now).gf) = false ∧
    ((c.gates now).gh && (c.gates now).gf) = false ∧ ((c.gates now).gb = true → c.drive = .boost) ∧
    ((c.gates now).gh = true → c.driveNow now = .on) ∧
    ((c.gates now).gf = true → c.driveNow now = .freewheel ∨ c.driveNow now = .slowDecay)) ∧
  (∀ (c : ValveChannel) (t now dead : Nat) (d : DriveState), c.driveAt ≠ t → d ≠ .on → t ≤ now →
    dead = deadTime c.profile.deadNs (c.driveNow t) d → ((c.enter t d).gates now).gl = d.gates.gl ∧
    (10 * (now - t) < dead → ((c.enter t d).gates now).gb = false ∧ ((c.enter t d).gates now).gf = false) ∧
    (dead ≤ 10 * (now - t) → (c.enter t d).gates now = d.gates)) ∧
  (∀ d : Nat, deadTime d .on .freewheel = d ∧ deadTime d .freewheel .on = d ∧ deadTime d .boost .on = max 100 d ∧
    deadTime d .on .boost = max 100 d ∧ deadTime d .boost .freewheel = max 100 d ∧ deadTime d .lowSide .boost = 0) ∧
  (∀ (b : Block) (x : Nat), b.valveGatesLive = true →
    (b.gbOn x = true ↔ ∃ i < 4, ((b.valve (4 * x + i)).gates b.now).gb = true) ∧
    (b.ghOn x = true ↔ ∃ i < 4, ((b.valve (4 * x + i)).gates b.now).gh = true) ∧
    (b.gfOn x = true ↔ ∃ i < 4, ((b.valve (4 * x + i)).gates b.now).gf = true)) ∧
  (∀ b : Block, (b.undef.isSome = true ∨ b.power.mode ≠ .run ∨ b.power.valid.contains .vdrv = false) → b.bstSwitches = false ∧
    ∀ n : Nat, b.glOn n = false ∧ b.gbOn n = false ∧ b.ghOn n = false ∧ b.gfOn n = false ∧ b.lgOn n = false) ∧
  (∀ b : Block, (b.valves.running = false → ∀ n : Nat, b.glOn n = false ∧ b.gbOn n = false ∧ b.ghOn n = false ∧ b.gfOn n = false) ∧
    (b.lamps.running = false → ∀ n : Nat, b.lgOn n = false) ∧ (b.valves.boost.running = false → b.bstSwitches = false)) ∧
  (∀ b : Block, (b.undef.isSome = true ∨ b.power.mode ≠ .run ∨ b.power.valid.contains .vsht = false ∨ b.shut.pulse = none) →
    b.shutterLands = (false, false)) ∧
  (∀ (b : Block) (p : ShutterPulse), b.undef = none → b.power.mode = .run → b.power.valid.contains .vsht = true →
    b.shut.pulse = some p → b.shutterLands =
      (if b.flag R.CP_SHT_CTL.DIR_INV then (p.dir == .open, p.dir == .close) else (p.dir == .close, p.dir == .open)))) ∧
  ((∀ b : Block, b.faultLow = true ↔ (b.column = .run ∨ b.column = .nap) ∧ b.present .vddioA = true ∧ b.faultInForce = true) ∧
  (∀ b : Block, b.duskHighNow = true ↔ (b.power.mode = .run ∨ b.power.mode = .idle) ∧ b.power.duskHigh = true) ∧
  (∀ b : Block, (b.column = .run → b.power.mode = .idle ∨ (b.power.mode = .run ∧ b.phase ≠ 0)) ∧
    (b.column = .nap → b.power.mode = .nap ∧ ∀ r ∈ allRails, b.present r = true) ∧
    (b.column = .deep → b.power.mode = .deep ∧ ∀ r ∈ allRails, b.present r = true)) ∧
  (∀ (b : Block) (s : Signal), landClass s ∈ [LandClass.d1, .d2, .b1, .p1, .a1, .a2] → b.boundaryDrive s = none) ∧
  (∀ (b : Block) (n : Nests) (s : Signal), b.boundaryDrive s = none → b.absent s = true → b.land n s =
    { drive := if landClass s = .d1 ∨ landClass s = .d2 then .offPassive else if landClass s = .b1 then .lowBy10k else .z }) ∧
  (∀ (b : Block) (n : Nests) (p : Port), b.boundaryDrive (.hpSdo p) = none →
    ((b.land n (.hpSdo p)).drive = .driven ↔ b.present .vddioA = true ∧ b.portsAnswer = true ∧
      ∃ f, (b.port p).cs = some f ∧ f.answered = true) ∧
    ((b.land n (.hpSdo p)).drive ≠ .driven → (b.land n (.hpSdo p)).drive = .z)) ∧
  (∀ (b : Block) (n : Nests) (i : Nat) (x : Bool), b.present .vddphy = true → (b.land n (.csiD i x)).drive = .lp11) ∧
  (∀ (b : Block) (n : Nests) (i : Nat), b.present .vdrv = true → b.valveGatesLive = false →
    (b.land n (.gl i)).drive = .offActive ∧ (b.land n (.gb i)).drive = .offActive ∧ (b.land n (.gh i)).drive = .offActive ∧
    (b.land n (.gf i)).drive = .offActive) ∧
  (∀ (b : Block) (n : Nests) (p : Port), b.present .vddioA = true → (b.land n (.hpCs p)).use =
    (if b.column = .run then .input else if b.column = .nap ∨ b.column = .deep then .watched else .none)))

/-- R430, R431, R433, R435, R438, R440 to R444, R450: the lamp periods and the inrush. The duty of a period is floor(min(r, C) × F /
65,536) before the minimum-pulse policy; a period starts at the channel's phase point once the one before has run its time;
inrush ends at the period start where E has reached RAMP_MS; in inrush a current above ILIM_INRUSH ends the on-time of the period,
and one that reaches ISHORT latches SHORT before the limit acts; a sag pauses every channel in inrush, and one full period without
it resumes every paused one. R452, R454: each lamp fault turns the gate off, sets the channel's bit in LD_FAULT and its cause, and
clears its request; SHORT while the gate is on, OPEN at OPEN_N consecutive low periods, SOFT_SHORT at 16 ticks of low RES, and
GROUP_OC for every enabled channel. -/
def Obligations.LampChannels : Prop :=
  ((∀ (dt k : Nat) (inp : LampSample) (x : Block) (s : State), s.defined → (s.m.elapse dt).periodDue k = true → s.m.lampOn k = true →
     s.m.lampLatched k = false → (s.m.lampParam k 20 1 = 0 ∨ (x.lamp k).openCount < s.m.lampParam k 20 1) →
     x = ((s.m.elapse dt).lampSupply inp.vlmp).setLamp k (fun c => c.sampled inp.vlmp inp.current
       (decide (s.m.lampCode k inp.current < s.m.lampCode k (s.m.lampParam k 18 2)))) →
     exec (.lampPeriodStart dt k inp) s = .next (s.result (x.lampPeriod k))) ∧
   (∀ (dt k : Nat) (inp : LampSample) (s : State), s.defined → ((s.m.elapse dt).periodDue k = false ∨ s.m.lampOn k = false ∨
     s.m.lampLatched k = true) → exec (.lampPeriodStart dt k inp) s = .next (s.result (s.m.elapse dt))) ∧
   (∀ (b : Block) (k : Nat), b.periodDue k = true → b.lamps.running = true ∧
     ∀ t, (b.lamp k).periodAt = some t → b.pwmPeriod ≤ 2 * (b.now - t) + 1) ∧
   (∀ (b : Block) (k : Nat) (c : LampChannel),
     (b.lampDuty k c).applied = min c.req c.ceil * b.get R.LD_FACTOR.F / 65536 ∧ (b.lampDuty k c).fresh = false ∧
     (b.lampDuty k c).periodAt = some b.now ∧ (b.lampDuty k c).req = c.req ∧ (b.lampDuty k c).state = c.state) ∧
   (∀ (c : LampChannel) (now ms : Nat), c.req ≠ 0 → c.state ≠ .fault → (c.cold now ms = true ↔ c.state = .off ∨
     (ms ≠ 0 ∧ ∃ t, c.zeroSince = some t ∧ t + 100000 * ms ≤ now))) ∧
   (∀ (dt k : Nat) (s : State), s.defined → (s.m.lamp k).state = .inrush → (s.m.elapse dt).periodDue k = true →
     s.m.rampTime k ≤ (s.m.lamp k).inrushTime + (s.m.now + dt - (s.m.lamp k).inrushMark) →
     exec (.inrushEnd dt k) s = .next (s.result ((s.m.elapse dt).setLamp k (fun c => { c with state := .on, ceil := 4095, steady := 0 })))) ∧
   (∀ (dt k : Nat) (s : State), s.defined → ((s.m.lamp k).state ≠ .inrush ∨ (s.m.elapse dt).periodDue k = false) →
     exec (.inrushEnd dt k) s = .next (s.result (s.m.elapse dt))) ∧
   (∀ (dt k i : Nat) (s : State), s.defined → ((s.m.lamp k).state = .inrush ∨ (s.m.lamp k).state = .paused) →
     (s.m.elapse dt).lampGate k = true → (s.m.lamp k).unblanked (s.m.now + dt) = true →
     s.m.lampCode k (s.m.lampParam k 14 2) < s.m.lampCode k i → s.m.lampCode k i < s.m.lampCode k (s.m.lampParam k 16 2) →
     exec (.inrushCurrentLimit dt k i) s = .next (s.result
       ((s.m.elapse dt).setLamp k (fun c => { c with gate := false, limitCyc := min 65535 (c.limitCyc + 1) })))) ∧
   (∀ (dt k i : Nat) (s : State), s.defined → s.m.lampCode k i < s.m.lampCode k (s.m.lampParam k 16 2) →
     ((s.m.lamp k).state = .on ∨ s.m.lampCode k i ≤ s.m.lampCode k (s.m.lampParam k 14 2)) →
     exec (.inrushCurrentLimit dt k i) s = .next (s.result (s.m.elapse dt))) ∧
   (∀ (dt v : Nat) (x : Block) (s : State), s.defined → s.m.lamps.running = true → v < s.m.get R.LD_SUPPLY.UV_PAUSE →
     x = { (s.m.elapse dt).set R.LD_SUPPLY.VLMP v with lamps := { s.m.lamps with sag := true, lowAt := s.m.now + dt } } →
     exec (.inrushPause dt v) s = .next (s.result ((List.range 8).foldl (Block.pauseLamp v) x))) ∧
   (∀ (dt v : Nat) (x : Block) (s : State), s.defined → s.m.lamps.sag = true → s.m.get R.LD_SUPPLY.UV_PAUSE ≤ v →
     s.m.pwmPeriod ≤ 2 * (s.m.now + dt - s.m.lamps.lowAt) →
     x = { (s.m.elapse dt).set R.LD_SUPPLY.VLMP v with lamps := { s.m.lamps with sag := false } } →
     exec (.inrushResume dt v) s = .next (s.result ((List.range 8).foldl Block.resumeLamp x))) ∧
   (∀ (dt v : Nat) (s : State), s.defined → 2 * (s.m.now + dt - s.m.lamps.lowAt) < s.m.pwmPeriod →
     exec (.inrushResume dt v) s = .next (s.result (s.m.elapse dt))) ∧
   (∀ (b : Block) (v k : Nat), k < 8 →
     ((b.lamp k).state = .inrush → ((b.pauseLamp v k).lamp k).state = .paused ∧
       ((b.pauseLamp v k).lamp k).inrushTime = (b.lamp k).inrushTime + (b.now - (b.lamp k).inrushMark)) ∧
     ((b.lamp k).state ≠ .inrush → b.pauseLamp v k = b) ∧
     ((b.lamp k).state = .paused → ((b.resumeLamp k).lamp k).state = .inrush ∧ ((b.resumeLamp k).lamp k).inrushMark = b.now) ∧
     ((b.lamp k).state ≠ .paused → b.resumeLamp k = b))) ∧
  ((∀ (b : Block) (k cause : Nat), k < 8 → ((b.lampOff k cause).lamp k).gate = false ∧ ((b.lampOff k cause).lamp k).req = 0 ∧
     ((b.lampOff k cause).lamp k).cause = cause ∧ ((b.lampOff k cause).lamp k).state = .fault ∧ (b.lampOff k cause).lampLatched k = true) ∧
   (∀ (dt k i : Nat) (s : State), s.defined → (s.m.elapse dt).lampGate k = true →
     s.m.lampCode k (s.m.lampParam k 16 2) ≤ s.m.lampCode k i → ∀ c ∈ [Instr.lampShort dt k i, Instr.inrushCurrentLimit dt k i],
     exec c s = .next (s.result (((s.m.elapse dt).lampOff k 0).eventFrom 0x0601 (0x40 + k) (0x40 + k) (leBytes 1 k ++ leBytes 2 (i / 100))))) ∧
   (∀ (dt k : Nat) (s : State), s.defined → (s.m.lamp k).state = .on → 16 ≤ (s.m.lamp k).lowRes →
     exec (.lampSoftShort dt k) s = .next (s.result
       (((s.m.elapse dt).lampOff k 2).eventFrom 0x0603 (0x40 + k) (0x40 + k) (leBytes 1 k ++ leBytes 2 (s.m.lamp k).resCode)))) ∧
   (∀ (dt k n : Nat) (inp : LampSample) (x : Block) (s : State), s.defined → (s.m.elapse dt).periodDue k = true → s.m.lampOn k = true →
     s.m.lampLatched k = false → s.m.lampParam k 20 1 = n → n ≠ 0 → n ≤ (x.lamp k).openCount →
     x = ((s.m.elapse dt).lampSupply inp.vlmp).setLamp k (fun c => c.sampled inp.vlmp inp.current
       (decide (s.m.lampCode k inp.current < s.m.lampCode k (s.m.lampParam k 18 2)))) →
     exec (.lampPeriodStart dt k inp) s = .next (s.result ((x.lampOff k 1).eventFrom 0x0602 (0x40 + k) (0x40 + k)
       (leBytes 1 k ++ leBytes 2 ((x.lamp k).openSum / (x.lamp k).openCount))))) ∧
   (∀ (dt code : Nat) (total : Rat) (ks : List Nat) (x : Block) (s : State), s.defined → s.m.lamps.running = true →
     s.m.get R.LD_BUDGET.I_TRIP ≠ 0 →
     total = (120000000 * code : Nat) / (4096 * max 1 (s.m.get R.LD_TOTAL.RSHUNT_T) : Nat) →
     x = (s.m.elapse dt).set R.LD_TOTAL.ITOTAL (unsigned 16 (Config.quantise (total / 100))) →
     (10 * s.m.get R.LD_BUDGET.I_TRIP : Nat) < total → ks = (List.range 8).filter (fun k => s.m.lampOn k && !s.m.lampLatched k) →
     exec (.lampGroupOc dt code) s = .next (s.result (ks.foldl (fun b k => b.message (0x40 + k))
       (((ks.foldl (fun b k => b.lampOff k 3) x).setFlag R.LD_FAULT.GROUP_OC true).eventFrom 0x0604 (0x40 + ks.headD 0) 0
         (leBytes 2 (unsigned 16 (Config.quantise (total / 100))) ++ leBytes 1 (ks.map (2 ^ ·)).sum))))) ∧
   (∀ (dt code : Nat) (total : Rat) (s : State), s.defined →
     total = (120000000 * code : Nat) / (4096 * max 1 (s.m.get R.LD_TOTAL.RSHUNT_T) : Nat) →
     (s.m.get R.LD_BUDGET.I_TRIP = 0 ∨ total ≤ (10 * s.m.get R.LD_BUDGET.I_TRIP : Nat)) →
     exec (.lampGroupOc dt code) s = .next (s.result
       ((s.m.elapse dt).set R.LD_TOTAL.ITOTAL (unsigned 16 (Config.quantise (total / 100)))))))

/-- R288 to R291, R302, R308, R311: a SHUTTER action starts its pulse, waits for the pulse or the braking that runs, or is
refused: during a cycle FAULT while SHT_FAULT is set, else BUSY, and at its start FAULT, VSHT or LIMIT; a pulse ends after its width, brakes for 1 ms and then the next one starts; its position is
checked 1 ms after its end, or taken as commanded; overcurrent and a wrong position latch SHT_FAULT with POS UNKNOWN. -/
def Obligations.ShutterPulses : Prop :=
  (∀ (dt i : Nat) (e : ArmedEntry) (x : Block) (s : State), s.defined → (s.m.elapse dt).fireable i 4 = some e → e.commits →
    x = (s.m.elapse dt).fired e →
    ((x.night.running || x.night.rollback || x.night.netOffDue) = true → e.mid ≠ 2 →
      exec (.shutter dt i) s = .next (s.result
        (x.event 0x0702 (leBytes 1 (if x.flag R.CP_SHT_STATUS.SHT_FAULT then 2 else 1))))) ∧
    (((x.night.running || x.night.rollback || x.night.netOffDue) = false ∨ e.mid = 2) →
      ((x.shut.pulse.isSome = true ∨ x.shut.braking = true) → exec (.shutter dt i) s = .next (s.result
        (x.setShut (fun y => { y with waiting := y.waiting ++ [shutterPulseOf e] })))) ∧
      (x.shut.pulse = none → x.shut.braking = false → exec (.shutter dt i) s = .next (s.result (x.startPulse (shutterPulseOf e)))))) ∧
  (∀ (b : Block) (p : ShutterPulse),
    (b.flag R.CP_SHT_STATUS.SHT_FAULT = true → b.pulseRefusal p = some 2) ∧
    (b.flag R.CP_SHT_STATUS.SHT_FAULT = false → b.power.valid.contains .vsht = false → b.pulseRefusal p = some 3) ∧
    (b.flag R.CP_SHT_STATUS.SHT_FAULT = false → b.power.valid.contains .vsht = true → 30000000 < b.onTime + 100000 * b.pulseWidth p →
      b.pulseRefusal p = some 0) ∧
    (b.pulseRefusal p = none → 5 ≤ b.pulseWidth p ∧ b.pulseWidth p ≤ 250 ∧ ∃ q, (b.startPulse p).shut.pulse = some q ∧
      q.width = b.pulseWidth p ∧ q.startedAt = b.now ∧ q.dir = p.dir ∧
      (b.startPulse p).get R.CP_SHT_STATUS.POS = (match p.dir with | .open => 3 | .close => 4)) ∧
    (∀ c, b.pulseRefusal p = some c → (b.startPulse p).shut = b.shut)) ∧
  (∀ (dt : Nat) (p : ShutterPulse) (x : Block) (s : State), s.defined → s.m.shut.pulse = some p →
    p.startedAt + 100000 * p.width ≤ s.m.now + dt → x = ((s.m.elapse dt).brake p).endRollback p →
    exec (.shutterPulseEnd dt) s = .next (s.result
      (if x.flag R.CP_SHT_CTL.SHPOS_EN = true ∧ p.source ≠ .dusk then x.setShut (fun y => { y with check := some p })
       else x.pulseDone p).nightPulse)) ∧
  (∀ (dt : Nat) (p : ShutterPulse) (s : State), s.defined → s.m.shut.pulse = some p → s.m.now + dt < p.startedAt + 100000 * p.width →
    s.m.night.pulseDone = false → exec (.shutterPulseEnd dt) s = .next (s.result (s.m.elapse dt))) ∧
  (∀ (dt : Nat) (s : State), s.defined → s.m.shut.braking = true → s.m.shut.brakeAt + 100000 ≤ s.m.now + dt →
    exec (.shutterBrakeEnd dt) s = .next (s.result
      (Block.startWaiting s.m.shut.waiting ((s.m.elapse dt).setShut (fun y => { y with braking := false }))))) ∧
  (∀ (dt : Nat) (level : Bool) (p : ShutterPulse) (x : Block) (s : State), s.defined → s.m.shut.check = some p →
    s.m.shut.brakeAt + 100000 ≤ s.m.now + dt → x = (s.m.elapse dt).setShut (fun y => { y with check := none }) →
    exec (.shposCheck dt level) s = .next (s.result
      (if (level = s.m.flag R.CP_SHT_CTL.SHPOS_POL ↔ p.dir = .close) then x.pulseDone p
       else (x.shutterFault 1).nightShutterFault).nightPulse)) ∧
  (∀ (dt : Nat) (p : ShutterPulse) (s : State), s.defined → s.m.shut.pulse = some p →
    exec (.shutterOvercurrent dt) s = .next (s.result (((s.m.elapse dt).brake p).shutterFault 0).nightShutterFault)) ∧
  (∀ (b : Block) (cause : Nat), (b.shutterFault cause).flag R.CP_SHT_STATUS.SHT_FAULT = true ∧
    (b.shutterFault cause).get R.CP_SHT_STATUS.POS = 0 ∧
    (b.shutterFault cause).flag (if cause = 0 then R.CP_SHT_STATUS.OVERCURRENT else R.CP_SHT_STATUS.POS_ERR) = true)

/-- R294, R299, R300, R301, R302: MIDNIGHT_TIMER requests a cycle TIMER_MIN minutes after the last success or D6, in RUN, and none
before D6; a request while a cycle runs, or within a minute of a failure, is discarded, and one while another routine runs is
kept; M5 completes as M6. A request that is refused, before D5 and in DAWN_HALT among others, ends with LAST_RESULT REFUSED. The
frame of the tick of M8 is corrected with ΔT against the new drift reference. -/
def Obligations.MidnightRequests : Prop :=
  (∀ (dt : Nat) (s : State), s.defined → s.m.get R.CP_MN_CTL.TIMER_MIN ≠ 0 → s.m.power.mode = .run →
    ∀ t, s.m.night.lastDone = some t → t + 6000000000 * s.m.get R.CP_MN_CTL.TIMER_MIN ≤ s.m.now + dt →
    exec (.midnightTimer dt) s = .next (s.result ((s.m.elapse dt).requestMidnight 0))) ∧
  (∀ (dt : Nat) (s : State), s.defined → (s.m.get R.CP_MN_CTL.TIMER_MIN = 0 ∨ s.m.power.mode ≠ .run ∨ s.m.night.lastDone = none ∨
      ∃ t, s.m.night.lastDone = some t ∧ s.m.now + dt < t + 6000000000 * s.m.get R.CP_MN_CTL.TIMER_MIN) →
    exec (.midnightTimer dt) s = .next (s.result (s.m.elapse dt))) ∧
  (∀ (b : Block) (t at_ : Nat), (b.night.running = true ∨ (b.night.failedAt = some at_ ∧ b.now < at_ + 6000000000)) →
    b.requestMidnight t = b) ∧
  (∀ (b : Block) (t : Nat), b.night.running = false → b.night.failedAt = none → b.seq.held = [] →
    b.requestMidnight t = if b.seqFree then b.beginMidnight t false none else b.hold (.midnight t)) ∧
  (∀ (b : Block) (t : Nat) (dawn : Bool),
    (b.power.valid.contains .vsht = false ∨ b.flag R.CP_SHT_STATUS.SHT_FAULT = true ∨ b.phase < 5 ∨
      b.phase = 14) →
    (b.beginMidnight t dawn none).get R.CP_MN_STATUS.LAST_RESULT = 4 ∧ (b.beginMidnight t dawn none).night.running = b.night.running) ∧
  (∀ (b : Block) (t : Nat), b.power.valid.contains .vsht = true → b.flag R.CP_SHT_STATUS.SHT_FAULT = false → 5 ≤ b.phase →
    b.phase ≠ 14 → (b.beginMidnight t false none).night.running = true ∧ (b.beginMidnight t false none).night.trigger = t ∧
    (b.beginMidnight t false none).seq.routine = some .midnight) ∧
  (∀ (dt : Nat) (s : State), s.defined → s.m.night.running = true → s.m.night.step = 5 →
    ∃ t, exec (.midnightCompute dt) s = .next t ∧ t.m.night.step = 6 ∧ t.m.get R.CP_MN_STATUS.STEP = 7 ∧ t.m.night.frames = [] ∧
      t.m.night.running = true) ∧
  (∀ (dt : Nat) (s : State), s.defined → (s.m.night.running = false ∨ s.m.night.step ≠ 5) →
    exec (.midnightCompute dt) s = .next (s.result (s.m.elapse dt))) ∧
  (∀ (b : Block) (n : Nat), (b.offsetSwap n).thermal.driftRef = roundUp b.night.meanTfpa ∧
    (b.offsetSwap n).thermal.dT = b.thermal.latched0 - roundUp b.night.meanTfpa)

/-! ## Ticks, clocks, the encoder and the sync bus (chapters 04, 05 and 20) -/

/-- R122, R139, R142, R153 to R155, R165: each tick command makes its tick where one of its kind is due and changes nothing
elsewhere. An internal tick is due one period after the last one while ticks are issued, and tick 0 in D5; an encoder tick is due
when WP comes to its target, deferred to MIN_PERIOD where WP came to it earlier and forced at MAX_PERIOD; a unit on the sync bus
that is not master has a tick where it predicts one, and no other. R123, R129, R142, R144: TB_FRAME takes the next number, the
tick's TIME clock and press time are kept, press time is 0 at tick 0 unless a master's is taken, and ROW0_DELAY acts for the rows
of its frame within 120 to 1,000 µs; the tick period in force lies within 125,000 to 4,000,000 TIME clocks, and what throttling
makes of it changes in the commit window alone (R27, R31). -/
def Obligations.TicksFall : Prop :=
  ((∀ (dt : Nat) (inp : TickInput) (s : State), s.defined →
     ∀ p ∈ [(TickKind.plain, Instr.tick dt inp), (TickKind.deferred, Instr.tickDeferred dt inp), (TickKind.forced, Instr.tickForced dt inp)],
       ((s.m.elapse dt).tickKind = some p.1 → exec p.2 s = .next (s.result ((s.m.elapse dt).latchWps.tickFalls p.1 inp))) ∧
       ((s.m.elapse dt).tickKind ≠ some p.1 → exec p.2 s = .next (s.result (s.m.elapse dt)))) ∧
   (∀ b : Block, b.get R.TB_CTL.TICK_SRC = 0 → b.clock.ticked = true → (b.power.mode = .run ∨ b.power.mode = .idle) →
     (b.clock.lastTick + b.periodInForce ≤ b.now → b.tickKind = some .plain) ∧
     (b.now < b.clock.lastTick + b.periodInForce → b.tickKind = none)) ∧
   (∀ b : Block, b.get R.TB_CTL.TICK_SRC = 2 → b.clock.ticked = true → (b.power.mode = .run ∨ b.power.mode = .idle) →
     (b.now < b.clock.lastTick + b.periodInForce → b.tickKind = none) ∧
     (b.clock.lastTick + b.periodInForce ≤ b.now → b.clock.enc.targeted = true →
       (∀ t, b.reachedAt = some t → b.tickKind = some
         (if b.clock.lastTick + b.encMax < t then .forced else if t < b.clock.lastTick + b.periodInForce then .deferred else .plain)) ∧
       (b.reachedAt = none → b.tickKind = if b.clock.lastTick + b.encMax ≤ b.now then some .forced else none))) ∧
   (∀ b : Block, b.get R.TB_CTL.TICK_SRC = 1 → b.role ≠ 3 → (b.tickKind = some .plain ↔ b.mayTick = true ∧ b.role = 2 ∧
     b.clock.sync.hasPred = true ∧ b.clock.sync.predicted ≤ 10 * (b.now : Int)) ∧ (b.tickKind = none ∨ b.tickKind = some .plain)) ∧
   (∀ b : Block, b.ticking = false → (b.power.mode ≠ .run ∨ b.phase ≠ 5 ∨ b.power.dusk ≠ none ∨ b.dawnPulse = true) →
     b.tickKind = none)) ∧
  ((∀ b : Block, b.stampTick.get R.TB_FRAME.FRAME = b.tickNext ∧ b.stampTick.clock.lastTick = b.now ∧
     b.stampTick.clock.ticked = true ∧ b.stampTick.clock.tickPt = b.stampTick.clock.pt ∧ b.stampTick.now = b.now ∧
     120 ≤ b.stampTick.clock.row0 ∧ b.stampTick.clock.row0 ≤ 1000) ∧
   (∀ b : Block, b.clock.ticked = true → b.clock.sync.ptAdjust = none → b.stampTick.clock.pt = b.clock.pt) ∧
   (∀ (b : Block) (pt : PT) (e : Int), b.clock.ticked = true → b.clock.sync.ptAdjust = some pt → b.clock.sync.ptStep = some e →
     b.stampTick.clock.pt = pt) ∧
   (∀ b : Block, b.clock.ticked = false → b.clock.sync.ptAdjust = none → b.stampTick.clock.pt = 0#48 ∧ b.stampTick.clock.ptRun = true) ∧
   (∀ b : Block, 125000 ≤ b.periodInForce ∧ b.periodInForce ≤ 4000000 ∧
     (b.get R.TB_CTL.TICK_SRC = 0 → b.thermal.enforced = false →
       b.periodInForce = max 125000 (min 4000000 (b.get R.TB_PERIOD.PERIOD))) ∧
     (b.get R.TB_CTL.TICK_SRC = 0 → b.thermal.enforced = true → b.periodInForce =
       max (max 125000 (min 4000000 (b.get R.TB_PERIOD.PERIOD))) (max 125000 (min 4000000 b.thermal.fallback)))) ∧
   (∀ b : Block, b.throttleRate.thermal.enforced = b.flag R.TH_STATUS.ENFORCING ∧
     b.throttleRate.thermal.fallback = b.get R.TH_FALLBACK.PERIOD))

/-- R80, R137, R659, R660, R673: loss of REF, or of the lock of a PLL that had locked, in RUN or IDLE writes CLOCK_FAIL and starts a
Dusk; in the commit window of the tick that ends grace enforcement begins while THROTTLE is in force and the period is shorter,
and else REQUESTED clears; in that of the 16th tick in a row with more than 2 °C of difference the model starts again. R655, R662,
R676: the thresholds of a sample. WARN and THROTTLE come into force at their value and leave below it less their hysteresis;
SHUTDOWN is reached at its value, SD_HYST lower while the shutdown mark is set. -/
def Obligations.ClockThrottleModelEvents : Prop :=
  ((∀ (dt : Nat) (lost : Bool) (s : State), s.defined → (s.m.power.mode = .run ∨ s.m.power.mode = .idle) → s.m.phase ≠ 0 →
     (if lost then s.m.flag R.TB_STATUS.REF_LOST = false else s.m.flag R.TB_STATUS.PLL_LOCK = true) →
     exec (.clockFail dt lost) s = .next (s.result
       (((if lost then (s.m.elapse dt).setFlag R.TB_STATUS.REF_LOST true else (s.m.elapse dt).setFlag R.TB_STATUS.PLL_LOCK false).event
         0x0109 (leBytes 1 (bit (!lost)))).startDusk .clock))) ∧
   (∀ (dt : Nat) (lost : Bool) (s : State), s.defined → ((s.m.power.mode ≠ .run ∧ s.m.power.mode ≠ .idle) ∨ s.m.phase = 0 ∨
       (if lost then s.m.flag R.TB_STATUS.REF_LOST = true else s.m.flag R.TB_STATUS.PLL_LOCK = false)) →
     exec (.clockFail dt lost) s = .next (s.result (s.m.elapse dt))) ∧
   (∀ (dt : Nat) (t : PT) (x : Block) (s : State), s.defined → s.m.thermal.graceEnd = some t → ptReached s.m.clock.tickPt t = true →
     s.m.clock.ticked = true → s.m.now + dt < s.m.clock.lastTick + 100 * s.m.clock.row0 →
     x = (s.m.elapse dt).setTh (fun y => { y with graceEnd := none }) →
     exec (.throttleGraceEnd dt) s = .next (s.result
       (if s.m.flag R.TH_STATUS.THROTTLE = true ∧ s.m.periodInForce < s.m.fallbackHeld then
         (x.enforce.event 0x0806 (leBytes 4 x.enforce.periodInForce)).budgetPlan
        else (x.setFlag R.TH_STATUS.REQUESTED false).budgetPlan))) ∧
   (∀ (dt : Nat) (s : State), s.defined → (s.m.thermal.graceEnd = none ∨ s.m.clock.lastTick + 100 * s.m.clock.row0 ≤ s.m.now + dt ∨
     ∃ t, s.m.thermal.graceEnd = some t ∧ ptReached s.m.clock.tickPt t = false) →
     exec (.throttleGraceEnd dt) s = .next (s.result (s.m.elapse dt))) ∧
   (∀ b : Block, b.enforce.thermal.enforced = true ∧ b.enforce.enforcing = true ∧
     (b.follower = true → b.thermal.work = (1, 1) → b.enforce.thermal.work = (1, 2)) ∧
     (b.follower = false → b.enforce.thermal.work = b.thermal.work ∧ b.enforce.periodInForce = max b.ownPeriod b.fallbackHeld)) ∧
   (∀ (dt : Nat) (s : State), s.defined → s.m.clock.ticked = true → s.m.now + dt < s.m.clock.lastTick + 100 * s.m.clock.row0 →
     16 ≤ s.m.thermal.mismatch → exec (.modelReset dt) s = .next (s.result
      (((((s.m.elapse dt).startModel).latchModel true).event 0x0809
       (leBytes 2 (s.m.get R.FP_TFPA.TFPA) ++ leBytes 2 (unsigned 16 (Config.quantise (256 * s.m.thermal.ts))))).tickDecide))) ∧
   (∀ (dt : Nat) (s : State), s.defined → (s.m.thermal.mismatch < 16 ∨ s.m.clock.lastTick + 100 * s.m.clock.row0 ≤ s.m.now + dt) →
     exec (.modelReset dt) s = .next (s.result (s.m.elapse dt))) ∧
   (∀ b : Block, (b.startModel.latchModel true).thermal.latchedH = (b.startModel.latchModel true).thermal.latched0 ∧
     (b.startModel.latchModel true).thermal.ts = b.tfpaC ∧ (b.startModel.latchModel true).thermal.mismatch = 0)) ∧
  ((∀ (b : Block) (t : Int) (site : Nat),
     (b.flag R.TH_STATUS.WARN = false → (b.thresholdWarn t site).flag R.TH_STATUS.WARN = decide (b.thWarn ≤ t)) ∧
     (b.flag R.TH_STATUS.WARN = true → (b.thresholdWarn t site).flag R.TH_STATUS.WARN =
       decide (b.thWarn - hyst (b.get R.TH_HYST.WARN_HYST) ≤ t)) ∧
     (b.flag R.TH_STATUS.THROTTLE = false → (b.thresholdThrottle t site).flag R.TH_STATUS.THROTTLE = decide (b.thThrottle ≤ t)) ∧
     (b.flag R.TH_STATUS.THROTTLE = true → (b.thresholdThrottle t site).flag R.TH_STATUS.THROTTLE =
       decide (b.thThrottle - hyst (b.get R.TH_HYST.THR_HYST) ≤ t))) ∧
   (∀ (b : Block) (t : Int), b.flag R.TH_STATUS.WARN = false → t < b.thWarn → ∀ site, b.thresholdWarn t site = b) ∧
   (∀ (b : Block) (t : Int), b.flag R.TH_STATUS.THROTTLE = true → t < b.thThrottle - hyst (b.get R.TH_HYST.THR_HYST) → ∀ site,
     (b.thresholdThrottle t site).flag R.TH_STATUS.REQUESTED = false ∧ (b.thresholdThrottle t site).enforcing = false ∧
     (b.thresholdThrottle t site).thermal.graceEnd = none) ∧
   (∀ (b : Block) (t : Int), b.shutdownReached t =
     decide ((if b.flag R.TH_STATUS.SD_MARK then b.thShutdown - hyst (b.get R.TH_HYST.SD_HYST) else b.thShutdown) ≤ t)) ∧
   (∀ (b : Block) (sites : List Int), (b.thermalSample sites).2 = (b.thermalSample sites).1.thermal.hot))

/-- R147 to R150, R182: a level of an encoder input is accepted once it has been stable for FILT + 1 ENC clocks, and a shorter one
changes nothing. An accepted edge of one input moves the count by one in its direction, DIR_INV swapping them; an edge of both
counts as illegal, none changes nothing; while the encoder does not count, the count stays. ENC_INDEX writes its event with the
web position while Z_MODE is 1. -/
def Obligations.EncoderCounts : Prop :=
  (∀ (dt sa sc : Nat) (na nc a c : Bool) (s : State), s.defined → s.m.encRuns = true →
    a = (if s.m.get R.TB_ENC_CTL.FILT < sa then na else s.m.clock.enc.levelA) →
    c = (if s.m.get R.TB_ENC_CTL.FILT < sc then nc else s.m.clock.enc.levelB) →
    ∃ t, exec (.encEdge dt na nc sa sc) s = .next t ∧ t.m.clock.enc.levelA = a ∧ t.m.clock.enc.levelB = c ∧ t.m.regs = s.m.regs ∧
      t.m.mem = s.m.mem ∧
      (a ≠ s.m.clock.enc.levelA → c = s.m.clock.enc.levelB →
        t.m.clock.enc.cur.cnt = if ((a != c) != s.m.flag R.TB_ENC_CTL.DIR_INV) = true then s.m.clock.enc.cur.cnt + 1 else s.m.clock.enc.cur.cnt - 1) ∧
      (a = s.m.clock.enc.levelA → c ≠ s.m.clock.enc.levelB →
        t.m.clock.enc.cur.cnt = if ((a == c) != s.m.flag R.TB_ENC_CTL.DIR_INV) = true then s.m.clock.enc.cur.cnt + 1 else s.m.clock.enc.cur.cnt - 1) ∧
      (a ≠ s.m.clock.enc.levelA → c ≠ s.m.clock.enc.levelB →
        t.m.clock.enc.cur = s.m.clock.enc.cur ∧ t.m.clock.enc.illegal = s.m.clock.enc.illegal + 1) ∧
      (a = s.m.clock.enc.levelA → c = s.m.clock.enc.levelB → t.m.clock.enc.cur = s.m.clock.enc.cur)) ∧
  (∀ (dt sa sc : Nat) (a c : Bool) (s : State), s.defined → sa ≤ s.m.get R.TB_ENC_CTL.FILT → sc ≤ s.m.get R.TB_ENC_CTL.FILT →
    exec (.encEdge dt a c sa sc) s = .next (s.result (s.m.elapse dt).latchWps)) ∧
  (∀ (dt sa sc : Nat) (a c : Bool) (s : State), s.defined → s.m.encRuns = false →
    s.m.get R.TB_ENC_CTL.FILT < sa → s.m.get R.TB_ENC_CTL.FILT < sc →
    ∃ t, exec (.encEdge dt a c sa sc) s = .next t ∧ t.m.clock.enc.cur = s.m.clock.enc.cur ∧ t.m.clock.enc.illegal = s.m.clock.enc.illegal ∧
      t.m.clock.enc.levelA = a ∧ t.m.clock.enc.levelB = c) ∧
  (∀ (dt n : Nat) (s : State), s.defined → exec (.encIndex dt n) s = .next (s.result
    (if s.m.encRuns = true ∧ s.m.flag R.TB_ENC_CTL.Z_MODE = true ∧ s.m.get R.TB_ENC_CTL.FILT < n then
       (s.m.elapse dt).event 0x010A (leBytes 5 (s.m.elapse dt).wp.toNat)
     else s.m.elapse dt)))

/-- R158, R174, R181: a bus frame read back gives its body, whatever the body: preamble, length, type and CRC agree; the frames of a
type are told apart by it, and a body changed in its CRC alone is refused. On the line a byte goes out least significant bit first
and each bit as two levels, a 1 low then high; what was sent is heard as sent, and a line with a bit of two like levels is no
frame. A unit whose bit k does not read back drives no bit after it. -/
def Obligations.BusFramesRoundTrip : Prop :=
  (∀ (body : List Byte) (len : Nat), body.length + 5 = len → busBody (leField body 0 1) len (busFrame body) = some body) ∧
  (∀ (body : List Byte) (type len : Nat), type ≠ leField body 0 1 → busBody type len (busFrame body) = none) ∧
  (∀ (body : List Byte) (type len crc : Nat), crc % 65536 ≠ crc16 body →
    busBody type len (preamble ++ body ++ leBytes 2 crc) = none) ∧
  (∀ (body bs : List Byte) (type len : Nat), 5 ≤ len → busBody type len bs = some body → bs = busFrame body) ∧
  (∀ (x : Byte) (bs : List Byte), lineOf (x :: bs) = (List.range 8).flatMap (fun i => [!x.getLsbD i, x.getLsbD i]) ++ lineOf bs) ∧
  (∀ (type len : Nat) (bs : List Byte), heardBody type len (lineOf bs) = busBody type len bs) ∧
  (∀ (type len : Nat) (x y : List Bool) (h : Bool), x.length % 2 = 0 → heardBody type len (x ++ h :: h :: y) = none) ∧
  (∀ (body : List Byte) (line : List Bool) (type len : Nat), 5 ≤ len → heardBody type len line = some body →
    line = lineOf (busFrame body)) ∧
  (∀ (f : List Byte) (k : Nat), driven f none = lineOf f ∧ (k < 8 * f.length → (driven f (some k)).length = 2 * (k + 1) ∧
    ∃ rest, lineOf f = driven f (some k) ++ rest))

/-- R159, R165, R168, R170, R176, R177, R180: what a beacon does. A frame that is not a valid beacon, or one that the master hears,
changes nothing; a valid one makes the unit a follower of its sender, with the next tick placed one PERIOD of the beacon after
t_b − d − 0.96 µs, t_b lying 11.84 µs, the 37 bytes after the start byte, before the beacon's end; and the press time to take at
that tick is the beacon's plus that PERIOD. It is in HOLDOVER after it where the beacon came more than 2 µs from its prediction, or
more than 1 µs in HOLDOVER, and LOCK sets at the eighth beacon after a delay report. R160, R163, R164, R171, R172, R174, R176,
R183: a reply in turn leaves 20.0 µs after the beacon and drops its slot, or ends as a COLLISION; the master measures a round trip
and every unit takes the slot; a beacon that has not come by 2 µs after its prediction means HOLDOVER, and the LOSS_N-th loses the
master; a search without a beacon leads to an election or to HOLDOVER; a claim in the unit's slot makes it master unless a lower
one was heard. -/
def Obligations.SyncBus : Prop :=
  ((∀ (dt : Nat) (l : List Bool) (s : State), s.defined → (heardBody 1 40 l = none ∨ s.m.syncRuns = false ∨ s.m.role = 3) →
     exec (.beaconRx dt l) s = .next (s.result (s.m.elapse dt))) ∧
   (∀ (dt : Nat) (l : List Bool) (body : List Byte) (s : State), s.defined → heardBody 1 40 l = some body → s.m.syncRuns = true →
     s.m.role ≠ 3 →
     ∃ t, exec (.beaconRx dt l) s = .next t ∧ t.m.role = 2 ∧ t.m.get R.TB_SYNC_STATUS.MASTER_ID = leField body 1 1 % 16 ∧
       t.m.flag R.TB_SYNC_STATUS.HOLDOVER = decide (2000 < (s.m.elapse dt).beaconError ∨
         (s.m.flag R.TB_SYNC_STATUS.HOLDOVER = true ∧ s.m.clock.sync.hasPred = true ∧ 1000 < (s.m.elapse dt).beaconError)) ∧
       ((s.m.elapse dt).beaconError ≤ 2000 → t.m.clock.sync.missed = 0) ∧ t.m.clock.sync.hasPred = true ∧
       t.m.clock.sync.awaits = false ∧ t.m.clock.sync.rxAt = s.m.now + dt ∧
       t.m.clock.sync.replyDue = (leField body 2 4 % 16 == s.m.unitId) ∧
       t.m.clock.sync.masterTick = leField body 2 4 ∧ t.m.clock.sync.period = leField body 12 3 % 2 ^ 22 ∧
       t.m.clock.sync.predicted = 10 * ((s.m.now + dt : Nat) : Int) - 12800 - t.m.clock.sync.delay + 10 * (leField body 12 3 % 2 ^ 22 : Nat) ∧
       t.m.clock.sync.ptAdjust = some (BitVec.ofNat 48 (leField body 6 6) + BitVec.ofNat 48 (leField body 12 3 % 2 ^ 22)) ∧
       (leField body 12 3 % 2 ^ 22 ≠ s.m.get R.TB_PERIOD.PERIOD → t.m.flag R.TB_SYNC_STATUS.PERIOD_MISMATCH = true) ∧
       ((s.m.elapse dt).beaconError ≤ 2000 → s.m.flag R.TB_SYNC_STATUS.HOLDOVER = false →
         leField body 15 1 % 16 + leField body 15 1 / 128 * 128 ≠ s.m.unitId + 128 →
         (s.m.clock.sync.dlySeen = true → 7 ≤ s.m.clock.sync.beacons → t.m.flag R.TB_SYNC_STATUS.LOCK = true) ∧
         (s.m.clock.sync.dlySeen = false → t.m.flag R.TB_SYNC_STATUS.LOCK = s.m.flag R.TB_SYNC_STATUS.LOCK)))) ∧
  ((∀ (dt : Nat) (clash : Option Nat) (f : List Byte) (x : Block) (s : State), s.defined → s.m.syncRuns = true → s.m.role = 2 →
     s.m.clock.sync.replyDue = true → s.m.now + dt = s.m.clock.sync.rxAt + 2000 → f = busFrame (s.m.elapse dt).replyBody →
     x = (s.m.elapse dt).setSync (fun y => { y with
       replyDue := false, lastTx := driven f clash, queue := if clashes f clash then y.queue else y.queue.drop 1 }) →
     exec (.replyTx dt clash) s = .next (s.result
       (if clashes f clash then (x.setFlag R.TB_SYNC_STATUS.COLLISION true).event 0x0113 (leBytes 1 2) else x))) ∧
   (∀ (dt : Nat) (clash : Option Nat) (s : State), s.defined → (s.m.clock.sync.replyDue = false ∨
     s.m.now + dt ≠ s.m.clock.sync.rxAt + 2000) → exec (.replyTx dt clash) s = .next (s.result (s.m.elapse dt))) ∧
   (∀ (dt trip : Nat) (l : List Bool) (body : List Byte) (s : State), s.defined → heardBody 2 28 l = some body → s.m.syncRuns = true →
     (s.m.role ≠ 3 ∨ leField body 2 4 ≠ s.m.get R.TB_FRAME.FRAME) →
     exec (.replyRx dt l trip) s = .next (s.result ((s.m.elapse dt).peerDeliver (leField body 1 1 % 16) (body.drop 7)))) ∧
   (∀ (dt trip : Nat) (l : List Bool) (body : List Byte) (x : Block) (s : State), s.defined → heardBody 2 28 l = some body →
     s.m.syncRuns = true → s.m.role = 3 → leField body 2 4 = s.m.get R.TB_FRAME.FRAME →
     x = (s.m.elapse dt).setSync (fun y => { y with
       trips := (leField body 1 1 % 16, (((trip : Int) - 20000) ::
           ((y.trips.find? (fun p => p.1 == leField body 1 1 % 16)).map (·.2)).getD []).take 4) ::
         y.trips.filter (fun p => p.1 != leField body 1 1 % 16), dlyNext := some (leField body 1 1 % 16) }) →
     exec (.replyRx dt l trip) s = .next (s.result (x.peerDeliver (leField body 1 1 % 16) (body.drop 7)))) ∧
   (∀ (dt : Nat) (s : State), s.defined → s.m.syncOn = true → s.m.role = 2 → s.m.clock.sync.awaits = true →
     s.m.clock.sync.arrival + 2000 ≤ 10 * ((s.m.now + dt : Nat) : Int) → s.m.clock.sync.missed + 1 < s.m.lossN →
     exec (.beaconMissed dt) s = .next (s.result (((s.m.elapse dt).setSync (fun y =>
       { y with missed := y.missed + 1, replyDue := false, awaits := false })).setFlag R.TB_SYNC_STATUS.HOLDOVER true))) ∧
   (∀ (dt : Nat) (s : State), s.defined → s.m.syncOn = true → s.m.role = 2 → s.m.clock.sync.awaits = true →
     s.m.clock.sync.arrival + 2000 ≤ 10 * ((s.m.now + dt : Nat) : Int) → s.m.clock.sync.missed + 1 = s.m.lossN →
     ∃ t, exec (.beaconMissed dt) s = .next t ∧ t.m.flag R.TB_SYNC_STATUS.LOCK = false ∧ t.m.flag R.TB_SYNC_STATUS.HOLDOVER = true ∧
       t.m.clock.sync.dlySeen = false ∧ t.m.clock.sync.beacons = 0 ∧
       (t.m.clock.sync.election = true ↔ s.m.clock.sync.election = true ∨ s.m.flag R.TB_SYNC_CTL.MASTER_CAP = true)) ∧
   (∀ (dt : Nat) (s : State), s.defined → (s.m.clock.sync.awaits = false ∨ 10 * ((s.m.now + dt : Nat) : Int) < s.m.clock.sync.arrival + 2000) →
     exec (.beaconMissed dt) s = .next (s.result (s.m.elapse dt))) ∧
   (∀ (dt : Nat) (x : Block) (s : State), s.defined → s.m.syncOn = true → (s.m.role = 1 ∨ (s.m.role = 2 ∧ s.m.clock.sync.hasPred = false)) →
     s.m.clock.sync.searchFrom + s.m.lossN * s.m.periodSet ≤ s.m.now + dt →
     x = (s.m.elapse dt).setSync (fun y => { y with searchFrom := s.m.now + dt }) → exec (.syncSearchTimeout dt) s = .next (s.result
       (if s.m.flag R.TB_SYNC_CTL.MASTER_CAP then
         x.setSync (fun y => { y with election := true, electionAt := s.m.now + dt, heardLower := false })
        else (x.set R.TB_SYNC_STATUS.ROLE 2).setFlag R.TB_SYNC_STATUS.HOLDOVER true))) ∧
   (∀ (dt slot : Nat) (clash : Option Nat) (s : State), s.defined → s.m.syncRuns = true → s.m.clock.sync.election = true →
     s.m.clock.sync.heardLower = false → slot = s.m.clock.sync.electionAt + 100 * (50 + 20 * s.m.unitId) → slot ≤ s.m.now + dt →
     s.m.now + dt < slot + 2000 →
     (clashes (busFrame s.m.claimBody) clash = false → ∃ t, exec (.claimTx dt clash) s = .next t ∧ t.m.role = 3 ∧
       t.m.get R.TB_SYNC_STATUS.MASTER_ID = s.m.unitId ∧ t.m.clock.sync.election = false) ∧
     (clashes (busFrame s.m.claimBody) clash = true → ∃ t, exec (.claimTx dt clash) s = .next t ∧ t.m.role = s.m.role ∧
       t.m.flag R.TB_SYNC_STATUS.COLLISION = true ∧ t.m.clock.sync.election = false ∧
       t.m.clock.sync.lastTx = driven (busFrame s.m.claimBody) clash)) ∧
   (∀ (dt : Nat) (l : List Bool) (body : List Byte) (s : State), s.defined → heardBody 3 11 l = some body → s.m.syncRuns = true →
     s.m.clock.sync.election = true → leField body 1 1 % 16 < s.m.unitId → exec (.claimRx dt l) s = .next (s.result
       ((s.m.elapse dt).setSync (fun y => { y with heardLower := true, election := false })))))

/-! ## Frames, zones, brackets and output (chapters 06 to 08, 10 and 21) -/

/-- R126, R190, R194, R199, R205, R210 to R212, R216: a frame starts ROW0_DELAY after its tick with what is in force then, unless
the one before is still read, which is undefined behaviour when their slots overlap; each slot's end does its work and counts, its
bias amplitude within 50 mV of the level's, or of 0 V in a slot without a pulse, or BIAS_FAULT; IDLE reads the thermistor row of a
tick alone; a thermistor sum in range gives TFPA, another holds it; the column check counts the columns outside 8,192 ± 64. -/
def Obligations.FramesAreRead : Prop :=
  (∀ (dt : Nat) (fr : Frame) (s : State), s.defined → s.m.img.enabled = true → s.m.clock.ticked = true → s.m.power.mode = .run →
    s.m.img.lastStart ≠ some (s.m.get R.TB_FRAME.FRAME) → s.m.clock.lastTick + 100 * s.m.clock.row0 ≤ s.m.now + dt →
    fr = (s.m.elapse dt).newFrame →
    (s.m.img.frames = [] → ∃ t, exec (.frameStart dt) s = .next t ∧
      t.m.img.frames = [{ fr with flags := { fr.flags with biasClip := fr.biasClips } }] ∧
      t.m.img.lastStart = some (s.m.get R.TB_FRAME.FRAME) ∧ t.m.flag R.FP_STATUS.READING = true ∧ t.m.flag R.CP_STATUS.RUNNING = true) ∧
    (∀ x ∈ s.m.img.frames, fr.startAt < x.startAt + x.slots * x.rowClocks →
      exec (.frameStart dt) s = .next (s.result ((s.m.elapse dt).enterUndef .readoutMinimum)))) ∧
  (∀ (dt : Nat) (inp : RowInput) (s : State), s.defined → (∀ x ∈ s.m.img.frames, x.slots ≤ x.slot) → s.m.power.mode ≠ .idle →
    exec (.rowSlot dt inp) s = .next (s.result (s.m.elapse dt).latchWps)) ∧
  (∀ (dt : Nat) (inp : RowInput) (s : State), s.defined → (∀ x ∈ s.m.img.frames, x.slots ≤ x.slot) → s.m.power.mode = .idle →
    s.m.clock.ticked = true → s.m.img.lastStart ≠ some (s.m.get R.TB_FRAME.FRAME) →
    s.m.clock.lastTick + 100 * s.m.clock.row0 + 2 * rowTime (s.m.get R.FP_ROWCFG.ROW_TIME) ≤ s.m.now + dt →
    exec (.rowSlot dt inp) s = .next (s.result (((s.m.elapse dt).latchWps.thermistor (s.m.get R.TB_FRAME.FRAME)
      ((blindCols.map (fun c => inp.codes.getD c 0)).sum)).1.setImg (fun x => { x with lastStart := some (s.m.get R.TB_FRAME.FRAME) })))) ∧
  (∀ (dt : Nat) (inp : RowInput) (fr g h : Frame) (x y z : Block) (s : State), s.defined →
    (s.m.elapse dt).latchWps.readingFrame = some fr → fr.startAt + (fr.slot + 1) * fr.rowClocks ≤ s.m.now + dt →
    (s.m.elapse dt).latchWps.slotEcc fr inp = (x, g) → x.slotBias g inp.bias = (y, h) → (y.slotWork h inp) = z →
    (∀ k, z.readingFrame = some k → k.slot + 1 < k.slots →
      exec (.rowSlot dt inp) s = .next (s.result (z.slotOpens { k with slot := k.slot + 1 }))) ∧
    (∀ k, z.readingFrame = some k → k.slot + 1 = k.slots → exec (.rowSlot dt inp) s = .next (s.result
      ((z.slotOpens { k with slot := k.slot + 1 }).frameEnd { k with slot := k.slot + 1 })))) ∧
  (∀ (b : Block) (fr : Frame), fr.slot ≠ 2 → fr.slot ≠ 6 → b.slotOpens fr = b.setFrame fr) ∧
  (∀ (b : Block) (fr : Frame) (mv want : Nat),
    want = (if fr.pulsed fr.slot = true then bias255 (fr.get R.FP_BIAS.LEVEL) else 0) →
    (((want + 12750000 < 255000 * mv ∨ 255000 * mv + 12750000 < want) →
      (b.slotBias fr mv).1.flag R.FP_STATUS.BIAS_FAULT = true ∧ (b.slotBias fr mv).1.img.biasFault = true ∧
      (b.slotBias fr mv).2.flags.biasFault = true) ∧
    (255000 * mv ≤ want + 12750000 → want ≤ 255000 * mv + 12750000 → (b.slotBias fr mv).1 = b ∧
      (b.slotBias fr mv).2.flags = fr.flags))) ∧
  (∀ (b : Block) (n sum : Nat), 4096 ≤ sum → sum ≤ 258032 → ∀ T : Int, T = clampInt (-32768) 32767 (Config.tfpaOf sum) →
    (b.thermistor n sum).2 = T ∧ (b.thermistor n sum).1.get R.FP_TFPA.TFPA = unsigned 16 T ∧
    (b.thermistor n sum).1.img.lastGood = T ∧ (b.thermistor n sum).1.img.tfpaFault = false ∧ (b.thermistor n sum).1.brk.measured = T) ∧
  (∀ (b : Block) (n sum : Nat), (sum < 4096 ∨ 258032 < sum) → (b.thermistor n sum).2 = b.img.lastGood ∧
    (b.thermistor n sum).1.get R.FP_TFPA.TFPA = b.get R.FP_TFPA.TFPA ∧ (b.thermistor n sum).1.img.tfpaFault = true ∧
    (b.thermistor n sum).1.flag R.FP_STATUS.TFPA_FAULT = true ∧ (b.thermistor n sum).1.brk.measured = b.brk.measured) ∧
  (∀ (b : Block) (fr : Frame) (codes bad : List Nat),
    bad = (List.range 1040).filter (fun c => decide (codes.getD c 0 < 8128 ∨ 8256 < codes.getD c 0)) →
    (b.columnCheck fr codes).get R.FP_COLFAULT.COUNT = bad.length ∧
    (bad ≠ [] → (b.columnCheck fr codes).flag R.FP_STATUS.COL_FAULT = true))

/-- R133, R318, R331: the budget plan takes every enabled zone once, priority 7 first and by number within one, and admits from
the front of that order until the first whose cost exceeds what is left: the admitted ones are a prefix, their costs fit the
budget, and the next one's does not. -/
def Obligations.BudgetPlanAdmitsPrefix : Prop :=
  (∀ m : Mem, (admissionOrder m).Pairwise (fun x y => (zoneIn m y.1).prio < (zoneIn m x.1).prio ∨
    ((zoneIn m x.1).prio = (zoneIn m y.1).prio ∧ x.1 < y.1))) ∧
  (∀ (m : Mem) (z : Nat), z ∈ (admissionOrder m).map (·.1) ↔ z < 1024 ∧ zoneEn m z = true) ∧
  (∀ (left : Nat) (order : List (Nat × Nat)), ∃ n ≤ order.length, takeWhileFits left order = (order.take n).map (·.1) ∧
    ((order.take n).map (·.2)).sum ≤ left ∧ ∀ p, order[n]? = some p → left < ((order.take n).map (·.2)).sum + p.2) ∧
  (∀ b : Block, b.budgetPlan.zones.planned ++ b.budgetPlan.zones.plannedShed = (admissionOrder b.mem).map (·.1))

/-- R127, R128, R324 to R328: ZONE_CLOSE makes the statistics of the oldest frame read final, one for each admitted zone;
PUBLICATION publishes the oldest closed frame and drops it, and nothing is published while the oldest is not closed; the limit
state goes to HIGH above HIGH_LIM and to LOW below LOW_LIM at once without debounce. R336: a tentative binding arms in the first
counted frame of a run of counted frames whose candidate is its ON state, while the zone is in another state. -/
def Obligations.ZonesCloseAndPublish : Prop :=
  (∀ (dt : Nat) (ecc : List Nat) (te : List (Nat × Nat)) (fr : Frame) (s : State), s.defined → s.m.closing = some fr →
    s.m.night.running = false → ∃ t, exec (.zoneClose dt ecc te) s = .next t ∧
      t.m.img.frames = mapFirst (fun x => x.n == fr.n) (fun _ => { fr with
        closed := true, closedAt := s.m.now + dt, zones := fr.admitted.map (fun z => (z, fr.closeZone ecc te z)) }) s.m.img.frames ∧ t.m.regs = s.m.regs) ∧
  (∀ (dt : Nat) (ecc : List Nat) (te : List (Nat × Nat)) (s : State), s.defined → s.m.closing = none →
    exec (.zoneClose dt ecc te) s = .next (s.result (s.m.elapse dt))) ∧
  (∀ (dt : Nat) (fr : Frame) (rest : List Frame) (s : State), s.defined → s.m.img.frames = fr :: rest → fr.closed = true →
    (fr.published = false → ∃ t, exec (.publication dt) s = .next t ∧ t.m.img.frames = rest ∧ t.m.zones.results = s.m.zones.results ∧
      t.m.get R.ZN_PUB_FRAME.FRAME = s.m.get R.ZN_PUB_FRAME.FRAME) ∧
    (fr.published = true → ∃ x : Block, x = ({ s.m.elapse dt with img := { s.m.img with frames := rest } }).setZe (fun z => { z with fresh := false }) ∧
      exec (.publication dt) s = .next (s.result (x.publish { fr with first := fr.first || s.m.zones.fresh }).cpStop))) ∧
  (∀ (dt : Nat) (s : State), s.defined → (∀ fr ∈ s.m.img.frames.head?, fr.closed = false) →
    exec (.publication dt) s = .next (s.result (s.m.elapse dt).cpStop)) ∧
  (∀ (b : Block) (fr : Frame), (b.publishRegs fr).get R.ZN_PUB_FRAME.FRAME = fr.n % 2 ^ 32 ∧
    ((b.publishRegs fr).flag R.ZN_STATUS.SAFETY_NET = fr.flags.safetyNet) ∧
    ((b.publishRegs fr).flag R.ZN_STATUS.SHED_LAST = !fr.shed.isEmpty)) ∧
  (∀ (x : ZoneRun) (z : ZoneRecord) (v : Nat), z.stat < 6 → z.debounce = 1 →
    (z.highLim < v → (x.update z (some v)).1.s = .high) ∧
    (v ≤ z.highLim → x.s ≠ .high → v < z.lowLim → (x.update z (some v)).1.s = .low) ∧
    (v ≤ z.highLim → z.lowLim ≤ v → x.s = .normal → (x.update z (some v)).1 = { x with deb := 0 }) ∧
    (x.s = .high → z.highLim - z.hyst < v → (x.update z (some v)).1.s = .high) ∧
    (x.update z none).1 = x) ∧
  (∀ (p : ZonePub) (net en : Bool) (x : Binding) (s : LimitState), x.tentative = true → onState x.on = some s →
    (p.acts net en x = true ↔ p.candidate = some s ∧ p.last ≠ some s ∧ en = true ∧ p.before ≠ s))

/-- R340: one loop update, for every set point, gain and limit: OUT lies within OUT_MIN and OUT_MAX and INTEG within 65,536
times them, the integrator does not advance past a limit it drives against, and with zero error and an integrator in range
nothing moves. The running loops update once per tick, 40 µs after it. -/
def Obligations.LoopOutputsWithinLimits : Prop :=
  (∀ (sp kp ki omin omax m : Nat) (integ : Int), omin ≤ omax →
    (omin : Int) ≤ (loopStep sp kp ki omin omax integ m).2 ∧ ((loopStep sp kp ki omin omax integ m).2 : Int) ≤ omax ∧
    65536 * (omin : Int) ≤ (loopStep sp kp ki omin omax integ m).1 ∧ (loopStep sp kp ki omin omax integ m).1 ≤ 65536 * (omax : Int)) ∧
  (∀ (sp kp ki omin omax : Nat) (integ : Int), 65536 * (omin : Int) ≤ integ → integ ≤ 65536 * (omax : Int) →
    (loopStep sp kp ki omin omax integ sp).1 = integ ∧
    ((loopStep sp kp ki omin omax integ sp).2 : Int) = roundUp ((integ : Rat) / 65536)) ∧
  (∀ (sp kp ki omin omax m : Nat) (integ : Int), m < sp → omin ≤ omax →
    ((omax : Rat) < (kp * ((sp : Int) - m) : Int) / 256 + ((integ + ki * ((sp : Int) - m) : Int) : Rat) / 65536) →
    (loopStep sp kp ki omin omax integ m).1 = max (65536 * (omin : Int)) (min (65536 * (omax : Int)) integ)) ∧
  (∀ (dt : Nat) (s : State), s.defined → s.m.zones.loopsOn = true → s.m.zones.loopTick = true →
    s.m.clock.lastTick + 4000 ≤ s.m.now + dt → exec (.loopUpdate dt) s = .next (s.result
      ((List.range 8).foldl Block.loopOnce ((s.m.elapse dt).setZe (fun x => { x with loopTick := false }))))) ∧
  (∀ (dt : Nat) (s : State), s.defined → (s.m.zones.loopsOn = false ∨ s.m.zones.loopTick = false ∨
    s.m.now + dt < s.m.clock.lastTick + 4000) → exec (.loopUpdate dt) s = .next (s.result (s.m.elapse dt)))

/-- R263, R268, R269, R298: a load whose last block checked good makes the shadow READY; a READY gain shadow is discarded after
60 s; a copy-back writes the shadow's gain, or offset, into that field of every pixel record and no other byte. -/
def Obligations.BracketShadowMoves : Prop :=
  (∀ (dt : Nat) (s : State), s.defined → exec (.bracketLoadDone dt) s = .next (s.result
    (if s.m.brk.shadow = .loading ∧ s.m.brk.loaded = true then
      (s.m.elapse dt).setBrk (fun x => { x with shadow := .ready, readyAt := s.m.now + dt }) else s.m.elapse dt))) ∧
  (∀ (dt : Nat) (s : State), s.defined → s.m.brk.shadow = .ready → s.m.brk.content = .gain → s.m.brk.forced = none →
    s.m.brk.readyAt + 6000000000 ≤ s.m.now + dt →
    ∃ t, exec (.readyHoldExpiry dt) s = .next t ∧ t.m.brk.shadow = .idle ∧ t.m.brk.content = .nothing ∧ t.m.mem = s.m.mem) ∧
  (∀ (dt : Nat) (s : State), s.defined → (s.m.brk.shadow ≠ .ready ∨ s.m.now + dt < s.m.brk.readyAt + 6000000000) →
    exec (.readyHoldExpiry dt) s = .next (s.result (s.m.elapse dt))) ∧
  (∀ (dt : Nat) (s : State), s.defined → s.m.brk.copyback = true → s.m.brk.content = .gain →
    ∃ t, exec (.copybackDone dt) s = .next t ∧ t.m.mem = copyGain s.m.mem ∧ t.m.brk.copyback = false ∧ t.m.brk.copied = true) ∧
  (∀ (dt : Nat) (s : State), s.defined → s.m.brk.copyback = true → s.m.brk.content = .offsets →
    ∃ t, exec (.copybackDone dt) s = .next t ∧ t.m.mem = copyShutBad (copyOffset s.m.mem) (s.m.night.shutBadWork.getD []) ∧
      t.m.brk.copyback = false ∧ t.m.brk.copied = true) ∧
  (∀ (dt : Nat) (s : State), s.defined → s.m.brk.copyback = false → exec (.copybackDone dt) s = .next (s.result (s.m.elapse dt))) ∧
  (∀ (m : Mem), Mem.wf 0#8 m = true →
    (∀ p i, p < 786432 → i < 2 → Mem.read 0#8 (copyGain m) (8 * p + 2 + i) = Mem.read 0#8 m (0x600000 + 2 * p + i) ∧
      Mem.read 0#8 (copyOffset m) (8 * p + i) = Mem.read 0#8 m (0x600000 + 2 * p + i)) ∧
    (∀ a, (0x600000 ≤ a ∨ (a % 8 ≠ 2 ∧ a % 8 ≠ 3)) → Mem.read 0#8 (copyGain m) a = Mem.read 0#8 m a) ∧
    (∀ a, (0x600000 ≤ a ∨ (a % 8 ≠ 0 ∧ a % 8 ≠ 1)) → Mem.read 0#8 (copyOffset m) a = Mem.read 0#8 m a))

/-- R681, R690, R691, R696: a burst takes packets from the queues in order, a queued VC2 frame before any image packet, and
leaves the rest; while output is lost, or its rail, nothing leaves. A frame end on VC0 sets VO_LAST_FRAME. -/
def Obligations.BurstsLeaveInOrder : Prop :=
  (∀ (dt n : Nat) (s : State), s.defined → s.m.out.lost = false → s.m.power.valid.contains .vddphy = true →
    (s.m.power.mode = .run ∨ s.m.power.mode = .idle) →
    ∃ t, exec (.csiBurst dt n) s = .next t ∧ t.m.out.result ++ t.m.out.image = (s.m.out.result ++ s.m.out.image).drop n ∧
      t.m.out.result = s.m.out.result.drop n ∧
      ((s.m.out.result ++ s.m.out.image).take n ≠ [] → t.m.out.lanes =
        laneBytes s.m.laneCount (((s.m.out.result ++ s.m.out.image).take n).flatMap Packet.bytes))) ∧
  (∀ (dt n : Nat) (s : State), s.defined → (s.m.out.lost = true ∨ s.m.power.valid.contains .vddphy = false ∨ s.m.power.mode = .nap ∨
      s.m.power.mode.lost = true) → exec (.csiBurst dt n) s = .next (s.result (s.m.elapse dt))) ∧
  (∀ (b : Block) (p : Packet), p.dt = 1 → p.vc = 0 → (b.sendPacket p).get R.VO_LAST_FRAME.FRAME = p.frame % 2 ^ 32 ∧
    (b.sendPacket p).out.opened = b.out.opened.filter (fun o => o.1 != 0))
end

