-- ==== Sys2Proof/Laws/State.lean ====
section
/-! SUPPORT. What each named update of the block leaves in each field: one lemma per field per update, true by unfolding. -/

namespace Sys2Proof.Laws

open Sys2Proof.Machine

variable (b : Block)

/-! ### Block.setWord -/

@[simp] theorem block_setWord_now (i : Nat) (w : Word) : (b.setWord i w).now = b.now := rfl
@[simp] theorem block_setWord_free (i : Nat) (w : Word) : (b.setWord i w).free = b.free := rfl
@[simp] theorem block_setWord_undef (i : Nat) (w : Word) : (b.setWord i w).undef = b.undef := rfl
@[simp] theorem block_setWord_regs (i : Nat) (w : Word) : (b.setWord i w).regs = b.regs.setIfInBounds i w := rfl
@[simp] theorem block_setWord_mem (i : Nat) (w : Word) : (b.setWord i w).mem = b.mem := rfl
@[simp] theorem block_setWord_portA (i : Nat) (w : Word) : (b.setWord i w).portA = b.portA := rfl
@[simp] theorem block_setWord_portB (i : Nat) (w : Word) : (b.setWord i w).portB = b.portB := rfl
@[simp] theorem block_setWord_rings (i : Nat) (w : Word) : (b.setWord i w).rings = b.rings := rfl
@[simp] theorem block_setWord_dbSeq (i : Nat) (w : Word) : (b.setWord i w).dbSeq = b.dbSeq := rfl
@[simp] theorem block_setWord_dbA (i : Nat) (w : Word) : (b.setWord i w).dbA = b.dbA := rfl
@[simp] theorem block_setWord_dbB (i : Nat) (w : Word) : (b.setWord i w).dbB = b.dbB := rfl
@[simp] theorem block_setWord_mail (i : Nat) (w : Word) : (b.setWord i w).mail = b.mail := rfl
@[simp] theorem block_setWord_seq (i : Nat) (w : Word) : (b.setWord i w).seq = b.seq := rfl
@[simp] theorem block_setWord_irq (i : Nat) (w : Word) : (b.setWord i w).irq = b.irq := rfl
@[simp] theorem block_setWord_nv (i : Nat) (w : Word) : (b.setWord i w).nv = b.nv := rfl
@[simp] theorem block_setWord_power (i : Nat) (w : Word) : (b.setWord i w).power = b.power := rfl
@[simp] theorem block_setWord_clock (i : Nat) (w : Word) : (b.setWord i w).clock = b.clock := rfl
@[simp] theorem block_setWord_img (i : Nat) (w : Word) : (b.setWord i w).img = b.img := rfl
@[simp] theorem block_setWord_brk (i : Nat) (w : Word) : (b.setWord i w).brk = b.brk := rfl
@[simp] theorem block_setWord_shut (i : Nat) (w : Word) : (b.setWord i w).shut = b.shut := rfl
@[simp] theorem block_setWord_night (i : Nat) (w : Word) : (b.setWord i w).night = b.night := rfl
@[simp] theorem block_setWord_zones (i : Nat) (w : Word) : (b.setWord i w).zones = b.zones := rfl
@[simp] theorem block_setWord_sched (i : Nat) (w : Word) : (b.setWord i w).sched = b.sched := rfl
@[simp] theorem block_setWord_valves (i : Nat) (w : Word) : (b.setWord i w).valves = b.valves := rfl
@[simp] theorem block_setWord_lamps (i : Nat) (w : Word) : (b.setWord i w).lamps = b.lamps := rfl
@[simp] theorem block_setWord_txn (i : Nat) (w : Word) : (b.setWord i w).txn = b.txn := rfl
@[simp] theorem block_setWord_overlay (i : Nat) (w : Word) : (b.setWord i w).overlay = b.overlay := rfl
@[simp] theorem block_setWord_tap (i : Nat) (w : Word) : (b.setWord i w).tap = b.tap := rfl
@[simp] theorem block_setWord_mp (i : Nat) (w : Word) : (b.setWord i w).mp = b.mp := rfl
@[simp] theorem block_setWord_thermal (i : Nat) (w : Word) : (b.setWord i w).thermal = b.thermal := rfl
@[simp] theorem block_setWord_out (i : Nat) (w : Word) : (b.setWord i w).out = b.out := rfl

/-! ### Block.set -/

@[simp] theorem block_set_now (f : RegField) (v : Nat) : (b.set f v).now = b.now := rfl
@[simp] theorem block_set_free (f : RegField) (v : Nat) : (b.set f v).free = b.free := rfl
@[simp] theorem block_set_undef (f : RegField) (v : Nat) : (b.set f v).undef = b.undef := rfl
@[simp] theorem block_set_regs (f : RegField) (v : Nat) : (b.set f v).regs = b.regs.setIfInBounds f.idx (f.put (b.word f.idx) v) := rfl
@[simp] theorem block_set_mem (f : RegField) (v : Nat) : (b.set f v).mem = b.mem := rfl
@[simp] theorem block_set_portA (f : RegField) (v : Nat) : (b.set f v).portA = b.portA := rfl
@[simp] theorem block_set_portB (f : RegField) (v : Nat) : (b.set f v).portB = b.portB := rfl
@[simp] theorem block_set_rings (f : RegField) (v : Nat) : (b.set f v).rings = b.rings := rfl
@[simp] theorem block_set_dbSeq (f : RegField) (v : Nat) : (b.set f v).dbSeq = b.dbSeq := rfl
@[simp] theorem block_set_dbA (f : RegField) (v : Nat) : (b.set f v).dbA = b.dbA := rfl
@[simp] theorem block_set_dbB (f : RegField) (v : Nat) : (b.set f v).dbB = b.dbB := rfl
@[simp] theorem block_set_mail (f : RegField) (v : Nat) : (b.set f v).mail = b.mail := rfl
@[simp] theorem block_set_seq (f : RegField) (v : Nat) : (b.set f v).seq = b.seq := rfl
@[simp] theorem block_set_irq (f : RegField) (v : Nat) : (b.set f v).irq = b.irq := rfl
@[simp] theorem block_set_nv (f : RegField) (v : Nat) : (b.set f v).nv = b.nv := rfl
@[simp] theorem block_set_power (f : RegField) (v : Nat) : (b.set f v).power = b.power := rfl
@[simp] theorem block_set_clock (f : RegField) (v : Nat) : (b.set f v).clock = b.clock := rfl
@[simp] theorem block_set_img (f : RegField) (v : Nat) : (b.set f v).img = b.img := rfl
@[simp] theorem block_set_brk (f : RegField) (v : Nat) : (b.set f v).brk = b.brk := rfl
@[simp] theorem block_set_shut (f : RegField) (v : Nat) : (b.set f v).shut = b.shut := rfl
@[simp] theorem block_set_night (f : RegField) (v : Nat) : (b.set f v).night = b.night := rfl
@[simp] theorem block_set_zones (f : RegField) (v : Nat) : (b.set f v).zones = b.zones := rfl
@[simp] theorem block_set_sched (f : RegField) (v : Nat) : (b.set f v).sched = b.sched := rfl
@[simp] theorem block_set_valves (f : RegField) (v : Nat) : (b.set f v).valves = b.valves := rfl
@[simp] theorem block_set_lamps (f : RegField) (v : Nat) : (b.set f v).lamps = b.lamps := rfl
@[simp] theorem block_set_txn (f : RegField) (v : Nat) : (b.set f v).txn = b.txn := rfl
@[simp] theorem block_set_overlay (f : RegField) (v : Nat) : (b.set f v).overlay = b.overlay := rfl
@[simp] theorem block_set_tap (f : RegField) (v : Nat) : (b.set f v).tap = b.tap := rfl
@[simp] theorem block_set_mp (f : RegField) (v : Nat) : (b.set f v).mp = b.mp := rfl
@[simp] theorem block_set_thermal (f : RegField) (v : Nat) : (b.set f v).thermal = b.thermal := rfl
@[simp] theorem block_set_out (f : RegField) (v : Nat) : (b.set f v).out = b.out := rfl

/-! ### Block.setFlag -/

@[simp] theorem block_setFlag_now (f : RegField) (v : Bool) : (b.setFlag f v).now = b.now := rfl
@[simp] theorem block_setFlag_free (f : RegField) (v : Bool) : (b.setFlag f v).free = b.free := rfl
@[simp] theorem block_setFlag_undef (f : RegField) (v : Bool) : (b.setFlag f v).undef = b.undef := rfl
@[simp] theorem block_setFlag_regs (f : RegField) (v : Bool) : (b.setFlag f v).regs = b.regs.setIfInBounds f.idx (f.put (b.word f.idx) (bit v)) := rfl
@[simp] theorem block_setFlag_mem (f : RegField) (v : Bool) : (b.setFlag f v).mem = b.mem := rfl
@[simp] theorem block_setFlag_portA (f : RegField) (v : Bool) : (b.setFlag f v).portA = b.portA := rfl
@[simp] theorem block_setFlag_portB (f : RegField) (v : Bool) : (b.setFlag f v).portB = b.portB := rfl
@[simp] theorem block_setFlag_rings (f : RegField) (v : Bool) : (b.setFlag f v).rings = b.rings := rfl
@[simp] theorem block_setFlag_dbSeq (f : RegField) (v : Bool) : (b.setFlag f v).dbSeq = b.dbSeq := rfl
@[simp] theorem block_setFlag_dbA (f : RegField) (v : Bool) : (b.setFlag f v).dbA = b.dbA := rfl
@[simp] theorem block_setFlag_dbB (f : RegField) (v : Bool) : (b.setFlag f v).dbB = b.dbB := rfl
@[simp] theorem block_setFlag_mail (f : RegField) (v : Bool) : (b.setFlag f v).mail = b.mail := rfl
@[simp] theorem block_setFlag_seq (f : RegField) (v : Bool) : (b.setFlag f v).seq = b.seq := rfl
@[simp] theorem block_setFlag_irq (f : RegField) (v : Bool) : (b.setFlag f v).irq = b.irq := rfl
@[simp] theorem block_setFlag_nv (f : RegField) (v : Bool) : (b.setFlag f v).nv = b.nv := rfl
@[simp] theorem block_setFlag_power (f : RegField) (v : Bool) : (b.setFlag f v).power = b.power := rfl
@[simp] theorem block_setFlag_clock (f : RegField) (v : Bool) : (b.setFlag f v).clock = b.clock := rfl
@[simp] theorem block_setFlag_img (f : RegField) (v : Bool) : (b.setFlag f v).img = b.img := rfl
@[simp] theorem block_setFlag_brk (f : RegField) (v : Bool) : (b.setFlag f v).brk = b.brk := rfl
@[simp] theorem block_setFlag_shut (f : RegField) (v : Bool) : (b.setFlag f v).shut = b.shut := rfl
@[simp] theorem block_setFlag_night (f : RegField) (v : Bool) : (b.setFlag f v).night = b.night := rfl
@[simp] theorem block_setFlag_zones (f : RegField) (v : Bool) : (b.setFlag f v).zones = b.zones := rfl
@[simp] theorem block_setFlag_sched (f : RegField) (v : Bool) : (b.setFlag f v).sched = b.sched := rfl
@[simp] theorem block_setFlag_valves (f : RegField) (v : Bool) : (b.setFlag f v).valves = b.valves := rfl
@[simp] theorem block_setFlag_lamps (f : RegField) (v : Bool) : (b.setFlag f v).lamps = b.lamps := rfl
@[simp] theorem block_setFlag_txn (f : RegField) (v : Bool) : (b.setFlag f v).txn = b.txn := rfl
@[simp] theorem block_setFlag_overlay (f : RegField) (v : Bool) : (b.setFlag f v).overlay = b.overlay := rfl
@[simp] theorem block_setFlag_tap (f : RegField) (v : Bool) : (b.setFlag f v).tap = b.tap := rfl
@[simp] theorem block_setFlag_mp (f : RegField) (v : Bool) : (b.setFlag f v).mp = b.mp := rfl
@[simp] theorem block_setFlag_thermal (f : RegField) (v : Bool) : (b.setFlag f v).thermal = b.thermal := rfl
@[simp] theorem block_setFlag_out (f : RegField) (v : Bool) : (b.setFlag f v).out = b.out := rfl

/-! ### Block.add -/

@[simp] theorem block_add_now (f : RegField) (n : Nat) : (b.add f n).now = b.now := rfl
@[simp] theorem block_add_free (f : RegField) (n : Nat) : (b.add f n).free = b.free := rfl
@[simp] theorem block_add_undef (f : RegField) (n : Nat) : (b.add f n).undef = b.undef := rfl
@[simp] theorem block_add_regs (f : RegField) (n : Nat) : (b.add f n).regs = b.regs.setIfInBounds f.idx (f.put (b.word f.idx) (min f.top (b.get f + n))) := rfl
@[simp] theorem block_add_mem (f : RegField) (n : Nat) : (b.add f n).mem = b.mem := rfl
@[simp] theorem block_add_portA (f : RegField) (n : Nat) : (b.add f n).portA = b.portA := rfl
@[simp] theorem block_add_portB (f : RegField) (n : Nat) : (b.add f n).portB = b.portB := rfl
@[simp] theorem block_add_rings (f : RegField) (n : Nat) : (b.add f n).rings = b.rings := rfl
@[simp] theorem block_add_dbSeq (f : RegField) (n : Nat) : (b.add f n).dbSeq = b.dbSeq := rfl
@[simp] theorem block_add_dbA (f : RegField) (n : Nat) : (b.add f n).dbA = b.dbA := rfl
@[simp] theorem block_add_dbB (f : RegField) (n : Nat) : (b.add f n).dbB = b.dbB := rfl
@[simp] theorem block_add_mail (f : RegField) (n : Nat) : (b.add f n).mail = b.mail := rfl
@[simp] theorem block_add_seq (f : RegField) (n : Nat) : (b.add f n).seq = b.seq := rfl
@[simp] theorem block_add_irq (f : RegField) (n : Nat) : (b.add f n).irq = b.irq := rfl
@[simp] theorem block_add_nv (f : RegField) (n : Nat) : (b.add f n).nv = b.nv := rfl
@[simp] theorem block_add_power (f : RegField) (n : Nat) : (b.add f n).power = b.power := rfl
@[simp] theorem block_add_clock (f : RegField) (n : Nat) : (b.add f n).clock = b.clock := rfl
@[simp] theorem block_add_img (f : RegField) (n : Nat) : (b.add f n).img = b.img := rfl
@[simp] theorem block_add_brk (f : RegField) (n : Nat) : (b.add f n).brk = b.brk := rfl
@[simp] theorem block_add_shut (f : RegField) (n : Nat) : (b.add f n).shut = b.shut := rfl
@[simp] theorem block_add_night (f : RegField) (n : Nat) : (b.add f n).night = b.night := rfl
@[simp] theorem block_add_zones (f : RegField) (n : Nat) : (b.add f n).zones = b.zones := rfl
@[simp] theorem block_add_sched (f : RegField) (n : Nat) : (b.add f n).sched = b.sched := rfl
@[simp] theorem block_add_valves (f : RegField) (n : Nat) : (b.add f n).valves = b.valves := rfl
@[simp] theorem block_add_lamps (f : RegField) (n : Nat) : (b.add f n).lamps = b.lamps := rfl
@[simp] theorem block_add_txn (f : RegField) (n : Nat) : (b.add f n).txn = b.txn := rfl
@[simp] theorem block_add_overlay (f : RegField) (n : Nat) : (b.add f n).overlay = b.overlay := rfl
@[simp] theorem block_add_tap (f : RegField) (n : Nat) : (b.add f n).tap = b.tap := rfl
@[simp] theorem block_add_mp (f : RegField) (n : Nat) : (b.add f n).mp = b.mp := rfl
@[simp] theorem block_add_thermal (f : RegField) (n : Nat) : (b.add f n).thermal = b.thermal := rfl
@[simp] theorem block_add_out (f : RegField) (n : Nat) : (b.add f n).out = b.out := rfl

/-! ### Block.inc -/

@[simp] theorem block_inc_now (f : RegField) : (b.inc f).now = b.now := rfl
@[simp] theorem block_inc_free (f : RegField) : (b.inc f).free = b.free := rfl
@[simp] theorem block_inc_undef (f : RegField) : (b.inc f).undef = b.undef := rfl
@[simp] theorem block_inc_regs (f : RegField) : (b.inc f).regs = b.regs.setIfInBounds f.idx (f.put (b.word f.idx) (min f.top (b.get f + 1))) := rfl
@[simp] theorem block_inc_mem (f : RegField) : (b.inc f).mem = b.mem := rfl
@[simp] theorem block_inc_portA (f : RegField) : (b.inc f).portA = b.portA := rfl
@[simp] theorem block_inc_portB (f : RegField) : (b.inc f).portB = b.portB := rfl
@[simp] theorem block_inc_rings (f : RegField) : (b.inc f).rings = b.rings := rfl
@[simp] theorem block_inc_dbSeq (f : RegField) : (b.inc f).dbSeq = b.dbSeq := rfl
@[simp] theorem block_inc_dbA (f : RegField) : (b.inc f).dbA = b.dbA := rfl
@[simp] theorem block_inc_dbB (f : RegField) : (b.inc f).dbB = b.dbB := rfl
@[simp] theorem block_inc_mail (f : RegField) : (b.inc f).mail = b.mail := rfl
@[simp] theorem block_inc_seq (f : RegField) : (b.inc f).seq = b.seq := rfl
@[simp] theorem block_inc_irq (f : RegField) : (b.inc f).irq = b.irq := rfl
@[simp] theorem block_inc_nv (f : RegField) : (b.inc f).nv = b.nv := rfl
@[simp] theorem block_inc_power (f : RegField) : (b.inc f).power = b.power := rfl
@[simp] theorem block_inc_clock (f : RegField) : (b.inc f).clock = b.clock := rfl
@[simp] theorem block_inc_img (f : RegField) : (b.inc f).img = b.img := rfl
@[simp] theorem block_inc_brk (f : RegField) : (b.inc f).brk = b.brk := rfl
@[simp] theorem block_inc_shut (f : RegField) : (b.inc f).shut = b.shut := rfl
@[simp] theorem block_inc_night (f : RegField) : (b.inc f).night = b.night := rfl
@[simp] theorem block_inc_zones (f : RegField) : (b.inc f).zones = b.zones := rfl
@[simp] theorem block_inc_sched (f : RegField) : (b.inc f).sched = b.sched := rfl
@[simp] theorem block_inc_valves (f : RegField) : (b.inc f).valves = b.valves := rfl
@[simp] theorem block_inc_lamps (f : RegField) : (b.inc f).lamps = b.lamps := rfl
@[simp] theorem block_inc_txn (f : RegField) : (b.inc f).txn = b.txn := rfl
@[simp] theorem block_inc_overlay (f : RegField) : (b.inc f).overlay = b.overlay := rfl
@[simp] theorem block_inc_tap (f : RegField) : (b.inc f).tap = b.tap := rfl
@[simp] theorem block_inc_mp (f : RegField) : (b.inc f).mp = b.mp := rfl
@[simp] theorem block_inc_thermal (f : RegField) : (b.inc f).thermal = b.thermal := rfl
@[simp] theorem block_inc_out (f : RegField) : (b.inc f).out = b.out := rfl

/-! ### Block.setBit -/

@[simp] theorem block_setBit_now (f : RegField) (i : Nat) : (b.setBit f i).now = b.now := rfl
@[simp] theorem block_setBit_free (f : RegField) (i : Nat) : (b.setBit f i).free = b.free := rfl
@[simp] theorem block_setBit_undef (f : RegField) (i : Nat) : (b.setBit f i).undef = b.undef := rfl
@[simp] theorem block_setBit_regs (f : RegField) (i : Nat) : (b.setBit f i).regs = b.regs.setIfInBounds f.idx (f.put (b.word f.idx) (orBit (b.get f) i)) := rfl
@[simp] theorem block_setBit_mem (f : RegField) (i : Nat) : (b.setBit f i).mem = b.mem := rfl
@[simp] theorem block_setBit_portA (f : RegField) (i : Nat) : (b.setBit f i).portA = b.portA := rfl
@[simp] theorem block_setBit_portB (f : RegField) (i : Nat) : (b.setBit f i).portB = b.portB := rfl
@[simp] theorem block_setBit_rings (f : RegField) (i : Nat) : (b.setBit f i).rings = b.rings := rfl
@[simp] theorem block_setBit_dbSeq (f : RegField) (i : Nat) : (b.setBit f i).dbSeq = b.dbSeq := rfl
@[simp] theorem block_setBit_dbA (f : RegField) (i : Nat) : (b.setBit f i).dbA = b.dbA := rfl
@[simp] theorem block_setBit_dbB (f : RegField) (i : Nat) : (b.setBit f i).dbB = b.dbB := rfl
@[simp] theorem block_setBit_mail (f : RegField) (i : Nat) : (b.setBit f i).mail = b.mail := rfl
@[simp] theorem block_setBit_seq (f : RegField) (i : Nat) : (b.setBit f i).seq = b.seq := rfl
@[simp] theorem block_setBit_irq (f : RegField) (i : Nat) : (b.setBit f i).irq = b.irq := rfl
@[simp] theorem block_setBit_nv (f : RegField) (i : Nat) : (b.setBit f i).nv = b.nv := rfl
@[simp] theorem block_setBit_power (f : RegField) (i : Nat) : (b.setBit f i).power = b.power := rfl
@[simp] theorem block_setBit_clock (f : RegField) (i : Nat) : (b.setBit f i).clock = b.clock := rfl
@[simp] theorem block_setBit_img (f : RegField) (i : Nat) : (b.setBit f i).img = b.img := rfl
@[simp] theorem block_setBit_brk (f : RegField) (i : Nat) : (b.setBit f i).brk = b.brk := rfl
@[simp] theorem block_setBit_shut (f : RegField) (i : Nat) : (b.setBit f i).shut = b.shut := rfl
@[simp] theorem block_setBit_night (f : RegField) (i : Nat) : (b.setBit f i).night = b.night := rfl
@[simp] theorem block_setBit_zones (f : RegField) (i : Nat) : (b.setBit f i).zones = b.zones := rfl
@[simp] theorem block_setBit_sched (f : RegField) (i : Nat) : (b.setBit f i).sched = b.sched := rfl
@[simp] theorem block_setBit_valves (f : RegField) (i : Nat) : (b.setBit f i).valves = b.valves := rfl
@[simp] theorem block_setBit_lamps (f : RegField) (i : Nat) : (b.setBit f i).lamps = b.lamps := rfl
@[simp] theorem block_setBit_txn (f : RegField) (i : Nat) : (b.setBit f i).txn = b.txn := rfl
@[simp] theorem block_setBit_overlay (f : RegField) (i : Nat) : (b.setBit f i).overlay = b.overlay := rfl
@[simp] theorem block_setBit_tap (f : RegField) (i : Nat) : (b.setBit f i).tap = b.tap := rfl
@[simp] theorem block_setBit_mp (f : RegField) (i : Nat) : (b.setBit f i).mp = b.mp := rfl
@[simp] theorem block_setBit_thermal (f : RegField) (i : Nat) : (b.setBit f i).thermal = b.thermal := rfl
@[simp] theorem block_setBit_out (f : RegField) (i : Nat) : (b.setBit f i).out = b.out := rfl

/-! ### Block.clearBit -/

@[simp] theorem block_clearBit_now (f : RegField) (i : Nat) : (b.clearBit f i).now = b.now := rfl
@[simp] theorem block_clearBit_free (f : RegField) (i : Nat) : (b.clearBit f i).free = b.free := rfl
@[simp] theorem block_clearBit_undef (f : RegField) (i : Nat) : (b.clearBit f i).undef = b.undef := rfl
@[simp] theorem block_clearBit_regs (f : RegField) (i : Nat) : (b.clearBit f i).regs = b.regs.setIfInBounds f.idx (f.put (b.word f.idx) (clrBit (b.get f) i)) := rfl
@[simp] theorem block_clearBit_mem (f : RegField) (i : Nat) : (b.clearBit f i).mem = b.mem := rfl
@[simp] theorem block_clearBit_portA (f : RegField) (i : Nat) : (b.clearBit f i).portA = b.portA := rfl
@[simp] theorem block_clearBit_portB (f : RegField) (i : Nat) : (b.clearBit f i).portB = b.portB := rfl
@[simp] theorem block_clearBit_rings (f : RegField) (i : Nat) : (b.clearBit f i).rings = b.rings := rfl
@[simp] theorem block_clearBit_dbSeq (f : RegField) (i : Nat) : (b.clearBit f i).dbSeq = b.dbSeq := rfl
@[simp] theorem block_clearBit_dbA (f : RegField) (i : Nat) : (b.clearBit f i).dbA = b.dbA := rfl
@[simp] theorem block_clearBit_dbB (f : RegField) (i : Nat) : (b.clearBit f i).dbB = b.dbB := rfl
@[simp] theorem block_clearBit_mail (f : RegField) (i : Nat) : (b.clearBit f i).mail = b.mail := rfl
@[simp] theorem block_clearBit_seq (f : RegField) (i : Nat) : (b.clearBit f i).seq = b.seq := rfl
@[simp] theorem block_clearBit_irq (f : RegField) (i : Nat) : (b.clearBit f i).irq = b.irq := rfl
@[simp] theorem block_clearBit_nv (f : RegField) (i : Nat) : (b.clearBit f i).nv = b.nv := rfl
@[simp] theorem block_clearBit_power (f : RegField) (i : Nat) : (b.clearBit f i).power = b.power := rfl
@[simp] theorem block_clearBit_clock (f : RegField) (i : Nat) : (b.clearBit f i).clock = b.clock := rfl
@[simp] theorem block_clearBit_img (f : RegField) (i : Nat) : (b.clearBit f i).img = b.img := rfl
@[simp] theorem block_clearBit_brk (f : RegField) (i : Nat) : (b.clearBit f i).brk = b.brk := rfl
@[simp] theorem block_clearBit_shut (f : RegField) (i : Nat) : (b.clearBit f i).shut = b.shut := rfl
@[simp] theorem block_clearBit_night (f : RegField) (i : Nat) : (b.clearBit f i).night = b.night := rfl
@[simp] theorem block_clearBit_zones (f : RegField) (i : Nat) : (b.clearBit f i).zones = b.zones := rfl
@[simp] theorem block_clearBit_sched (f : RegField) (i : Nat) : (b.clearBit f i).sched = b.sched := rfl
@[simp] theorem block_clearBit_valves (f : RegField) (i : Nat) : (b.clearBit f i).valves = b.valves := rfl
@[simp] theorem block_clearBit_lamps (f : RegField) (i : Nat) : (b.clearBit f i).lamps = b.lamps := rfl
@[simp] theorem block_clearBit_txn (f : RegField) (i : Nat) : (b.clearBit f i).txn = b.txn := rfl
@[simp] theorem block_clearBit_overlay (f : RegField) (i : Nat) : (b.clearBit f i).overlay = b.overlay := rfl
@[simp] theorem block_clearBit_tap (f : RegField) (i : Nat) : (b.clearBit f i).tap = b.tap := rfl
@[simp] theorem block_clearBit_mp (f : RegField) (i : Nat) : (b.clearBit f i).mp = b.mp := rfl
@[simp] theorem block_clearBit_thermal (f : RegField) (i : Nat) : (b.clearBit f i).thermal = b.thermal := rfl
@[simp] theorem block_clearBit_out (f : RegField) (i : Nat) : (b.clearBit f i).out = b.out := rfl

/-! ### Block.store -/

@[simp] theorem block_store_now (a : Nat) (bs : List Byte) : (b.store a bs).now = b.now := rfl
@[simp] theorem block_store_free (a : Nat) (bs : List Byte) : (b.store a bs).free = b.free := rfl
@[simp] theorem block_store_undef (a : Nat) (bs : List Byte) : (b.store a bs).undef = b.undef := rfl
@[simp] theorem block_store_regs (a : Nat) (bs : List Byte) : (b.store a bs).regs = b.regs := rfl
@[simp] theorem block_store_mem (a : Nat) (bs : List Byte) : (b.store a bs).mem = Mem.writeBytes 0#8 b.mem a bs := rfl
@[simp] theorem block_store_portA (a : Nat) (bs : List Byte) : (b.store a bs).portA = b.portA := rfl
@[simp] theorem block_store_portB (a : Nat) (bs : List Byte) : (b.store a bs).portB = b.portB := rfl
@[simp] theorem block_store_rings (a : Nat) (bs : List Byte) : (b.store a bs).rings = b.rings := rfl
@[simp] theorem block_store_dbSeq (a : Nat) (bs : List Byte) : (b.store a bs).dbSeq = b.dbSeq := rfl
@[simp] theorem block_store_dbA (a : Nat) (bs : List Byte) : (b.store a bs).dbA = b.dbA := rfl
@[simp] theorem block_store_dbB (a : Nat) (bs : List Byte) : (b.store a bs).dbB = b.dbB := rfl
@[simp] theorem block_store_mail (a : Nat) (bs : List Byte) : (b.store a bs).mail = b.mail := rfl
@[simp] theorem block_store_seq (a : Nat) (bs : List Byte) : (b.store a bs).seq = b.seq := rfl
@[simp] theorem block_store_irq (a : Nat) (bs : List Byte) : (b.store a bs).irq = b.irq := rfl
@[simp] theorem block_store_nv (a : Nat) (bs : List Byte) : (b.store a bs).nv = b.nv := rfl
@[simp] theorem block_store_power (a : Nat) (bs : List Byte) : (b.store a bs).power = b.power := rfl
@[simp] theorem block_store_clock (a : Nat) (bs : List Byte) : (b.store a bs).clock = b.clock := rfl
@[simp] theorem block_store_img (a : Nat) (bs : List Byte) : (b.store a bs).img = b.img := rfl
@[simp] theorem block_store_brk (a : Nat) (bs : List Byte) : (b.store a bs).brk = b.brk := rfl
@[simp] theorem block_store_shut (a : Nat) (bs : List Byte) : (b.store a bs).shut = b.shut := rfl
@[simp] theorem block_store_night (a : Nat) (bs : List Byte) : (b.store a bs).night = b.night := rfl
@[simp] theorem block_store_zones (a : Nat) (bs : List Byte) : (b.store a bs).zones = b.zones := rfl
@[simp] theorem block_store_sched (a : Nat) (bs : List Byte) : (b.store a bs).sched = b.sched := rfl
@[simp] theorem block_store_valves (a : Nat) (bs : List Byte) : (b.store a bs).valves = b.valves := rfl
@[simp] theorem block_store_lamps (a : Nat) (bs : List Byte) : (b.store a bs).lamps = b.lamps := rfl
@[simp] theorem block_store_txn (a : Nat) (bs : List Byte) : (b.store a bs).txn = b.txn := rfl
@[simp] theorem block_store_overlay (a : Nat) (bs : List Byte) : (b.store a bs).overlay = b.overlay := rfl
@[simp] theorem block_store_tap (a : Nat) (bs : List Byte) : (b.store a bs).tap = b.tap := rfl
@[simp] theorem block_store_mp (a : Nat) (bs : List Byte) : (b.store a bs).mp = b.mp := rfl
@[simp] theorem block_store_thermal (a : Nat) (bs : List Byte) : (b.store a bs).thermal = b.thermal := rfl
@[simp] theorem block_store_out (a : Nat) (bs : List Byte) : (b.store a bs).out = b.out := rfl

/-! ### Block.elapse -/

@[simp] theorem block_elapse_now (dt : Nat) : (b.elapse dt).now = b.now + dt := rfl
@[simp] theorem block_elapse_free (dt : Nat) : (b.elapse dt).free = b.free := rfl
@[simp] theorem block_elapse_undef (dt : Nat) : (b.elapse dt).undef = b.undef := rfl
@[simp] theorem block_elapse_regs (dt : Nat) : (b.elapse dt).regs = b.regs := rfl
@[simp] theorem block_elapse_mem (dt : Nat) : (b.elapse dt).mem = b.mem := rfl
@[simp] theorem block_elapse_portA (dt : Nat) : (b.elapse dt).portA = b.portA := rfl
@[simp] theorem block_elapse_portB (dt : Nat) : (b.elapse dt).portB = b.portB := rfl
@[simp] theorem block_elapse_rings (dt : Nat) : (b.elapse dt).rings = b.rings := rfl
@[simp] theorem block_elapse_dbSeq (dt : Nat) : (b.elapse dt).dbSeq = b.dbSeq := rfl
@[simp] theorem block_elapse_dbA (dt : Nat) : (b.elapse dt).dbA = b.dbA := rfl
@[simp] theorem block_elapse_dbB (dt : Nat) : (b.elapse dt).dbB = b.dbB := rfl
@[simp] theorem block_elapse_mail (dt : Nat) : (b.elapse dt).mail = b.mail := rfl
@[simp] theorem block_elapse_seq (dt : Nat) : (b.elapse dt).seq = b.seq := rfl
@[simp] theorem block_elapse_irq (dt : Nat) : (b.elapse dt).irq = b.irq := rfl
@[simp] theorem block_elapse_nv (dt : Nat) : (b.elapse dt).nv = b.nv := rfl
@[simp] theorem block_elapse_power (dt : Nat) : (b.elapse dt).power = b.power := rfl
@[simp] theorem block_elapse_clock (dt : Nat) : (b.elapse dt).clock = { b.clock with
    pt := if b.clock.ptRun then b.clock.pt + BitVec.ofNat 48 (b.clock.ptCounts dt).1 else b.clock.pt,
    ptRem := if b.clock.ptRun then (b.clock.ptCounts dt).2 else b.clock.ptRem } := rfl
@[simp] theorem block_elapse_img (dt : Nat) : (b.elapse dt).img = b.img := rfl
@[simp] theorem block_elapse_brk (dt : Nat) : (b.elapse dt).brk = b.brk := rfl
@[simp] theorem block_elapse_shut (dt : Nat) : (b.elapse dt).shut = b.shut := rfl
@[simp] theorem block_elapse_night (dt : Nat) : (b.elapse dt).night = b.night := rfl
@[simp] theorem block_elapse_zones (dt : Nat) : (b.elapse dt).zones = b.zones := rfl
@[simp] theorem block_elapse_sched (dt : Nat) : (b.elapse dt).sched = b.sched := rfl
@[simp] theorem block_elapse_valves (dt : Nat) : (b.elapse dt).valves = b.valves := rfl
@[simp] theorem block_elapse_lamps (dt : Nat) : (b.elapse dt).lamps = b.lamps := rfl
@[simp] theorem block_elapse_txn (dt : Nat) : (b.elapse dt).txn = b.txn := rfl
@[simp] theorem block_elapse_overlay (dt : Nat) : (b.elapse dt).overlay = b.overlay := rfl
@[simp] theorem block_elapse_tap (dt : Nat) : (b.elapse dt).tap = b.tap := rfl
@[simp] theorem block_elapse_mp (dt : Nat) : (b.elapse dt).mp = b.mp := rfl
@[simp] theorem block_elapse_thermal (dt : Nat) : (b.elapse dt).thermal = b.thermal := rfl
@[simp] theorem block_elapse_out (dt : Nat) : (b.elapse dt).out = b.out := rfl

/-! ### Block.clearPending -/

@[simp] theorem block_clearPending_now (k : Nat) : (b.clearPending k).now = b.now := rfl
@[simp] theorem block_clearPending_free (k : Nat) : (b.clearPending k).free = b.free := rfl
@[simp] theorem block_clearPending_undef (k : Nat) : (b.clearPending k).undef = b.undef := rfl
@[simp] theorem block_clearPending_regs (k : Nat) : (b.clearPending k).regs = b.regs := rfl
@[simp] theorem block_clearPending_mem (k : Nat) : (b.clearPending k).mem = b.mem := rfl
@[simp] theorem block_clearPending_portA (k : Nat) : (b.clearPending k).portA = b.portA := rfl
@[simp] theorem block_clearPending_portB (k : Nat) : (b.clearPending k).portB = b.portB := rfl
@[simp] theorem block_clearPending_rings (k : Nat) : (b.clearPending k).rings = b.rings := rfl
@[simp] theorem block_clearPending_dbSeq (k : Nat) : (b.clearPending k).dbSeq = b.dbSeq := rfl
@[simp] theorem block_clearPending_dbA (k : Nat) : (b.clearPending k).dbA = b.dbA := rfl
@[simp] theorem block_clearPending_dbB (k : Nat) : (b.clearPending k).dbB = b.dbB := rfl
@[simp] theorem block_clearPending_mail (k : Nat) : (b.clearPending k).mail = b.mail := rfl
@[simp] theorem block_clearPending_seq (k : Nat) : (b.clearPending k).seq = b.seq := rfl
@[simp] theorem block_clearPending_irq (k : Nat) : (b.clearPending k).irq = updAt b.irq k (fun x => { x with pending := false }) := rfl
@[simp] theorem block_clearPending_nv (k : Nat) : (b.clearPending k).nv = b.nv := rfl
@[simp] theorem block_clearPending_power (k : Nat) : (b.clearPending k).power = b.power := rfl
@[simp] theorem block_clearPending_clock (k : Nat) : (b.clearPending k).clock = b.clock := rfl
@[simp] theorem block_clearPending_img (k : Nat) : (b.clearPending k).img = b.img := rfl
@[simp] theorem block_clearPending_brk (k : Nat) : (b.clearPending k).brk = b.brk := rfl
@[simp] theorem block_clearPending_shut (k : Nat) : (b.clearPending k).shut = b.shut := rfl
@[simp] theorem block_clearPending_night (k : Nat) : (b.clearPending k).night = b.night := rfl
@[simp] theorem block_clearPending_zones (k : Nat) : (b.clearPending k).zones = b.zones := rfl
@[simp] theorem block_clearPending_sched (k : Nat) : (b.clearPending k).sched = b.sched := rfl
@[simp] theorem block_clearPending_valves (k : Nat) : (b.clearPending k).valves = b.valves := rfl
@[simp] theorem block_clearPending_lamps (k : Nat) : (b.clearPending k).lamps = b.lamps := rfl
@[simp] theorem block_clearPending_txn (k : Nat) : (b.clearPending k).txn = b.txn := rfl
@[simp] theorem block_clearPending_overlay (k : Nat) : (b.clearPending k).overlay = b.overlay := rfl
@[simp] theorem block_clearPending_tap (k : Nat) : (b.clearPending k).tap = b.tap := rfl
@[simp] theorem block_clearPending_mp (k : Nat) : (b.clearPending k).mp = b.mp := rfl
@[simp] theorem block_clearPending_thermal (k : Nat) : (b.clearPending k).thermal = b.thermal := rfl
@[simp] theorem block_clearPending_out (k : Nat) : (b.clearPending k).out = b.out := rfl

/-! ### Block.setRing -/

@[simp] theorem block_setRing_now (k : Nat) (r : Ring) : (b.setRing k r).now = b.now := rfl
@[simp] theorem block_setRing_free (k : Nat) (r : Ring) : (b.setRing k r).free = b.free := rfl
@[simp] theorem block_setRing_undef (k : Nat) (r : Ring) : (b.setRing k r).undef = b.undef := rfl
@[simp] theorem block_setRing_regs (k : Nat) (r : Ring) : (b.setRing k r).regs = b.regs := rfl
@[simp] theorem block_setRing_mem (k : Nat) (r : Ring) : (b.setRing k r).mem = b.mem := rfl
@[simp] theorem block_setRing_portA (k : Nat) (r : Ring) : (b.setRing k r).portA = b.portA := rfl
@[simp] theorem block_setRing_portB (k : Nat) (r : Ring) : (b.setRing k r).portB = b.portB := rfl
@[simp] theorem block_setRing_rings (k : Nat) (r : Ring) : (b.setRing k r).rings = b.rings.setIfInBounds k r := rfl
@[simp] theorem block_setRing_dbSeq (k : Nat) (r : Ring) : (b.setRing k r).dbSeq = b.dbSeq := rfl
@[simp] theorem block_setRing_dbA (k : Nat) (r : Ring) : (b.setRing k r).dbA = b.dbA := rfl
@[simp] theorem block_setRing_dbB (k : Nat) (r : Ring) : (b.setRing k r).dbB = b.dbB := rfl
@[simp] theorem block_setRing_mail (k : Nat) (r : Ring) : (b.setRing k r).mail = b.mail := rfl
@[simp] theorem block_setRing_seq (k : Nat) (r : Ring) : (b.setRing k r).seq = b.seq := rfl
@[simp] theorem block_setRing_irq (k : Nat) (r : Ring) : (b.setRing k r).irq = b.irq := rfl
@[simp] theorem block_setRing_nv (k : Nat) (r : Ring) : (b.setRing k r).nv = b.nv := rfl
@[simp] theorem block_setRing_power (k : Nat) (r : Ring) : (b.setRing k r).power = b.power := rfl
@[simp] theorem block_setRing_clock (k : Nat) (r : Ring) : (b.setRing k r).clock = b.clock := rfl
@[simp] theorem block_setRing_img (k : Nat) (r : Ring) : (b.setRing k r).img = b.img := rfl
@[simp] theorem block_setRing_brk (k : Nat) (r : Ring) : (b.setRing k r).brk = b.brk := rfl
@[simp] theorem block_setRing_shut (k : Nat) (r : Ring) : (b.setRing k r).shut = b.shut := rfl
@[simp] theorem block_setRing_night (k : Nat) (r : Ring) : (b.setRing k r).night = b.night := rfl
@[simp] theorem block_setRing_zones (k : Nat) (r : Ring) : (b.setRing k r).zones = b.zones := rfl
@[simp] theorem block_setRing_sched (k : Nat) (r : Ring) : (b.setRing k r).sched = b.sched := rfl
@[simp] theorem block_setRing_valves (k : Nat) (r : Ring) : (b.setRing k r).valves = b.valves := rfl
@[simp] theorem block_setRing_lamps (k : Nat) (r : Ring) : (b.setRing k r).lamps = b.lamps := rfl
@[simp] theorem block_setRing_txn (k : Nat) (r : Ring) : (b.setRing k r).txn = b.txn := rfl
@[simp] theorem block_setRing_overlay (k : Nat) (r : Ring) : (b.setRing k r).overlay = b.overlay := rfl
@[simp] theorem block_setRing_tap (k : Nat) (r : Ring) : (b.setRing k r).tap = b.tap := rfl
@[simp] theorem block_setRing_mp (k : Nat) (r : Ring) : (b.setRing k r).mp = b.mp := rfl
@[simp] theorem block_setRing_thermal (k : Nat) (r : Ring) : (b.setRing k r).thermal = b.thermal := rfl
@[simp] theorem block_setRing_out (k : Nat) (r : Ring) : (b.setRing k r).out = b.out := rfl

/-! ### Block.setChan -/

@[simp] theorem block_setChan_now (c : Nat) (ch : Channel) : (b.setChan c ch).now = b.now := rfl
@[simp] theorem block_setChan_free (c : Nat) (ch : Channel) : (b.setChan c ch).free = b.free := rfl
@[simp] theorem block_setChan_undef (c : Nat) (ch : Channel) : (b.setChan c ch).undef = b.undef := rfl
@[simp] theorem block_setChan_regs (c : Nat) (ch : Channel) : (b.setChan c ch).regs = b.regs := rfl
@[simp] theorem block_setChan_mem (c : Nat) (ch : Channel) : (b.setChan c ch).mem = b.mem := rfl
@[simp] theorem block_setChan_portA (c : Nat) (ch : Channel) : (b.setChan c ch).portA = b.portA := rfl
@[simp] theorem block_setChan_portB (c : Nat) (ch : Channel) : (b.setChan c ch).portB = b.portB := rfl
@[simp] theorem block_setChan_rings (c : Nat) (ch : Channel) : (b.setChan c ch).rings = b.rings := rfl
@[simp] theorem block_setChan_dbSeq (c : Nat) (ch : Channel) : (b.setChan c ch).dbSeq = b.dbSeq := rfl
@[simp] theorem block_setChan_dbA (c : Nat) (ch : Channel) : (b.setChan c ch).dbA = b.dbA := rfl
@[simp] theorem block_setChan_dbB (c : Nat) (ch : Channel) : (b.setChan c ch).dbB = b.dbB := rfl
@[simp] theorem block_setChan_mail (c : Nat) (ch : Channel) : (b.setChan c ch).mail = { b.mail with chans := b.mail.chans.setIfInBounds c ch } := rfl
@[simp] theorem block_setChan_seq (c : Nat) (ch : Channel) : (b.setChan c ch).seq = b.seq := rfl
@[simp] theorem block_setChan_irq (c : Nat) (ch : Channel) : (b.setChan c ch).irq = b.irq := rfl
@[simp] theorem block_setChan_nv (c : Nat) (ch : Channel) : (b.setChan c ch).nv = b.nv := rfl
@[simp] theorem block_setChan_power (c : Nat) (ch : Channel) : (b.setChan c ch).power = b.power := rfl
@[simp] theorem block_setChan_clock (c : Nat) (ch : Channel) : (b.setChan c ch).clock = b.clock := rfl
@[simp] theorem block_setChan_img (c : Nat) (ch : Channel) : (b.setChan c ch).img = b.img := rfl
@[simp] theorem block_setChan_brk (c : Nat) (ch : Channel) : (b.setChan c ch).brk = b.brk := rfl
@[simp] theorem block_setChan_shut (c : Nat) (ch : Channel) : (b.setChan c ch).shut = b.shut := rfl
@[simp] theorem block_setChan_night (c : Nat) (ch : Channel) : (b.setChan c ch).night = b.night := rfl
@[simp] theorem block_setChan_zones (c : Nat) (ch : Channel) : (b.setChan c ch).zones = b.zones := rfl
@[simp] theorem block_setChan_sched (c : Nat) (ch : Channel) : (b.setChan c ch).sched = b.sched := rfl
@[simp] theorem block_setChan_valves (c : Nat) (ch : Channel) : (b.setChan c ch).valves = b.valves := rfl
@[simp] theorem block_setChan_lamps (c : Nat) (ch : Channel) : (b.setChan c ch).lamps = b.lamps := rfl
@[simp] theorem block_setChan_txn (c : Nat) (ch : Channel) : (b.setChan c ch).txn = b.txn := rfl
@[simp] theorem block_setChan_overlay (c : Nat) (ch : Channel) : (b.setChan c ch).overlay = b.overlay := rfl
@[simp] theorem block_setChan_tap (c : Nat) (ch : Channel) : (b.setChan c ch).tap = b.tap := rfl
@[simp] theorem block_setChan_mp (c : Nat) (ch : Channel) : (b.setChan c ch).mp = b.mp := rfl
@[simp] theorem block_setChan_thermal (c : Nat) (ch : Channel) : (b.setChan c ch).thermal = b.thermal := rfl
@[simp] theorem block_setChan_out (c : Nat) (ch : Channel) : (b.setChan c ch).out = b.out := rfl

/-! ### Block.gatesOff -/

@[simp] theorem block_gatesOff_now : (b.gatesOff).now = b.now := rfl
@[simp] theorem block_gatesOff_free : (b.gatesOff).free = b.free := rfl
@[simp] theorem block_gatesOff_undef : (b.gatesOff).undef = b.undef := rfl
@[simp] theorem block_gatesOff_regs : (b.gatesOff).regs = b.regs := rfl
@[simp] theorem block_gatesOff_mem : (b.gatesOff).mem = b.mem := rfl
@[simp] theorem block_gatesOff_portA : (b.gatesOff).portA = b.portA := rfl
@[simp] theorem block_gatesOff_portB : (b.gatesOff).portB = b.portB := rfl
@[simp] theorem block_gatesOff_rings : (b.gatesOff).rings = b.rings := rfl
@[simp] theorem block_gatesOff_dbSeq : (b.gatesOff).dbSeq = b.dbSeq := rfl
@[simp] theorem block_gatesOff_dbA : (b.gatesOff).dbA = b.dbA := rfl
@[simp] theorem block_gatesOff_dbB : (b.gatesOff).dbB = b.dbB := rfl
@[simp] theorem block_gatesOff_mail : (b.gatesOff).mail = b.mail := rfl
@[simp] theorem block_gatesOff_seq : (b.gatesOff).seq = b.seq := rfl
@[simp] theorem block_gatesOff_irq : (b.gatesOff).irq = b.irq := rfl
@[simp] theorem block_gatesOff_nv : (b.gatesOff).nv = b.nv := rfl
@[simp] theorem block_gatesOff_power : (b.gatesOff).power = b.power := rfl
@[simp] theorem block_gatesOff_clock : (b.gatesOff).clock = b.clock := rfl
@[simp] theorem block_gatesOff_img : (b.gatesOff).img = b.img := rfl
@[simp] theorem block_gatesOff_brk : (b.gatesOff).brk = b.brk := rfl
@[simp] theorem block_gatesOff_shut : (b.gatesOff).shut = { b.shut with pulse := none, braking := false, waiting := [] } := rfl
@[simp] theorem block_gatesOff_night : (b.gatesOff).night = b.night := rfl
@[simp] theorem block_gatesOff_zones : (b.gatesOff).zones = b.zones := rfl
@[simp] theorem block_gatesOff_sched : (b.gatesOff).sched = b.sched := rfl
@[simp] theorem block_gatesOff_txn : (b.gatesOff).txn = b.txn := rfl
@[simp] theorem block_gatesOff_overlay : (b.gatesOff).overlay = b.overlay := rfl
@[simp] theorem block_gatesOff_tap : (b.gatesOff).tap = b.tap := rfl
@[simp] theorem block_gatesOff_mp : (b.gatesOff).mp = b.mp := rfl
@[simp] theorem block_gatesOff_thermal : (b.gatesOff).thermal = b.thermal := rfl
@[simp] theorem block_gatesOff_out : (b.gatesOff).out = b.out := rfl

/-! ### Block.enterUndef -/

@[simp] theorem block_enterUndef_now (c : UndefCase) : (b.enterUndef c).now = b.now := rfl
@[simp] theorem block_enterUndef_free (c : UndefCase) : (b.enterUndef c).free = b.free := rfl
@[simp] theorem block_enterUndef_undef (c : UndefCase) : (b.enterUndef c).undef = some c := rfl
@[simp] theorem block_enterUndef_regs (c : UndefCase) : (b.enterUndef c).regs = b.regs := rfl
@[simp] theorem block_enterUndef_mem (c : UndefCase) : (b.enterUndef c).mem = b.mem := rfl
@[simp] theorem block_enterUndef_portA (c : UndefCase) : (b.enterUndef c).portA = b.portA := rfl
@[simp] theorem block_enterUndef_portB (c : UndefCase) : (b.enterUndef c).portB = b.portB := rfl
@[simp] theorem block_enterUndef_rings (c : UndefCase) : (b.enterUndef c).rings = b.rings := rfl
@[simp] theorem block_enterUndef_dbSeq (c : UndefCase) : (b.enterUndef c).dbSeq = b.dbSeq := rfl
@[simp] theorem block_enterUndef_dbA (c : UndefCase) : (b.enterUndef c).dbA = b.dbA := rfl
@[simp] theorem block_enterUndef_dbB (c : UndefCase) : (b.enterUndef c).dbB = b.dbB := rfl
@[simp] theorem block_enterUndef_mail (c : UndefCase) : (b.enterUndef c).mail = b.mail := rfl
@[simp] theorem block_enterUndef_seq (c : UndefCase) : (b.enterUndef c).seq = b.seq := rfl
@[simp] theorem block_enterUndef_irq (c : UndefCase) : (b.enterUndef c).irq = b.irq := rfl
@[simp] theorem block_enterUndef_nv (c : UndefCase) : (b.enterUndef c).nv = b.nv := rfl
@[simp] theorem block_enterUndef_power (c : UndefCase) : (b.enterUndef c).power = b.power := rfl
@[simp] theorem block_enterUndef_clock (c : UndefCase) : (b.enterUndef c).clock = b.clock := rfl
@[simp] theorem block_enterUndef_img (c : UndefCase) : (b.enterUndef c).img = b.img := rfl
@[simp] theorem block_enterUndef_brk (c : UndefCase) : (b.enterUndef c).brk = b.brk := rfl
@[simp] theorem block_enterUndef_shut (c : UndefCase) : (b.enterUndef c).shut = b.gatesOff.shut := rfl
@[simp] theorem block_enterUndef_night (c : UndefCase) : (b.enterUndef c).night = b.night := rfl
@[simp] theorem block_enterUndef_zones (c : UndefCase) : (b.enterUndef c).zones = b.zones := rfl
@[simp] theorem block_enterUndef_sched (c : UndefCase) : (b.enterUndef c).sched = b.sched := rfl
@[simp] theorem block_enterUndef_valves (c : UndefCase) : (b.enterUndef c).valves = b.gatesOff.valves := rfl
@[simp] theorem block_enterUndef_lamps (c : UndefCase) : (b.enterUndef c).lamps = b.gatesOff.lamps := rfl
@[simp] theorem block_enterUndef_txn (c : UndefCase) : (b.enterUndef c).txn = b.txn := rfl
@[simp] theorem block_enterUndef_overlay (c : UndefCase) : (b.enterUndef c).overlay = b.overlay := rfl
@[simp] theorem block_enterUndef_tap (c : UndefCase) : (b.enterUndef c).tap = b.tap := rfl
@[simp] theorem block_enterUndef_mp (c : UndefCase) : (b.enterUndef c).mp = b.mp := rfl
@[simp] theorem block_enterUndef_thermal (c : UndefCase) : (b.enterUndef c).thermal = b.thermal := rfl
@[simp] theorem block_enterUndef_out (c : UndefCase) : (b.enterUndef c).out = b.out := rfl

/-! ### Block.setPort -/

@[simp] theorem block_setPort_same (p : Port) (f : PortState → PortState) : (b.setPort p f).port p = f (b.port p) := by cases p <;> rfl
@[simp] theorem block_setPort_other (p : Port) (f : PortState → PortState) : (b.setPort p f).port p.other = b.port p.other := by
  cases p <;> rfl
@[simp] theorem block_setPort_now (p : Port) (f : PortState → PortState) : (b.setPort p f).now = b.now := by cases p <;> rfl
@[simp] theorem block_setPort_free (p : Port) (f : PortState → PortState) : (b.setPort p f).free = b.free := by cases p <;> rfl
@[simp] theorem block_setPort_undef (p : Port) (f : PortState → PortState) : (b.setPort p f).undef = b.undef := by cases p <;> rfl
@[simp] theorem block_setPort_regs (p : Port) (f : PortState → PortState) : (b.setPort p f).regs = b.regs := by cases p <;> rfl
@[simp] theorem block_setPort_mem (p : Port) (f : PortState → PortState) : (b.setPort p f).mem = b.mem := by cases p <;> rfl
@[simp] theorem block_setPort_rings (p : Port) (f : PortState → PortState) : (b.setPort p f).rings = b.rings := by cases p <;> rfl
@[simp] theorem block_setPort_dbSeq (p : Port) (f : PortState → PortState) : (b.setPort p f).dbSeq = b.dbSeq := by cases p <;> rfl
@[simp] theorem block_setPort_dbA (p : Port) (f : PortState → PortState) : (b.setPort p f).dbA = b.dbA := by cases p <;> rfl
@[simp] theorem block_setPort_dbB (p : Port) (f : PortState → PortState) : (b.setPort p f).dbB = b.dbB := by cases p <;> rfl
@[simp] theorem block_setPort_mail (p : Port) (f : PortState → PortState) : (b.setPort p f).mail = b.mail := by cases p <;> rfl
@[simp] theorem block_setPort_seq (p : Port) (f : PortState → PortState) : (b.setPort p f).seq = b.seq := by cases p <;> rfl
@[simp] theorem block_setPort_irq (p : Port) (f : PortState → PortState) : (b.setPort p f).irq = b.irq := by cases p <;> rfl
@[simp] theorem block_setPort_nv (p : Port) (f : PortState → PortState) : (b.setPort p f).nv = b.nv := by cases p <;> rfl
@[simp] theorem block_setPort_power (p : Port) (f : PortState → PortState) : (b.setPort p f).power = b.power := by cases p <;> rfl
@[simp] theorem block_setPort_clock (p : Port) (f : PortState → PortState) : (b.setPort p f).clock = b.clock := by cases p <;> rfl
@[simp] theorem block_setPort_img (p : Port) (f : PortState → PortState) : (b.setPort p f).img = b.img := by cases p <;> rfl
@[simp] theorem block_setPort_brk (p : Port) (f : PortState → PortState) : (b.setPort p f).brk = b.brk := by cases p <;> rfl
@[simp] theorem block_setPort_shut (p : Port) (f : PortState → PortState) : (b.setPort p f).shut = b.shut := by cases p <;> rfl
@[simp] theorem block_setPort_night (p : Port) (f : PortState → PortState) : (b.setPort p f).night = b.night := by cases p <;> rfl
@[simp] theorem block_setPort_zones (p : Port) (f : PortState → PortState) : (b.setPort p f).zones = b.zones := by cases p <;> rfl
@[simp] theorem block_setPort_sched (p : Port) (f : PortState → PortState) : (b.setPort p f).sched = b.sched := by cases p <;> rfl
@[simp] theorem block_setPort_valves (p : Port) (f : PortState → PortState) : (b.setPort p f).valves = b.valves := by cases p <;> rfl
@[simp] theorem block_setPort_lamps (p : Port) (f : PortState → PortState) : (b.setPort p f).lamps = b.lamps := by cases p <;> rfl
@[simp] theorem block_setPort_txn (p : Port) (f : PortState → PortState) : (b.setPort p f).txn = b.txn := by cases p <;> rfl
@[simp] theorem block_setPort_overlay (p : Port) (f : PortState → PortState) : (b.setPort p f).overlay = b.overlay := by cases p <;> rfl
@[simp] theorem block_setPort_tap (p : Port) (f : PortState → PortState) : (b.setPort p f).tap = b.tap := by cases p <;> rfl
@[simp] theorem block_setPort_mp (p : Port) (f : PortState → PortState) : (b.setPort p f).mp = b.mp := by cases p <;> rfl
@[simp] theorem block_setPort_thermal (p : Port) (f : PortState → PortState) : (b.setPort p f).thermal = b.thermal := by cases p <;> rfl
@[simp] theorem block_setPort_out (p : Port) (f : PortState → PortState) : (b.setPort p f).out = b.out := by cases p <;> rfl

end Sys2Proof.Laws
end

