-- ==== Sys2Proof/Laws/Regs.lean ====
section
/-! SUPPORT. Register fields: what is read after a field is stored. -/

namespace Sys2Proof.Laws

open Sys2Proof.Machine

/-- The field lies inside a word of the register file. -/
def fits (f : RegField) : Bool := decide (f.idx < 256) && decide (f.lo + f.width ≤ 32)

/-- The bits of a word after a field was put into it. -/
theorem put_getLsbD (f : RegField) (w : Word) (v i : Nat) (hf : f.lo + f.width ≤ 32) :
    (f.put w v).getLsbD i = if f.lo ≤ i ∧ i < f.lo + f.width then v.testBit (i - f.lo) else w.getLsbD i := by
  unfold RegField.put RegField.mask
  simp only [BitVec.getLsbD_or, BitVec.getLsbD_and, BitVec.getLsbD_not, BitVec.getLsbD_ofNat, Nat.testBit_mul_two_pow,
    Nat.testBit_two_pow_sub_one]
  by_cases h32 : i < 32
  · by_cases h1 : f.lo ≤ i <;> by_cases h2 : i - f.lo < f.width <;> by_cases h3 : i < f.lo + f.width <;>
      simp [h32, h1, h2, h3] <;> omega
  · have : ¬ i < f.lo + f.width := by omega
    have h' : w.getLsbD i = false := BitVec.getLsbD_of_ge w i (by omega)
    simp [h32, this, h']

/-- The bits of a field's value. -/
theorem get_testBit (f : RegField) (w : Word) (i : Nat) :
    (f.get w).testBit i = (decide (i < f.width) && w.getLsbD (f.lo + i)) := by
  unfold RegField.get
  rw [Nat.testBit_mod_two_pow, Nat.testBit_div_two_pow, ← BitVec.getLsbD, Nat.add_comm]

/-- A field that was put is read back. -/
theorem get_put_self (f : RegField) (w : Word) (v : Nat) (hf : f.lo + f.width ≤ 32) : f.get (f.put w v) = v % 2 ^ f.width := by
  apply Nat.eq_of_testBit_eq
  intro i
  rw [get_testBit, put_getLsbD f w v _ hf, Nat.testBit_mod_two_pow]
  by_cases h : i < f.width
  · have : f.lo ≤ f.lo + i ∧ f.lo + i < f.lo + f.width := by omega
    simp [h]
  · simp [h]

/-- A field that was put leaves every field beside it as it was. -/
theorem get_put_beside (f g : RegField) (w : Word) (v : Nat) (hf : f.lo + f.width ≤ 32)
    (h : f.lo + f.width ≤ g.lo ∨ g.lo + g.width ≤ f.lo) : g.get (f.put w v) = g.get w := by
  apply Nat.eq_of_testBit_eq
  intro i
  rw [get_testBit, get_testBit, put_getLsbD f w v _ hf]
  by_cases hi : i < g.width
  · have : ¬ (f.lo ≤ g.lo + i ∧ g.lo + i < f.lo + f.width) := by omega
    simp [this]
  · simp [hi]

/-- The value of a field is below its size. -/
theorem get_lt (f : RegField) (w : Word) : f.get w < 2 ^ f.width := Nat.mod_lt _ (Nat.two_pow_pos _)

variable (b : Block)

theorem word_setWord (i j : Nat) (w : Word) (hi : i < 256) : (b.setWord i w).word j = if i = j then w else b.word j := by
  unfold Block.setWord Block.word
  simp only [Vector.getD]
  by_cases hj : j < 256
  · by_cases h : i = j
    · subst h; simp [hi]
    · simp [hj, h]
  · have : i ≠ j := by omega
    simp [hj, this]

/-- A stored field is read back. -/
theorem get_set_self (f : RegField) (v : Nat) (hf : fits f = true) : (b.set f v).get f = v % 2 ^ f.width := by
  simp only [fits, Bool.and_eq_true, decide_eq_true_eq] at hf
  unfold Block.get Block.set
  rw [word_setWord _ _ _ _ hf.1, if_pos rfl, get_put_self _ _ _ hf.2]

/-- A stored field leaves every other field as it was. -/
theorem get_set_other (f g : RegField) (v : Nat) (hf : fits f = true)
    (h : f.idx ≠ g.idx ∨ f.lo + f.width ≤ g.lo ∨ g.lo + g.width ≤ f.lo) : (b.set f v).get g = b.get g := by
  simp only [fits, Bool.and_eq_true, decide_eq_true_eq] at hf
  unfold Block.get Block.set
  rw [word_setWord _ _ _ _ hf.1]
  by_cases hi : f.idx = g.idx
  · rw [if_pos hi, hi]
    exact get_put_beside _ _ _ _ hf.2 (by rcases h with h | h <;> [exact absurd hi h; exact h])
  · rw [if_neg hi]

/-- A stored flag is read back. -/
theorem flag_setFlag_self (f : RegField) (v : Bool) (hf : fits f = true) (hw : f.width = 1) : (b.setFlag f v).flag f = v := by
  unfold Block.flag Block.setFlag
  rw [get_set_self _ _ _ hf, hw]
  cases v <;> rfl

/-- A stored flag leaves every other field as it was. -/
theorem get_setFlag_other (f g : RegField) (v : Bool) (hf : fits f = true)
    (h : f.idx ≠ g.idx ∨ f.lo + f.width ≤ g.lo ∨ g.lo + g.width ≤ f.lo) : (b.setFlag f v).get g = b.get g :=
  get_set_other b f g _ hf h

/-- A counter that was moved on and has room reads the sum. -/
theorem get_add_self (f : RegField) (n : Nat) (hf : fits f = true) : (b.add f n).get f = min f.top (b.get f + n) := by
  unfold Block.add
  rw [get_set_self _ _ _ hf]
  apply Nat.mod_eq_of_lt
  have := Nat.two_pow_pos f.width
  unfold RegField.top
  omega

/-- A counter that was moved on leaves every other field as it was. -/
theorem get_add_other (f g : RegField) (n : Nat) (hf : fits f = true)
    (h : f.idx ≠ g.idx ∨ f.lo + f.width ≤ g.lo ∨ g.lo + g.width ≤ f.lo) : (b.add f n).get g = b.get g :=
  get_set_other b f g _ hf h

/-- An operation that leaves the register file alone leaves every field alone. -/
theorem get_congr {a b : Block} (h : a.regs = b.regs) (f : RegField) : a.get f = b.get f := by
  unfold Block.get Block.word; rw [h]

end Sys2Proof.Laws
end

