-- ==== Sys2Proof/Laws/Events.lean ====
section
/-! SUPPORT. What reports can do: a record, a doorbell, an interrupt message and a copy in the fault log leave the rest of the
block alone. -/

namespace Sys2Proof.Laws

open Sys2Proof.Machine

variable {a b c : Block}

/-! ## The relation -/

theorem reported_now (h : a.Reported b) : b.now = a.now := by rw [h.rest]
theorem reported_free (h : a.Reported b) : b.free = a.free := by rw [h.rest]
theorem reported_undef (h : a.Reported b) : b.undef = a.undef := by rw [h.rest]
theorem reported_portA (h : a.Reported b) : b.portA = a.portA := by rw [h.rest]
theorem reported_portB (h : a.Reported b) : b.portB = a.portB := by rw [h.rest]
theorem reported_mail (h : a.Reported b) : b.mail = a.mail := by rw [h.rest]
theorem reported_seq (h : a.Reported b) : b.seq = a.seq := by rw [h.rest]
theorem reported_power (h : a.Reported b) : b.power = a.power := by rw [h.rest]
theorem reported_clock (h : a.Reported b) : b.clock = a.clock := by rw [h.rest]
theorem reported_img (h : a.Reported b) : b.img = a.img := by rw [h.rest]
theorem reported_brk (h : a.Reported b) : b.brk = a.brk := by rw [h.rest]
theorem reported_shut (h : a.Reported b) : b.shut = a.shut := by rw [h.rest]
theorem reported_night (h : a.Reported b) : b.night = a.night := by rw [h.rest]
theorem reported_zones (h : a.Reported b) : b.zones = a.zones := by rw [h.rest]
theorem reported_sched (h : a.Reported b) : b.sched = a.sched := by rw [h.rest]
theorem reported_valves (h : a.Reported b) : b.valves = a.valves := by rw [h.rest]
theorem reported_lamps (h : a.Reported b) : b.lamps = a.lamps := by rw [h.rest]
theorem reported_txn (h : a.Reported b) : b.txn = a.txn := by rw [h.rest]
theorem reported_overlay (h : a.Reported b) : b.overlay = a.overlay := by rw [h.rest]
theorem reported_tap (h : a.Reported b) : b.tap = a.tap := by rw [h.rest]
theorem reported_mp (h : a.Reported b) : b.mp = a.mp := by rw [h.rest]
theorem reported_thermal (h : a.Reported b) : b.thermal = a.thermal := by rw [h.rest]
theorem reported_out (h : a.Reported b) : b.out = a.out := by rw [h.rest]
theorem reported_nv_cells (h : a.Reported b) : b.nv.cells = a.nv.cells := by rw [h.rest]
theorem reported_nv_bad (h : a.Reported b) : b.nv.bad = a.nv.bad := by rw [h.rest]
theorem reported_nv_op (h : a.Reported b) : b.nv.op = a.nv.op := by rw [h.rest]
theorem reported_nv_flushCause (h : a.Reported b) : b.nv.flushCause = a.nv.flushCause := by rw [h.rest]

/-- A field of any register but IC_STAT. -/
theorem reported_get (h : a.Reported b) {f : RegField} (hf : f.idx ≠ 0xCB) : b.get f = a.get f := by
  unfold Block.get; rw [h.words _ hf]

/-- A flag of any register but IC_STAT. -/
theorem reported_flag (h : a.Reported b) {f : RegField} (hf : f.idx ≠ 0xCB) : b.flag f = a.flag f := by
  unfold Block.flag; rw [reported_get h hf]

theorem reported_refl : a.Reported a := ⟨rfl, fun _ _ => rfl⟩

theorem reported_trans (h : a.Reported b) (k : b.Reported c) : a.Reported c where
  rest := by rw [k.rest, h.rest]
  words i hi := by rw [k.words i hi, h.words i hi]

theorem reported_foldl {α : Type} (f : Block → α → Block) (h : ∀ (b : Block) (x : α), b.Reported (f b x)) (l : List α) (b : Block) :
    b.Reported (l.foldl f b) := by
  induction l generalizing b with
  | nil => exact reported_refl
  | cons x xs ih => exact reported_trans (h b x) (ih (f b x))

/-! ## The operations -/

variable (b)

theorem setRing_reported (k : Nat) (r : Ring) : b.Reported (b.setRing k r) := ⟨rfl, fun _ _ => rfl⟩

theorem message_reported (src : Nat) : b.Reported (b.message src) := by
  unfold Block.message
  split
  · exact reported_refl
  · split
    · exact reported_refl
    · split
      · exact ⟨rfl, fun i hi => by
          show (b.setWord 0xCB _).word i = b.word i
          rw [word_setWord _ _ _ _ (by decide), if_neg (fun e => hi e.symm)]⟩
      · exact ⟨rfl, fun _ _ => rfl⟩

theorem doorbell_reported (mid i : Nat) : b.Reported (b.doorbell mid i) := by
  have ha : ∀ w, b.Reported { b with dbA := w } := fun w => ⟨rfl, fun _ _ => rfl⟩
  have hb : ∀ w, b.Reported { b with dbB := w } := fun w => ⟨rfl, fun _ _ => rfl⟩
  have hs : ∀ w, b.Reported { b with dbSeq := w } := fun w => ⟨rfl, fun _ _ => rfl⟩
  unfold Block.doorbell
  split <;> simp only []
  · split
    · exact reported_trans (ha _) (message_reported _ _)
    · exact ha _
  · split
    · exact reported_trans (hb _) (message_reported _ _)
    · exact hb _
  · split
    · exact reported_trans (hs _) (message_reported _ _)
    · exact hs _
  · exact reported_refl

theorem ringBell_reported (k : Nat) : b.Reported (b.ringBell k) := by
  unfold Block.ringBell
  simp only []
  split
  · exact reported_refl
  · split
    · exact reported_refl
    · exact doorbell_reported _ _ _

theorem ringAppend_reported (k tag : Nat) (rec : Record) : b.Reported (b.ringAppend k tag rec) := by
  unfold Block.ringAppend
  simp only []
  refine reported_trans ?_ (ringBell_reported _ _)
  exact ⟨rfl, fun _ _ => rfl⟩

theorem flushLost_reported (k : Nat) : b.Reported (b.flushLost k) := by
  unfold Block.flushLost
  simp only []
  split
  · exact reported_refl
  · exact reported_trans (setRing_reported _ _ _) (ringAppend_reported _ _ _ _)

theorem ringPut_reported (k : Nat) (tag : Option Nat) (rec : Record) : b.Reported (b.ringPut k tag rec) := by
  unfold Block.ringPut
  simp only []
  refine reported_trans (flushLost_reported b k) ?_
  split
  · split
    · exact reported_trans (setRing_reported _ _ _) (ringAppend_reported _ _ _ _)
    · exact setRing_reported _ _ _
  · exact ringAppend_reported _ _ _ _

theorem logFault_reported (rec : Record) : b.Reported (b.logFault rec) := by
  have h1 : b.Reported (b.logAppend rec) := ⟨by simp only [Block.logAppend], fun _ _ => by simp only [Block.logAppend, Block.word]⟩
  unfold Block.logFault
  exact reported_trans h1 (reported_foldl _ (fun x k => ringPut_reported x k _ rec) _ _)

theorem emit_reported (ring irq : Nat) (rec : Record) : b.Reported (b.emit ring irq rec) := by
  unfold Block.emit
  simp only []
  refine reported_trans (ringPut_reported b ring none rec) ?_
  cases hc : faultCodes.contains rec.type <;> by_cases hi : irq = 0 <;> simp only [hi, if_true, if_false, Bool.false_eq_true]
  · exact reported_refl
  · exact message_reported _ _
  · exact logFault_reported _ _
  · exact reported_trans (logFault_reported _ _) (message_reported _ _)

theorem event_reported (code : Nat) (payload : List Byte) : b.Reported (b.event code payload) := emit_reported _ _ _ _

theorem eventFrom_reported (code source irq : Nat) (payload : List Byte) : b.Reported (b.eventFrom code source irq payload) :=
  emit_reported _ _ _ _

/-! ## Field by field -/

@[simp] theorem block_message_now (src : Nat) : (b.message src).now = b.now := reported_now (message_reported b src)
@[simp] theorem block_message_free (src : Nat) : (b.message src).free = b.free := reported_free (message_reported b src)
@[simp] theorem block_message_undef (src : Nat) : (b.message src).undef = b.undef := reported_undef (message_reported b src)
@[simp] theorem block_message_portA (src : Nat) : (b.message src).portA = b.portA := reported_portA (message_reported b src)
@[simp] theorem block_message_portB (src : Nat) : (b.message src).portB = b.portB := reported_portB (message_reported b src)
@[simp] theorem block_message_mail (src : Nat) : (b.message src).mail = b.mail := reported_mail (message_reported b src)
@[simp] theorem block_message_seq (src : Nat) : (b.message src).seq = b.seq := reported_seq (message_reported b src)
@[simp] theorem block_message_power (src : Nat) : (b.message src).power = b.power := reported_power (message_reported b src)
@[simp] theorem block_message_clock (src : Nat) : (b.message src).clock = b.clock := reported_clock (message_reported b src)
@[simp] theorem block_message_img (src : Nat) : (b.message src).img = b.img := reported_img (message_reported b src)
@[simp] theorem block_message_brk (src : Nat) : (b.message src).brk = b.brk := reported_brk (message_reported b src)
@[simp] theorem block_message_shut (src : Nat) : (b.message src).shut = b.shut := reported_shut (message_reported b src)
@[simp] theorem block_message_night (src : Nat) : (b.message src).night = b.night := reported_night (message_reported b src)
@[simp] theorem block_message_zones (src : Nat) : (b.message src).zones = b.zones := reported_zones (message_reported b src)
@[simp] theorem block_message_sched (src : Nat) : (b.message src).sched = b.sched := reported_sched (message_reported b src)
@[simp] theorem block_message_valves (src : Nat) : (b.message src).valves = b.valves := reported_valves (message_reported b src)
@[simp] theorem block_message_lamps (src : Nat) : (b.message src).lamps = b.lamps := reported_lamps (message_reported b src)
@[simp] theorem block_message_txn (src : Nat) : (b.message src).txn = b.txn := reported_txn (message_reported b src)
@[simp] theorem block_message_overlay (src : Nat) : (b.message src).overlay = b.overlay := reported_overlay (message_reported b src)
@[simp] theorem block_message_tap (src : Nat) : (b.message src).tap = b.tap := reported_tap (message_reported b src)
@[simp] theorem block_message_mp (src : Nat) : (b.message src).mp = b.mp := reported_mp (message_reported b src)
@[simp] theorem block_message_thermal (src : Nat) : (b.message src).thermal = b.thermal := reported_thermal (message_reported b src)
@[simp] theorem block_message_out (src : Nat) : (b.message src).out = b.out := reported_out (message_reported b src)
@[simp] theorem block_message_nv_cells (src : Nat) : (b.message src).nv.cells = b.nv.cells := reported_nv_cells (message_reported b src)
@[simp] theorem block_message_nv_bad (src : Nat) : (b.message src).nv.bad = b.nv.bad := reported_nv_bad (message_reported b src)
@[simp] theorem block_message_nv_op (src : Nat) : (b.message src).nv.op = b.nv.op := reported_nv_op (message_reported b src)
theorem block_message_get (src : Nat) {f : RegField} (hf : f.idx ≠ 0xCB) : (b.message src).get f = b.get f := reported_get (message_reported b src) hf
theorem block_message_flag (src : Nat) {f : RegField} (hf : f.idx ≠ 0xCB) : (b.message src).flag f = b.flag f := reported_flag (message_reported b src) hf

@[simp] theorem block_doorbell_now (mid i : Nat) : (b.doorbell mid i).now = b.now := reported_now (doorbell_reported b mid i)
@[simp] theorem block_doorbell_free (mid i : Nat) : (b.doorbell mid i).free = b.free := reported_free (doorbell_reported b mid i)
@[simp] theorem block_doorbell_undef (mid i : Nat) : (b.doorbell mid i).undef = b.undef := reported_undef (doorbell_reported b mid i)
@[simp] theorem block_doorbell_portA (mid i : Nat) : (b.doorbell mid i).portA = b.portA := reported_portA (doorbell_reported b mid i)
@[simp] theorem block_doorbell_portB (mid i : Nat) : (b.doorbell mid i).portB = b.portB := reported_portB (doorbell_reported b mid i)
@[simp] theorem block_doorbell_mail (mid i : Nat) : (b.doorbell mid i).mail = b.mail := reported_mail (doorbell_reported b mid i)
@[simp] theorem block_doorbell_seq (mid i : Nat) : (b.doorbell mid i).seq = b.seq := reported_seq (doorbell_reported b mid i)
@[simp] theorem block_doorbell_power (mid i : Nat) : (b.doorbell mid i).power = b.power := reported_power (doorbell_reported b mid i)
@[simp] theorem block_doorbell_clock (mid i : Nat) : (b.doorbell mid i).clock = b.clock := reported_clock (doorbell_reported b mid i)
@[simp] theorem block_doorbell_img (mid i : Nat) : (b.doorbell mid i).img = b.img := reported_img (doorbell_reported b mid i)
@[simp] theorem block_doorbell_brk (mid i : Nat) : (b.doorbell mid i).brk = b.brk := reported_brk (doorbell_reported b mid i)
@[simp] theorem block_doorbell_shut (mid i : Nat) : (b.doorbell mid i).shut = b.shut := reported_shut (doorbell_reported b mid i)
@[simp] theorem block_doorbell_night (mid i : Nat) : (b.doorbell mid i).night = b.night := reported_night (doorbell_reported b mid i)
@[simp] theorem block_doorbell_zones (mid i : Nat) : (b.doorbell mid i).zones = b.zones := reported_zones (doorbell_reported b mid i)
@[simp] theorem block_doorbell_sched (mid i : Nat) : (b.doorbell mid i).sched = b.sched := reported_sched (doorbell_reported b mid i)
@[simp] theorem block_doorbell_valves (mid i : Nat) : (b.doorbell mid i).valves = b.valves := reported_valves (doorbell_reported b mid i)
@[simp] theorem block_doorbell_lamps (mid i : Nat) : (b.doorbell mid i).lamps = b.lamps := reported_lamps (doorbell_reported b mid i)
@[simp] theorem block_doorbell_txn (mid i : Nat) : (b.doorbell mid i).txn = b.txn := reported_txn (doorbell_reported b mid i)
@[simp] theorem block_doorbell_overlay (mid i : Nat) : (b.doorbell mid i).overlay = b.overlay := reported_overlay (doorbell_reported b mid i)
@[simp] theorem block_doorbell_tap (mid i : Nat) : (b.doorbell mid i).tap = b.tap := reported_tap (doorbell_reported b mid i)
@[simp] theorem block_doorbell_mp (mid i : Nat) : (b.doorbell mid i).mp = b.mp := reported_mp (doorbell_reported b mid i)
@[simp] theorem block_doorbell_thermal (mid i : Nat) : (b.doorbell mid i).thermal = b.thermal := reported_thermal (doorbell_reported b mid i)
@[simp] theorem block_doorbell_out (mid i : Nat) : (b.doorbell mid i).out = b.out := reported_out (doorbell_reported b mid i)
@[simp] theorem block_doorbell_nv_cells (mid i : Nat) : (b.doorbell mid i).nv.cells = b.nv.cells := reported_nv_cells (doorbell_reported b mid i)
@[simp] theorem block_doorbell_nv_bad (mid i : Nat) : (b.doorbell mid i).nv.bad = b.nv.bad := reported_nv_bad (doorbell_reported b mid i)
@[simp] theorem block_doorbell_nv_op (mid i : Nat) : (b.doorbell mid i).nv.op = b.nv.op := reported_nv_op (doorbell_reported b mid i)
theorem block_doorbell_get (mid i : Nat) {f : RegField} (hf : f.idx ≠ 0xCB) : (b.doorbell mid i).get f = b.get f := reported_get (doorbell_reported b mid i) hf
theorem block_doorbell_flag (mid i : Nat) {f : RegField} (hf : f.idx ≠ 0xCB) : (b.doorbell mid i).flag f = b.flag f := reported_flag (doorbell_reported b mid i) hf

@[simp] theorem block_ringPut_now (k : Nat) (tag : Option Nat) (rec : Record) : (b.ringPut k tag rec).now = b.now := reported_now (ringPut_reported b k tag rec)
@[simp] theorem block_ringPut_free (k : Nat) (tag : Option Nat) (rec : Record) : (b.ringPut k tag rec).free = b.free := reported_free (ringPut_reported b k tag rec)
@[simp] theorem block_ringPut_undef (k : Nat) (tag : Option Nat) (rec : Record) : (b.ringPut k tag rec).undef = b.undef := reported_undef (ringPut_reported b k tag rec)
@[simp] theorem block_ringPut_portA (k : Nat) (tag : Option Nat) (rec : Record) : (b.ringPut k tag rec).portA = b.portA := reported_portA (ringPut_reported b k tag rec)
@[simp] theorem block_ringPut_portB (k : Nat) (tag : Option Nat) (rec : Record) : (b.ringPut k tag rec).portB = b.portB := reported_portB (ringPut_reported b k tag rec)
@[simp] theorem block_ringPut_mail (k : Nat) (tag : Option Nat) (rec : Record) : (b.ringPut k tag rec).mail = b.mail := reported_mail (ringPut_reported b k tag rec)
@[simp] theorem block_ringPut_seq (k : Nat) (tag : Option Nat) (rec : Record) : (b.ringPut k tag rec).seq = b.seq := reported_seq (ringPut_reported b k tag rec)
@[simp] theorem block_ringPut_power (k : Nat) (tag : Option Nat) (rec : Record) : (b.ringPut k tag rec).power = b.power := reported_power (ringPut_reported b k tag rec)
@[simp] theorem block_ringPut_clock (k : Nat) (tag : Option Nat) (rec : Record) : (b.ringPut k tag rec).clock = b.clock := reported_clock (ringPut_reported b k tag rec)
@[simp] theorem block_ringPut_img (k : Nat) (tag : Option Nat) (rec : Record) : (b.ringPut k tag rec).img = b.img := reported_img (ringPut_reported b k tag rec)
@[simp] theorem block_ringPut_brk (k : Nat) (tag : Option Nat) (rec : Record) : (b.ringPut k tag rec).brk = b.brk := reported_brk (ringPut_reported b k tag rec)
@[simp] theorem block_ringPut_shut (k : Nat) (tag : Option Nat) (rec : Record) : (b.ringPut k tag rec).shut = b.shut := reported_shut (ringPut_reported b k tag rec)
@[simp] theorem block_ringPut_night (k : Nat) (tag : Option Nat) (rec : Record) : (b.ringPut k tag rec).night = b.night := reported_night (ringPut_reported b k tag rec)
@[simp] theorem block_ringPut_zones (k : Nat) (tag : Option Nat) (rec : Record) : (b.ringPut k tag rec).zones = b.zones := reported_zones (ringPut_reported b k tag rec)
@[simp] theorem block_ringPut_sched (k : Nat) (tag : Option Nat) (rec : Record) : (b.ringPut k tag rec).sched = b.sched := reported_sched (ringPut_reported b k tag rec)
@[simp] theorem block_ringPut_valves (k : Nat) (tag : Option Nat) (rec : Record) : (b.ringPut k tag rec).valves = b.valves := reported_valves (ringPut_reported b k tag rec)
@[simp] theorem block_ringPut_lamps (k : Nat) (tag : Option Nat) (rec : Record) : (b.ringPut k tag rec).lamps = b.lamps := reported_lamps (ringPut_reported b k tag rec)
@[simp] theorem block_ringPut_txn (k : Nat) (tag : Option Nat) (rec : Record) : (b.ringPut k tag rec).txn = b.txn := reported_txn (ringPut_reported b k tag rec)
@[simp] theorem block_ringPut_overlay (k : Nat) (tag : Option Nat) (rec : Record) : (b.ringPut k tag rec).overlay = b.overlay := reported_overlay (ringPut_reported b k tag rec)
@[simp] theorem block_ringPut_tap (k : Nat) (tag : Option Nat) (rec : Record) : (b.ringPut k tag rec).tap = b.tap := reported_tap (ringPut_reported b k tag rec)
@[simp] theorem block_ringPut_mp (k : Nat) (tag : Option Nat) (rec : Record) : (b.ringPut k tag rec).mp = b.mp := reported_mp (ringPut_reported b k tag rec)
@[simp] theorem block_ringPut_thermal (k : Nat) (tag : Option Nat) (rec : Record) : (b.ringPut k tag rec).thermal = b.thermal := reported_thermal (ringPut_reported b k tag rec)
@[simp] theorem block_ringPut_out (k : Nat) (tag : Option Nat) (rec : Record) : (b.ringPut k tag rec).out = b.out := reported_out (ringPut_reported b k tag rec)
@[simp] theorem block_ringPut_nv_cells (k : Nat) (tag : Option Nat) (rec : Record) : (b.ringPut k tag rec).nv.cells = b.nv.cells := reported_nv_cells (ringPut_reported b k tag rec)
@[simp] theorem block_ringPut_nv_bad (k : Nat) (tag : Option Nat) (rec : Record) : (b.ringPut k tag rec).nv.bad = b.nv.bad := reported_nv_bad (ringPut_reported b k tag rec)
@[simp] theorem block_ringPut_nv_op (k : Nat) (tag : Option Nat) (rec : Record) : (b.ringPut k tag rec).nv.op = b.nv.op := reported_nv_op (ringPut_reported b k tag rec)
theorem block_ringPut_get (k : Nat) (tag : Option Nat) (rec : Record) {f : RegField} (hf : f.idx ≠ 0xCB) : (b.ringPut k tag rec).get f = b.get f := reported_get (ringPut_reported b k tag rec) hf
theorem block_ringPut_flag (k : Nat) (tag : Option Nat) (rec : Record) {f : RegField} (hf : f.idx ≠ 0xCB) : (b.ringPut k tag rec).flag f = b.flag f := reported_flag (ringPut_reported b k tag rec) hf

@[simp] theorem block_emit_now (ring irq : Nat) (rec : Record) : (b.emit ring irq rec).now = b.now := reported_now (emit_reported b ring irq rec)
@[simp] theorem block_emit_free (ring irq : Nat) (rec : Record) : (b.emit ring irq rec).free = b.free := reported_free (emit_reported b ring irq rec)
@[simp] theorem block_emit_undef (ring irq : Nat) (rec : Record) : (b.emit ring irq rec).undef = b.undef := reported_undef (emit_reported b ring irq rec)
@[simp] theorem block_emit_portA (ring irq : Nat) (rec : Record) : (b.emit ring irq rec).portA = b.portA := reported_portA (emit_reported b ring irq rec)
@[simp] theorem block_emit_portB (ring irq : Nat) (rec : Record) : (b.emit ring irq rec).portB = b.portB := reported_portB (emit_reported b ring irq rec)
@[simp] theorem block_emit_mail (ring irq : Nat) (rec : Record) : (b.emit ring irq rec).mail = b.mail := reported_mail (emit_reported b ring irq rec)
@[simp] theorem block_emit_seq (ring irq : Nat) (rec : Record) : (b.emit ring irq rec).seq = b.seq := reported_seq (emit_reported b ring irq rec)
@[simp] theorem block_emit_power (ring irq : Nat) (rec : Record) : (b.emit ring irq rec).power = b.power := reported_power (emit_reported b ring irq rec)
@[simp] theorem block_emit_clock (ring irq : Nat) (rec : Record) : (b.emit ring irq rec).clock = b.clock := reported_clock (emit_reported b ring irq rec)
@[simp] theorem block_emit_img (ring irq : Nat) (rec : Record) : (b.emit ring irq rec).img = b.img := reported_img (emit_reported b ring irq rec)
@[simp] theorem block_emit_brk (ring irq : Nat) (rec : Record) : (b.emit ring irq rec).brk = b.brk := reported_brk (emit_reported b ring irq rec)
@[simp] theorem block_emit_shut (ring irq : Nat) (rec : Record) : (b.emit ring irq rec).shut = b.shut := reported_shut (emit_reported b ring irq rec)
@[simp] theorem block_emit_night (ring irq : Nat) (rec : Record) : (b.emit ring irq rec).night = b.night := reported_night (emit_reported b ring irq rec)
@[simp] theorem block_emit_zones (ring irq : Nat) (rec : Record) : (b.emit ring irq rec).zones = b.zones := reported_zones (emit_reported b ring irq rec)
@[simp] theorem block_emit_sched (ring irq : Nat) (rec : Record) : (b.emit ring irq rec).sched = b.sched := reported_sched (emit_reported b ring irq rec)
@[simp] theorem block_emit_valves (ring irq : Nat) (rec : Record) : (b.emit ring irq rec).valves = b.valves := reported_valves (emit_reported b ring irq rec)
@[simp] theorem block_emit_lamps (ring irq : Nat) (rec : Record) : (b.emit ring irq rec).lamps = b.lamps := reported_lamps (emit_reported b ring irq rec)
@[simp] theorem block_emit_txn (ring irq : Nat) (rec : Record) : (b.emit ring irq rec).txn = b.txn := reported_txn (emit_reported b ring irq rec)
@[simp] theorem block_emit_overlay (ring irq : Nat) (rec : Record) : (b.emit ring irq rec).overlay = b.overlay := reported_overlay (emit_reported b ring irq rec)
@[simp] theorem block_emit_tap (ring irq : Nat) (rec : Record) : (b.emit ring irq rec).tap = b.tap := reported_tap (emit_reported b ring irq rec)
@[simp] theorem block_emit_mp (ring irq : Nat) (rec : Record) : (b.emit ring irq rec).mp = b.mp := reported_mp (emit_reported b ring irq rec)
@[simp] theorem block_emit_thermal (ring irq : Nat) (rec : Record) : (b.emit ring irq rec).thermal = b.thermal := reported_thermal (emit_reported b ring irq rec)
@[simp] theorem block_emit_out (ring irq : Nat) (rec : Record) : (b.emit ring irq rec).out = b.out := reported_out (emit_reported b ring irq rec)
@[simp] theorem block_emit_nv_cells (ring irq : Nat) (rec : Record) : (b.emit ring irq rec).nv.cells = b.nv.cells := reported_nv_cells (emit_reported b ring irq rec)
@[simp] theorem block_emit_nv_bad (ring irq : Nat) (rec : Record) : (b.emit ring irq rec).nv.bad = b.nv.bad := reported_nv_bad (emit_reported b ring irq rec)
@[simp] theorem block_emit_nv_op (ring irq : Nat) (rec : Record) : (b.emit ring irq rec).nv.op = b.nv.op := reported_nv_op (emit_reported b ring irq rec)
theorem block_emit_get (ring irq : Nat) (rec : Record) {f : RegField} (hf : f.idx ≠ 0xCB) : (b.emit ring irq rec).get f = b.get f := reported_get (emit_reported b ring irq rec) hf
theorem block_emit_flag (ring irq : Nat) (rec : Record) {f : RegField} (hf : f.idx ≠ 0xCB) : (b.emit ring irq rec).flag f = b.flag f := reported_flag (emit_reported b ring irq rec) hf

@[simp] theorem block_event_now (code : Nat) (payload : List Byte) : (b.event code payload).now = b.now := reported_now (event_reported b code payload)
@[simp] theorem block_event_free (code : Nat) (payload : List Byte) : (b.event code payload).free = b.free := reported_free (event_reported b code payload)
@[simp] theorem block_event_undef (code : Nat) (payload : List Byte) : (b.event code payload).undef = b.undef := reported_undef (event_reported b code payload)
@[simp] theorem block_event_portA (code : Nat) (payload : List Byte) : (b.event code payload).portA = b.portA := reported_portA (event_reported b code payload)
@[simp] theorem block_event_portB (code : Nat) (payload : List Byte) : (b.event code payload).portB = b.portB := reported_portB (event_reported b code payload)
@[simp] theorem block_event_mail (code : Nat) (payload : List Byte) : (b.event code payload).mail = b.mail := reported_mail (event_reported b code payload)
@[simp] theorem block_event_seq (code : Nat) (payload : List Byte) : (b.event code payload).seq = b.seq := reported_seq (event_reported b code payload)
@[simp] theorem block_event_power (code : Nat) (payload : List Byte) : (b.event code payload).power = b.power := reported_power (event_reported b code payload)
@[simp] theorem block_event_clock (code : Nat) (payload : List Byte) : (b.event code payload).clock = b.clock := reported_clock (event_reported b code payload)
@[simp] theorem block_event_img (code : Nat) (payload : List Byte) : (b.event code payload).img = b.img := reported_img (event_reported b code payload)
@[simp] theorem block_event_brk (code : Nat) (payload : List Byte) : (b.event code payload).brk = b.brk := reported_brk (event_reported b code payload)
@[simp] theorem block_event_shut (code : Nat) (payload : List Byte) : (b.event code payload).shut = b.shut := reported_shut (event_reported b code payload)
@[simp] theorem block_event_night (code : Nat) (payload : List Byte) : (b.event code payload).night = b.night := reported_night (event_reported b code payload)
@[simp] theorem block_event_zones (code : Nat) (payload : List Byte) : (b.event code payload).zones = b.zones := reported_zones (event_reported b code payload)
@[simp] theorem block_event_sched (code : Nat) (payload : List Byte) : (b.event code payload).sched = b.sched := reported_sched (event_reported b code payload)
@[simp] theorem block_event_valves (code : Nat) (payload : List Byte) : (b.event code payload).valves = b.valves := reported_valves (event_reported b code payload)
@[simp] theorem block_event_lamps (code : Nat) (payload : List Byte) : (b.event code payload).lamps = b.lamps := reported_lamps (event_reported b code payload)
@[simp] theorem block_event_txn (code : Nat) (payload : List Byte) : (b.event code payload).txn = b.txn := reported_txn (event_reported b code payload)
@[simp] theorem block_event_overlay (code : Nat) (payload : List Byte) : (b.event code payload).overlay = b.overlay := reported_overlay (event_reported b code payload)
@[simp] theorem block_event_tap (code : Nat) (payload : List Byte) : (b.event code payload).tap = b.tap := reported_tap (event_reported b code payload)
@[simp] theorem block_event_mp (code : Nat) (payload : List Byte) : (b.event code payload).mp = b.mp := reported_mp (event_reported b code payload)
@[simp] theorem block_event_thermal (code : Nat) (payload : List Byte) : (b.event code payload).thermal = b.thermal := reported_thermal (event_reported b code payload)
@[simp] theorem block_event_out (code : Nat) (payload : List Byte) : (b.event code payload).out = b.out := reported_out (event_reported b code payload)
@[simp] theorem block_event_nv_cells (code : Nat) (payload : List Byte) : (b.event code payload).nv.cells = b.nv.cells := reported_nv_cells (event_reported b code payload)
@[simp] theorem block_event_nv_bad (code : Nat) (payload : List Byte) : (b.event code payload).nv.bad = b.nv.bad := reported_nv_bad (event_reported b code payload)
@[simp] theorem block_event_nv_op (code : Nat) (payload : List Byte) : (b.event code payload).nv.op = b.nv.op := reported_nv_op (event_reported b code payload)
theorem block_event_get (code : Nat) (payload : List Byte) {f : RegField} (hf : f.idx ≠ 0xCB) : (b.event code payload).get f = b.get f := reported_get (event_reported b code payload) hf
theorem block_event_flag (code : Nat) (payload : List Byte) {f : RegField} (hf : f.idx ≠ 0xCB) : (b.event code payload).flag f = b.flag f := reported_flag (event_reported b code payload) hf

@[simp] theorem block_eventFrom_now (code source irq : Nat) (payload : List Byte) : (b.eventFrom code source irq payload).now = b.now := reported_now (eventFrom_reported b code source irq payload)
@[simp] theorem block_eventFrom_free (code source irq : Nat) (payload : List Byte) : (b.eventFrom code source irq payload).free = b.free := reported_free (eventFrom_reported b code source irq payload)
@[simp] theorem block_eventFrom_undef (code source irq : Nat) (payload : List Byte) : (b.eventFrom code source irq payload).undef = b.undef := reported_undef (eventFrom_reported b code source irq payload)
@[simp] theorem block_eventFrom_portA (code source irq : Nat) (payload : List Byte) : (b.eventFrom code source irq payload).portA = b.portA := reported_portA (eventFrom_reported b code source irq payload)
@[simp] theorem block_eventFrom_portB (code source irq : Nat) (payload : List Byte) : (b.eventFrom code source irq payload).portB = b.portB := reported_portB (eventFrom_reported b code source irq payload)
@[simp] theorem block_eventFrom_mail (code source irq : Nat) (payload : List Byte) : (b.eventFrom code source irq payload).mail = b.mail := reported_mail (eventFrom_reported b code source irq payload)
@[simp] theorem block_eventFrom_seq (code source irq : Nat) (payload : List Byte) : (b.eventFrom code source irq payload).seq = b.seq := reported_seq (eventFrom_reported b code source irq payload)
@[simp] theorem block_eventFrom_power (code source irq : Nat) (payload : List Byte) : (b.eventFrom code source irq payload).power = b.power := reported_power (eventFrom_reported b code source irq payload)
@[simp] theorem block_eventFrom_clock (code source irq : Nat) (payload : List Byte) : (b.eventFrom code source irq payload).clock = b.clock := reported_clock (eventFrom_reported b code source irq payload)
@[simp] theorem block_eventFrom_img (code source irq : Nat) (payload : List Byte) : (b.eventFrom code source irq payload).img = b.img := reported_img (eventFrom_reported b code source irq payload)
@[simp] theorem block_eventFrom_brk (code source irq : Nat) (payload : List Byte) : (b.eventFrom code source irq payload).brk = b.brk := reported_brk (eventFrom_reported b code source irq payload)
@[simp] theorem block_eventFrom_shut (code source irq : Nat) (payload : List Byte) : (b.eventFrom code source irq payload).shut = b.shut := reported_shut (eventFrom_reported b code source irq payload)
@[simp] theorem block_eventFrom_night (code source irq : Nat) (payload : List Byte) : (b.eventFrom code source irq payload).night = b.night := reported_night (eventFrom_reported b code source irq payload)
@[simp] theorem block_eventFrom_zones (code source irq : Nat) (payload : List Byte) : (b.eventFrom code source irq payload).zones = b.zones := reported_zones (eventFrom_reported b code source irq payload)
@[simp] theorem block_eventFrom_sched (code source irq : Nat) (payload : List Byte) : (b.eventFrom code source irq payload).sched = b.sched := reported_sched (eventFrom_reported b code source irq payload)
@[simp] theorem block_eventFrom_valves (code source irq : Nat) (payload : List Byte) : (b.eventFrom code source irq payload).valves = b.valves := reported_valves (eventFrom_reported b code source irq payload)
@[simp] theorem block_eventFrom_lamps (code source irq : Nat) (payload : List Byte) : (b.eventFrom code source irq payload).lamps = b.lamps := reported_lamps (eventFrom_reported b code source irq payload)
@[simp] theorem block_eventFrom_txn (code source irq : Nat) (payload : List Byte) : (b.eventFrom code source irq payload).txn = b.txn := reported_txn (eventFrom_reported b code source irq payload)
@[simp] theorem block_eventFrom_overlay (code source irq : Nat) (payload : List Byte) : (b.eventFrom code source irq payload).overlay = b.overlay := reported_overlay (eventFrom_reported b code source irq payload)
@[simp] theorem block_eventFrom_tap (code source irq : Nat) (payload : List Byte) : (b.eventFrom code source irq payload).tap = b.tap := reported_tap (eventFrom_reported b code source irq payload)
@[simp] theorem block_eventFrom_mp (code source irq : Nat) (payload : List Byte) : (b.eventFrom code source irq payload).mp = b.mp := reported_mp (eventFrom_reported b code source irq payload)
@[simp] theorem block_eventFrom_thermal (code source irq : Nat) (payload : List Byte) : (b.eventFrom code source irq payload).thermal = b.thermal := reported_thermal (eventFrom_reported b code source irq payload)
@[simp] theorem block_eventFrom_out (code source irq : Nat) (payload : List Byte) : (b.eventFrom code source irq payload).out = b.out := reported_out (eventFrom_reported b code source irq payload)
@[simp] theorem block_eventFrom_nv_cells (code source irq : Nat) (payload : List Byte) : (b.eventFrom code source irq payload).nv.cells = b.nv.cells := reported_nv_cells (eventFrom_reported b code source irq payload)
@[simp] theorem block_eventFrom_nv_bad (code source irq : Nat) (payload : List Byte) : (b.eventFrom code source irq payload).nv.bad = b.nv.bad := reported_nv_bad (eventFrom_reported b code source irq payload)
@[simp] theorem block_eventFrom_nv_op (code source irq : Nat) (payload : List Byte) : (b.eventFrom code source irq payload).nv.op = b.nv.op := reported_nv_op (eventFrom_reported b code source irq payload)
theorem block_eventFrom_get (code source irq : Nat) (payload : List Byte) {f : RegField} (hf : f.idx ≠ 0xCB) : (b.eventFrom code source irq payload).get f = b.get f := reported_get (eventFrom_reported b code source irq payload) hf
theorem block_eventFrom_flag (code source irq : Nat) (payload : List Byte) {f : RegField} (hf : f.idx ≠ 0xCB) : (b.eventFrom code source irq payload).flag f = b.flag f := reported_flag (eventFrom_reported b code source irq payload) hf

end Sys2Proof.Laws
end

