-- ==== Sys2Proof/Laws/Memory.lean ====
section
/-! SUPPORT. The byte memories: every operation keeps the canonical form, a read after a write gives the value written, and
a write leaves every other address alone. -/

namespace Sys2Proof.Laws

open Sys2Proof.Machine

variable {d : Byte} {m : Mem}

/-- A canonical memory from a higher address on is canonical from a lower one on. -/
theorem mem_wfFrom_mono {lo hi : Nat} (h : lo ≤ hi) (hm : Mem.wfFrom d hi m = true) : Mem.wfFrom d lo m = true := by
  cases m with
  | nil => rfl
  | cons c rest =>
    simp only [Mem.wfFrom, Bool.and_eq_true, decide_eq_true_eq] at hm ⊢
    exact ⟨⟨le_trans h hm.1.1, hm.1.2⟩, hm.2⟩

/-- Putting a cell in front of a canonical memory of higher addresses. -/
theorem mem_cons_wf {lo a : Nat} {v : Byte} (h : lo ≤ a) (hm : Mem.wfFrom d (a + 1) m = true) :
    Mem.wfFrom d lo (Mem.cons d a v m) = true := by
  unfold Mem.cons
  split
  · exact mem_wfFrom_mono (by omega) hm
  · simp_all [Mem.wfFrom]

/-- A write keeps the canonical form from every address not above the one written. -/
theorem mem_write_wfFrom {lo a : Nat} {v : Byte} (h : lo ≤ a) (hm : Mem.wfFrom d lo m = true) :
    Mem.wfFrom d lo (Mem.write d m a v) = true := by
  induction m generalizing lo with
  | nil => exact mem_cons_wf h rfl
  | cons c rest ih =>
    simp only [Mem.wfFrom, Bool.and_eq_true, decide_eq_true_eq] at hm
    simp only [Mem.write]
    split
    · next e => subst e; exact mem_cons_wf h hm.2
    · split
      · exact mem_cons_wf h (by simp only [Mem.wfFrom, Bool.and_eq_true, decide_eq_true_eq]; exact ⟨⟨by omega, hm.1.2⟩, hm.2⟩)
      · simp only [Mem.wfFrom, Bool.and_eq_true, decide_eq_true_eq]
        exact ⟨hm.1, ih (by omega) hm.2⟩

/-- A write keeps the canonical form. -/
theorem mem_write_wf (a : Nat) (v : Byte) (hm : Mem.wf d m = true) : Mem.wf d (Mem.write d m a v) = true :=
  mem_write_wfFrom (Nat.zero_le a) hm

/-- A write of several bytes keeps the canonical form. -/
theorem mem_writeBytes_wf (a : Nat) (bs : List Byte) (hm : Mem.wf d m = true) : Mem.wf d (Mem.writeBytes d m a bs) = true := by
  induction bs generalizing m a with
  | nil => exact hm
  | cons b rest ih => exact ih (a + 1) (mem_write_wf a b hm)

/-- Dropping cells keeps the canonical form. -/
theorem mem_filter_wfFrom {lo : Nat} (p : Host.Cell → Bool) (hm : Mem.wfFrom d lo m = true) : Mem.wfFrom d lo (m.filter p) = true := by
  induction m generalizing lo with
  | nil => rfl
  | cons c rest ih =>
    simp only [Mem.wfFrom, Bool.and_eq_true, decide_eq_true_eq] at hm
    simp only [List.filter]
    split
    · simp only [Mem.wfFrom, Bool.and_eq_true, decide_eq_true_eq]; exact ⟨hm.1, ih hm.2⟩
    · exact mem_wfFrom_mono (by omega) (ih hm.2)

/-- Clearing a range keeps the canonical form. -/
theorem mem_clear_wf (a n : Nat) (hm : Mem.wf d m = true) : Mem.wf d (Mem.clear m a n) = true := mem_filter_wfFrom _ hm

/-- Below its lowest cell a canonical memory reads as an unlisted address. -/
theorem mem_read_low {lo a : Nat} (h : a < lo) (hm : Mem.wfFrom d lo m = true) : Mem.read d m a = d := by
  cases m with
  | nil => rfl
  | cons c rest =>
    simp only [Mem.wfFrom, Bool.and_eq_true, decide_eq_true_eq] at hm
    simp only [Mem.read, if_neg (show ¬ a = c.1 by omega), if_pos (show a < c.1 by omega)]

/-- Reading where a cell was put in front. -/
theorem mem_read_cons (a x : Nat) (v : Byte) (hm : Mem.wfFrom d (a + 1) m = true) :
    Mem.read d (Mem.cons d a v m) x = if x = a then v else if x < a then d else Mem.read d m x := by
  unfold Mem.cons
  split
  · next e =>
    subst e
    split
    · next e => subst e; exact mem_read_low (by omega) hm
    · split
      · exact mem_read_low (by omega) hm
      · rfl
  · rfl

/-- A read after a write: the value written at the address, the old value elsewhere. -/
theorem mem_read_write (lo a x : Nat) (v : Byte) (hm : Mem.wfFrom d lo m = true) :
    Mem.read d (Mem.write d m a v) x = if x = a then v else Mem.read d m x := by
  induction m generalizing lo with
  | nil =>
    rw [show Mem.write d [] a v = Mem.cons d a v [] from rfl, mem_read_cons a x v rfl]
    simp only [Mem.read]
    split <;> simp
  | cons c rest ih =>
    have hc := hm
    simp only [Mem.wfFrom, Bool.and_eq_true, decide_eq_true_eq] at hm
    simp only [Mem.write]
    split
    · next e =>
      subst e
      rw [mem_read_cons _ x v hm.2]
      simp only [Mem.read]
      split <;> simp_all
    · split
      · rw [mem_read_cons a x v (by simp only [Mem.wfFrom, Bool.and_eq_true, decide_eq_true_eq]; exact ⟨⟨by omega, hm.1.2⟩, hm.2⟩)]
        simp only [Mem.read]
        split
        · rfl
        · split
          · rw [if_neg (by omega), if_pos (by omega)]
          · rfl
      · simp only [Mem.read, ih _ hm.2]
        split
        · next e => subst e; rw [if_neg (by omega)]
        · split
          · rw [if_neg (by omega)]
          · rfl

/-- The value just written is read back. -/
theorem mem_read_write_same (a : Nat) (v : Byte) (hm : Mem.wf d m = true) : Mem.read d (Mem.write d m a v) a = v := by
  rw [mem_read_write 0 a a v hm, if_pos rfl]

/-- A write leaves every other address alone. -/
theorem mem_read_write_other {a x : Nat} (v : Byte) (hm : Mem.wf d m = true) (h : x ≠ a) :
    Mem.read d (Mem.write d m a v) x = Mem.read d m x := by
  rw [mem_read_write 0 a x v hm, if_neg h]

/-- A write of several bytes leaves every address outside them alone. -/
theorem mem_read_writeBytes_other (a : Nat) (bs : List Byte) {x : Nat} (hm : Mem.wf d m = true) (h : x < a ∨ a + bs.length ≤ x) :
    Mem.read d (Mem.writeBytes d m a bs) x = Mem.read d m x := by
  induction bs generalizing m a with
  | nil => rfl
  | cons b rest ih =>
    simp only [List.length_cons] at h
    have e := ih (m := Mem.write d m a b) (a + 1) (mem_write_wf a b hm) (by omega)
    exact e.trans (mem_read_write_other b hm (by omega))

/-- A read of a byte that a write of several bytes stored. -/
theorem mem_read_writeBytes_same (a i : Nat) (bs : List Byte) (hm : Mem.wf d m = true) (h : i < bs.length) :
    Mem.read d (Mem.writeBytes d m a bs) (a + i) = bs[i] := by
  induction bs generalizing m a i with
  | nil => simp at h
  | cons b rest ih =>
    simp only [Mem.writeBytes]
    cases i with
    | zero =>
      rw [mem_read_writeBytes_other (a + 1) rest (mem_write_wf a b hm) (by omega)]
      simpa using mem_read_write_same a b hm
    | succ j =>
      have e := ih (m := Mem.write d m a b) (a + 1) j (mem_write_wf a b hm) (by simpa using h)
      rw [show a + (j + 1) = a + 1 + j by omega]
      simpa using e

/-- The SRAM after reset is canonical. -/
theorem memReset_wf : Mem.wf 0#8 memReset = true := by decide +kernel

/-- The cells of the store as delivered are canonical. -/
theorem deliveredCells_wf : Mem.wf 0xFF#8 deliveredCells = true :=
  mem_writeBytes_wf _ _ (mem_writeBytes_wf _ _ rfl)

end Sys2Proof.Laws
end

