-- ==== Sys2Proof/Laws/Parts.lean ====
section
/-! SUPPORT. What each update of one part of the block leaves in each field: one lemma per field per update, true by unfolding. -/

namespace Sys2Proof.Laws

open Sys2Proof.Machine

variable (b : Block)

/-! ### Block.setSeq -/

@[simp] theorem block_setSeq_now (f : Sequencer → Sequencer) : (b.setSeq f).now = b.now := rfl
@[simp] theorem block_setSeq_free (f : Sequencer → Sequencer) : (b.setSeq f).free = b.free := rfl
@[simp] theorem block_setSeq_undef (f : Sequencer → Sequencer) : (b.setSeq f).undef = b.undef := rfl
@[simp] theorem block_setSeq_regs (f : Sequencer → Sequencer) : (b.setSeq f).regs = b.regs := rfl
@[simp] theorem block_setSeq_mem (f : Sequencer → Sequencer) : (b.setSeq f).mem = b.mem := rfl
@[simp] theorem block_setSeq_portA (f : Sequencer → Sequencer) : (b.setSeq f).portA = b.portA := rfl
@[simp] theorem block_setSeq_portB (f : Sequencer → Sequencer) : (b.setSeq f).portB = b.portB := rfl
@[simp] theorem block_setSeq_tap (f : Sequencer → Sequencer) : (b.setSeq f).tap = b.tap := rfl
@[simp] theorem block_setSeq_rings (f : Sequencer → Sequencer) : (b.setSeq f).rings = b.rings := rfl
@[simp] theorem block_setSeq_dbSeq (f : Sequencer → Sequencer) : (b.setSeq f).dbSeq = b.dbSeq := rfl
@[simp] theorem block_setSeq_dbA (f : Sequencer → Sequencer) : (b.setSeq f).dbA = b.dbA := rfl
@[simp] theorem block_setSeq_dbB (f : Sequencer → Sequencer) : (b.setSeq f).dbB = b.dbB := rfl
@[simp] theorem block_setSeq_mail (f : Sequencer → Sequencer) : (b.setSeq f).mail = b.mail := rfl
@[simp] theorem block_setSeq_seq (f : Sequencer → Sequencer) : (b.setSeq f).seq = f b.seq := rfl
@[simp] theorem block_setSeq_irq (f : Sequencer → Sequencer) : (b.setSeq f).irq = b.irq := rfl
@[simp] theorem block_setSeq_nv (f : Sequencer → Sequencer) : (b.setSeq f).nv = b.nv := rfl
@[simp] theorem block_setSeq_power (f : Sequencer → Sequencer) : (b.setSeq f).power = b.power := rfl
@[simp] theorem block_setSeq_clock (f : Sequencer → Sequencer) : (b.setSeq f).clock = b.clock := rfl
@[simp] theorem block_setSeq_img (f : Sequencer → Sequencer) : (b.setSeq f).img = b.img := rfl
@[simp] theorem block_setSeq_brk (f : Sequencer → Sequencer) : (b.setSeq f).brk = b.brk := rfl
@[simp] theorem block_setSeq_shut (f : Sequencer → Sequencer) : (b.setSeq f).shut = b.shut := rfl
@[simp] theorem block_setSeq_night (f : Sequencer → Sequencer) : (b.setSeq f).night = b.night := rfl
@[simp] theorem block_setSeq_zones (f : Sequencer → Sequencer) : (b.setSeq f).zones = b.zones := rfl
@[simp] theorem block_setSeq_sched (f : Sequencer → Sequencer) : (b.setSeq f).sched = b.sched := rfl
@[simp] theorem block_setSeq_valves (f : Sequencer → Sequencer) : (b.setSeq f).valves = b.valves := rfl
@[simp] theorem block_setSeq_lamps (f : Sequencer → Sequencer) : (b.setSeq f).lamps = b.lamps := rfl
@[simp] theorem block_setSeq_txn (f : Sequencer → Sequencer) : (b.setSeq f).txn = b.txn := rfl
@[simp] theorem block_setSeq_overlay (f : Sequencer → Sequencer) : (b.setSeq f).overlay = b.overlay := rfl
@[simp] theorem block_setSeq_mp (f : Sequencer → Sequencer) : (b.setSeq f).mp = b.mp := rfl
@[simp] theorem block_setSeq_thermal (f : Sequencer → Sequencer) : (b.setSeq f).thermal = b.thermal := rfl
@[simp] theorem block_setSeq_out (f : Sequencer → Sequencer) : (b.setSeq f).out = b.out := rfl

/-! ### Block.setPower -/

@[simp] theorem block_setPower_now (f : Power → Power) : (b.setPower f).now = b.now := rfl
@[simp] theorem block_setPower_free (f : Power → Power) : (b.setPower f).free = b.free := rfl
@[simp] theorem block_setPower_undef (f : Power → Power) : (b.setPower f).undef = b.undef := rfl
@[simp] theorem block_setPower_regs (f : Power → Power) : (b.setPower f).regs = b.regs := rfl
@[simp] theorem block_setPower_mem (f : Power → Power) : (b.setPower f).mem = b.mem := rfl
@[simp] theorem block_setPower_portA (f : Power → Power) : (b.setPower f).portA = b.portA := rfl
@[simp] theorem block_setPower_portB (f : Power → Power) : (b.setPower f).portB = b.portB := rfl
@[simp] theorem block_setPower_tap (f : Power → Power) : (b.setPower f).tap = b.tap := rfl
@[simp] theorem block_setPower_rings (f : Power → Power) : (b.setPower f).rings = b.rings := rfl
@[simp] theorem block_setPower_dbSeq (f : Power → Power) : (b.setPower f).dbSeq = b.dbSeq := rfl
@[simp] theorem block_setPower_dbA (f : Power → Power) : (b.setPower f).dbA = b.dbA := rfl
@[simp] theorem block_setPower_dbB (f : Power → Power) : (b.setPower f).dbB = b.dbB := rfl
@[simp] theorem block_setPower_mail (f : Power → Power) : (b.setPower f).mail = b.mail := rfl
@[simp] theorem block_setPower_seq (f : Power → Power) : (b.setPower f).seq = b.seq := rfl
@[simp] theorem block_setPower_irq (f : Power → Power) : (b.setPower f).irq = b.irq := rfl
@[simp] theorem block_setPower_nv (f : Power → Power) : (b.setPower f).nv = b.nv := rfl
@[simp] theorem block_setPower_power (f : Power → Power) : (b.setPower f).power = f b.power := rfl
@[simp] theorem block_setPower_clock (f : Power → Power) : (b.setPower f).clock = b.clock := rfl
@[simp] theorem block_setPower_img (f : Power → Power) : (b.setPower f).img = b.img := rfl
@[simp] theorem block_setPower_brk (f : Power → Power) : (b.setPower f).brk = b.brk := rfl
@[simp] theorem block_setPower_shut (f : Power → Power) : (b.setPower f).shut = b.shut := rfl
@[simp] theorem block_setPower_night (f : Power → Power) : (b.setPower f).night = b.night := rfl
@[simp] theorem block_setPower_zones (f : Power → Power) : (b.setPower f).zones = b.zones := rfl
@[simp] theorem block_setPower_sched (f : Power → Power) : (b.setPower f).sched = b.sched := rfl
@[simp] theorem block_setPower_valves (f : Power → Power) : (b.setPower f).valves = b.valves := rfl
@[simp] theorem block_setPower_lamps (f : Power → Power) : (b.setPower f).lamps = b.lamps := rfl
@[simp] theorem block_setPower_txn (f : Power → Power) : (b.setPower f).txn = b.txn := rfl
@[simp] theorem block_setPower_overlay (f : Power → Power) : (b.setPower f).overlay = b.overlay := rfl
@[simp] theorem block_setPower_mp (f : Power → Power) : (b.setPower f).mp = b.mp := rfl
@[simp] theorem block_setPower_thermal (f : Power → Power) : (b.setPower f).thermal = b.thermal := rfl
@[simp] theorem block_setPower_out (f : Power → Power) : (b.setPower f).out = b.out := rfl

/-! ### Block.setImg -/

@[simp] theorem block_setImg_now (f : Imager → Imager) : (b.setImg f).now = b.now := rfl
@[simp] theorem block_setImg_free (f : Imager → Imager) : (b.setImg f).free = b.free := rfl
@[simp] theorem block_setImg_undef (f : Imager → Imager) : (b.setImg f).undef = b.undef := rfl
@[simp] theorem block_setImg_regs (f : Imager → Imager) : (b.setImg f).regs = b.regs := rfl
@[simp] theorem block_setImg_mem (f : Imager → Imager) : (b.setImg f).mem = b.mem := rfl
@[simp] theorem block_setImg_portA (f : Imager → Imager) : (b.setImg f).portA = b.portA := rfl
@[simp] theorem block_setImg_portB (f : Imager → Imager) : (b.setImg f).portB = b.portB := rfl
@[simp] theorem block_setImg_tap (f : Imager → Imager) : (b.setImg f).tap = b.tap := rfl
@[simp] theorem block_setImg_rings (f : Imager → Imager) : (b.setImg f).rings = b.rings := rfl
@[simp] theorem block_setImg_dbSeq (f : Imager → Imager) : (b.setImg f).dbSeq = b.dbSeq := rfl
@[simp] theorem block_setImg_dbA (f : Imager → Imager) : (b.setImg f).dbA = b.dbA := rfl
@[simp] theorem block_setImg_dbB (f : Imager → Imager) : (b.setImg f).dbB = b.dbB := rfl
@[simp] theorem block_setImg_mail (f : Imager → Imager) : (b.setImg f).mail = b.mail := rfl
@[simp] theorem block_setImg_seq (f : Imager → Imager) : (b.setImg f).seq = b.seq := rfl
@[simp] theorem block_setImg_irq (f : Imager → Imager) : (b.setImg f).irq = b.irq := rfl
@[simp] theorem block_setImg_nv (f : Imager → Imager) : (b.setImg f).nv = b.nv := rfl
@[simp] theorem block_setImg_power (f : Imager → Imager) : (b.setImg f).power = b.power := rfl
@[simp] theorem block_setImg_clock (f : Imager → Imager) : (b.setImg f).clock = b.clock := rfl
@[simp] theorem block_setImg_img (f : Imager → Imager) : (b.setImg f).img = f b.img := rfl
@[simp] theorem block_setImg_brk (f : Imager → Imager) : (b.setImg f).brk = b.brk := rfl
@[simp] theorem block_setImg_shut (f : Imager → Imager) : (b.setImg f).shut = b.shut := rfl
@[simp] theorem block_setImg_night (f : Imager → Imager) : (b.setImg f).night = b.night := rfl
@[simp] theorem block_setImg_zones (f : Imager → Imager) : (b.setImg f).zones = b.zones := rfl
@[simp] theorem block_setImg_sched (f : Imager → Imager) : (b.setImg f).sched = b.sched := rfl
@[simp] theorem block_setImg_valves (f : Imager → Imager) : (b.setImg f).valves = b.valves := rfl
@[simp] theorem block_setImg_lamps (f : Imager → Imager) : (b.setImg f).lamps = b.lamps := rfl
@[simp] theorem block_setImg_txn (f : Imager → Imager) : (b.setImg f).txn = b.txn := rfl
@[simp] theorem block_setImg_overlay (f : Imager → Imager) : (b.setImg f).overlay = b.overlay := rfl
@[simp] theorem block_setImg_mp (f : Imager → Imager) : (b.setImg f).mp = b.mp := rfl
@[simp] theorem block_setImg_thermal (f : Imager → Imager) : (b.setImg f).thermal = b.thermal := rfl
@[simp] theorem block_setImg_out (f : Imager → Imager) : (b.setImg f).out = b.out := rfl

/-! ### Block.setShut -/

@[simp] theorem block_setShut_now (f : Shutter → Shutter) : (b.setShut f).now = b.now := rfl
@[simp] theorem block_setShut_free (f : Shutter → Shutter) : (b.setShut f).free = b.free := rfl
@[simp] theorem block_setShut_undef (f : Shutter → Shutter) : (b.setShut f).undef = b.undef := rfl
@[simp] theorem block_setShut_regs (f : Shutter → Shutter) : (b.setShut f).regs = b.regs := rfl
@[simp] theorem block_setShut_mem (f : Shutter → Shutter) : (b.setShut f).mem = b.mem := rfl
@[simp] theorem block_setShut_portA (f : Shutter → Shutter) : (b.setShut f).portA = b.portA := rfl
@[simp] theorem block_setShut_portB (f : Shutter → Shutter) : (b.setShut f).portB = b.portB := rfl
@[simp] theorem block_setShut_tap (f : Shutter → Shutter) : (b.setShut f).tap = b.tap := rfl
@[simp] theorem block_setShut_rings (f : Shutter → Shutter) : (b.setShut f).rings = b.rings := rfl
@[simp] theorem block_setShut_dbSeq (f : Shutter → Shutter) : (b.setShut f).dbSeq = b.dbSeq := rfl
@[simp] theorem block_setShut_dbA (f : Shutter → Shutter) : (b.setShut f).dbA = b.dbA := rfl
@[simp] theorem block_setShut_dbB (f : Shutter → Shutter) : (b.setShut f).dbB = b.dbB := rfl
@[simp] theorem block_setShut_mail (f : Shutter → Shutter) : (b.setShut f).mail = b.mail := rfl
@[simp] theorem block_setShut_seq (f : Shutter → Shutter) : (b.setShut f).seq = b.seq := rfl
@[simp] theorem block_setShut_irq (f : Shutter → Shutter) : (b.setShut f).irq = b.irq := rfl
@[simp] theorem block_setShut_nv (f : Shutter → Shutter) : (b.setShut f).nv = b.nv := rfl
@[simp] theorem block_setShut_power (f : Shutter → Shutter) : (b.setShut f).power = b.power := rfl
@[simp] theorem block_setShut_clock (f : Shutter → Shutter) : (b.setShut f).clock = b.clock := rfl
@[simp] theorem block_setShut_img (f : Shutter → Shutter) : (b.setShut f).img = b.img := rfl
@[simp] theorem block_setShut_brk (f : Shutter → Shutter) : (b.setShut f).brk = b.brk := rfl
@[simp] theorem block_setShut_shut (f : Shutter → Shutter) : (b.setShut f).shut = f b.shut := rfl
@[simp] theorem block_setShut_night (f : Shutter → Shutter) : (b.setShut f).night = b.night := rfl
@[simp] theorem block_setShut_zones (f : Shutter → Shutter) : (b.setShut f).zones = b.zones := rfl
@[simp] theorem block_setShut_sched (f : Shutter → Shutter) : (b.setShut f).sched = b.sched := rfl
@[simp] theorem block_setShut_valves (f : Shutter → Shutter) : (b.setShut f).valves = b.valves := rfl
@[simp] theorem block_setShut_lamps (f : Shutter → Shutter) : (b.setShut f).lamps = b.lamps := rfl
@[simp] theorem block_setShut_txn (f : Shutter → Shutter) : (b.setShut f).txn = b.txn := rfl
@[simp] theorem block_setShut_overlay (f : Shutter → Shutter) : (b.setShut f).overlay = b.overlay := rfl
@[simp] theorem block_setShut_mp (f : Shutter → Shutter) : (b.setShut f).mp = b.mp := rfl
@[simp] theorem block_setShut_thermal (f : Shutter → Shutter) : (b.setShut f).thermal = b.thermal := rfl
@[simp] theorem block_setShut_out (f : Shutter → Shutter) : (b.setShut f).out = b.out := rfl

/-! ### Block.setNight -/

@[simp] theorem block_setNight_now (f : Midnight → Midnight) : (b.setNight f).now = b.now := rfl
@[simp] theorem block_setNight_free (f : Midnight → Midnight) : (b.setNight f).free = b.free := rfl
@[simp] theorem block_setNight_undef (f : Midnight → Midnight) : (b.setNight f).undef = b.undef := rfl
@[simp] theorem block_setNight_regs (f : Midnight → Midnight) : (b.setNight f).regs = b.regs := rfl
@[simp] theorem block_setNight_mem (f : Midnight → Midnight) : (b.setNight f).mem = b.mem := rfl
@[simp] theorem block_setNight_portA (f : Midnight → Midnight) : (b.setNight f).portA = b.portA := rfl
@[simp] theorem block_setNight_portB (f : Midnight → Midnight) : (b.setNight f).portB = b.portB := rfl
@[simp] theorem block_setNight_tap (f : Midnight → Midnight) : (b.setNight f).tap = b.tap := rfl
@[simp] theorem block_setNight_rings (f : Midnight → Midnight) : (b.setNight f).rings = b.rings := rfl
@[simp] theorem block_setNight_dbSeq (f : Midnight → Midnight) : (b.setNight f).dbSeq = b.dbSeq := rfl
@[simp] theorem block_setNight_dbA (f : Midnight → Midnight) : (b.setNight f).dbA = b.dbA := rfl
@[simp] theorem block_setNight_dbB (f : Midnight → Midnight) : (b.setNight f).dbB = b.dbB := rfl
@[simp] theorem block_setNight_mail (f : Midnight → Midnight) : (b.setNight f).mail = b.mail := rfl
@[simp] theorem block_setNight_seq (f : Midnight → Midnight) : (b.setNight f).seq = b.seq := rfl
@[simp] theorem block_setNight_irq (f : Midnight → Midnight) : (b.setNight f).irq = b.irq := rfl
@[simp] theorem block_setNight_nv (f : Midnight → Midnight) : (b.setNight f).nv = b.nv := rfl
@[simp] theorem block_setNight_power (f : Midnight → Midnight) : (b.setNight f).power = b.power := rfl
@[simp] theorem block_setNight_clock (f : Midnight → Midnight) : (b.setNight f).clock = b.clock := rfl
@[simp] theorem block_setNight_img (f : Midnight → Midnight) : (b.setNight f).img = b.img := rfl
@[simp] theorem block_setNight_brk (f : Midnight → Midnight) : (b.setNight f).brk = b.brk := rfl
@[simp] theorem block_setNight_shut (f : Midnight → Midnight) : (b.setNight f).shut = b.shut := rfl
@[simp] theorem block_setNight_night (f : Midnight → Midnight) : (b.setNight f).night = f b.night := rfl
@[simp] theorem block_setNight_zones (f : Midnight → Midnight) : (b.setNight f).zones = b.zones := rfl
@[simp] theorem block_setNight_sched (f : Midnight → Midnight) : (b.setNight f).sched = b.sched := rfl
@[simp] theorem block_setNight_valves (f : Midnight → Midnight) : (b.setNight f).valves = b.valves := rfl
@[simp] theorem block_setNight_lamps (f : Midnight → Midnight) : (b.setNight f).lamps = b.lamps := rfl
@[simp] theorem block_setNight_txn (f : Midnight → Midnight) : (b.setNight f).txn = b.txn := rfl
@[simp] theorem block_setNight_overlay (f : Midnight → Midnight) : (b.setNight f).overlay = b.overlay := rfl
@[simp] theorem block_setNight_mp (f : Midnight → Midnight) : (b.setNight f).mp = b.mp := rfl
@[simp] theorem block_setNight_thermal (f : Midnight → Midnight) : (b.setNight f).thermal = b.thermal := rfl
@[simp] theorem block_setNight_out (f : Midnight → Midnight) : (b.setNight f).out = b.out := rfl

/-! ### Block.setZe -/

@[simp] theorem block_setZe_now (f : ZoneEngine → ZoneEngine) : (b.setZe f).now = b.now := rfl
@[simp] theorem block_setZe_free (f : ZoneEngine → ZoneEngine) : (b.setZe f).free = b.free := rfl
@[simp] theorem block_setZe_undef (f : ZoneEngine → ZoneEngine) : (b.setZe f).undef = b.undef := rfl
@[simp] theorem block_setZe_regs (f : ZoneEngine → ZoneEngine) : (b.setZe f).regs = b.regs := rfl
@[simp] theorem block_setZe_mem (f : ZoneEngine → ZoneEngine) : (b.setZe f).mem = b.mem := rfl
@[simp] theorem block_setZe_portA (f : ZoneEngine → ZoneEngine) : (b.setZe f).portA = b.portA := rfl
@[simp] theorem block_setZe_portB (f : ZoneEngine → ZoneEngine) : (b.setZe f).portB = b.portB := rfl
@[simp] theorem block_setZe_tap (f : ZoneEngine → ZoneEngine) : (b.setZe f).tap = b.tap := rfl
@[simp] theorem block_setZe_rings (f : ZoneEngine → ZoneEngine) : (b.setZe f).rings = b.rings := rfl
@[simp] theorem block_setZe_dbSeq (f : ZoneEngine → ZoneEngine) : (b.setZe f).dbSeq = b.dbSeq := rfl
@[simp] theorem block_setZe_dbA (f : ZoneEngine → ZoneEngine) : (b.setZe f).dbA = b.dbA := rfl
@[simp] theorem block_setZe_dbB (f : ZoneEngine → ZoneEngine) : (b.setZe f).dbB = b.dbB := rfl
@[simp] theorem block_setZe_mail (f : ZoneEngine → ZoneEngine) : (b.setZe f).mail = b.mail := rfl
@[simp] theorem block_setZe_seq (f : ZoneEngine → ZoneEngine) : (b.setZe f).seq = b.seq := rfl
@[simp] theorem block_setZe_irq (f : ZoneEngine → ZoneEngine) : (b.setZe f).irq = b.irq := rfl
@[simp] theorem block_setZe_nv (f : ZoneEngine → ZoneEngine) : (b.setZe f).nv = b.nv := rfl
@[simp] theorem block_setZe_power (f : ZoneEngine → ZoneEngine) : (b.setZe f).power = b.power := rfl
@[simp] theorem block_setZe_clock (f : ZoneEngine → ZoneEngine) : (b.setZe f).clock = b.clock := rfl
@[simp] theorem block_setZe_img (f : ZoneEngine → ZoneEngine) : (b.setZe f).img = b.img := rfl
@[simp] theorem block_setZe_brk (f : ZoneEngine → ZoneEngine) : (b.setZe f).brk = b.brk := rfl
@[simp] theorem block_setZe_shut (f : ZoneEngine → ZoneEngine) : (b.setZe f).shut = b.shut := rfl
@[simp] theorem block_setZe_night (f : ZoneEngine → ZoneEngine) : (b.setZe f).night = b.night := rfl
@[simp] theorem block_setZe_zones (f : ZoneEngine → ZoneEngine) : (b.setZe f).zones = f b.zones := rfl
@[simp] theorem block_setZe_sched (f : ZoneEngine → ZoneEngine) : (b.setZe f).sched = b.sched := rfl
@[simp] theorem block_setZe_valves (f : ZoneEngine → ZoneEngine) : (b.setZe f).valves = b.valves := rfl
@[simp] theorem block_setZe_lamps (f : ZoneEngine → ZoneEngine) : (b.setZe f).lamps = b.lamps := rfl
@[simp] theorem block_setZe_txn (f : ZoneEngine → ZoneEngine) : (b.setZe f).txn = b.txn := rfl
@[simp] theorem block_setZe_overlay (f : ZoneEngine → ZoneEngine) : (b.setZe f).overlay = b.overlay := rfl
@[simp] theorem block_setZe_mp (f : ZoneEngine → ZoneEngine) : (b.setZe f).mp = b.mp := rfl
@[simp] theorem block_setZe_thermal (f : ZoneEngine → ZoneEngine) : (b.setZe f).thermal = b.thermal := rfl
@[simp] theorem block_setZe_out (f : ZoneEngine → ZoneEngine) : (b.setZe f).out = b.out := rfl

/-! ### Block.setMp -/

@[simp] theorem block_setMp_now (f : MemPort → MemPort) : (b.setMp f).now = b.now := rfl
@[simp] theorem block_setMp_free (f : MemPort → MemPort) : (b.setMp f).free = b.free := rfl
@[simp] theorem block_setMp_undef (f : MemPort → MemPort) : (b.setMp f).undef = b.undef := rfl
@[simp] theorem block_setMp_regs (f : MemPort → MemPort) : (b.setMp f).regs = b.regs := rfl
@[simp] theorem block_setMp_mem (f : MemPort → MemPort) : (b.setMp f).mem = b.mem := rfl
@[simp] theorem block_setMp_portA (f : MemPort → MemPort) : (b.setMp f).portA = b.portA := rfl
@[simp] theorem block_setMp_portB (f : MemPort → MemPort) : (b.setMp f).portB = b.portB := rfl
@[simp] theorem block_setMp_tap (f : MemPort → MemPort) : (b.setMp f).tap = b.tap := rfl
@[simp] theorem block_setMp_rings (f : MemPort → MemPort) : (b.setMp f).rings = b.rings := rfl
@[simp] theorem block_setMp_dbSeq (f : MemPort → MemPort) : (b.setMp f).dbSeq = b.dbSeq := rfl
@[simp] theorem block_setMp_dbA (f : MemPort → MemPort) : (b.setMp f).dbA = b.dbA := rfl
@[simp] theorem block_setMp_dbB (f : MemPort → MemPort) : (b.setMp f).dbB = b.dbB := rfl
@[simp] theorem block_setMp_mail (f : MemPort → MemPort) : (b.setMp f).mail = b.mail := rfl
@[simp] theorem block_setMp_seq (f : MemPort → MemPort) : (b.setMp f).seq = b.seq := rfl
@[simp] theorem block_setMp_irq (f : MemPort → MemPort) : (b.setMp f).irq = b.irq := rfl
@[simp] theorem block_setMp_nv (f : MemPort → MemPort) : (b.setMp f).nv = b.nv := rfl
@[simp] theorem block_setMp_power (f : MemPort → MemPort) : (b.setMp f).power = b.power := rfl
@[simp] theorem block_setMp_clock (f : MemPort → MemPort) : (b.setMp f).clock = b.clock := rfl
@[simp] theorem block_setMp_img (f : MemPort → MemPort) : (b.setMp f).img = b.img := rfl
@[simp] theorem block_setMp_brk (f : MemPort → MemPort) : (b.setMp f).brk = b.brk := rfl
@[simp] theorem block_setMp_shut (f : MemPort → MemPort) : (b.setMp f).shut = b.shut := rfl
@[simp] theorem block_setMp_night (f : MemPort → MemPort) : (b.setMp f).night = b.night := rfl
@[simp] theorem block_setMp_zones (f : MemPort → MemPort) : (b.setMp f).zones = b.zones := rfl
@[simp] theorem block_setMp_sched (f : MemPort → MemPort) : (b.setMp f).sched = b.sched := rfl
@[simp] theorem block_setMp_valves (f : MemPort → MemPort) : (b.setMp f).valves = b.valves := rfl
@[simp] theorem block_setMp_lamps (f : MemPort → MemPort) : (b.setMp f).lamps = b.lamps := rfl
@[simp] theorem block_setMp_txn (f : MemPort → MemPort) : (b.setMp f).txn = b.txn := rfl
@[simp] theorem block_setMp_overlay (f : MemPort → MemPort) : (b.setMp f).overlay = b.overlay := rfl
@[simp] theorem block_setMp_mp (f : MemPort → MemPort) : (b.setMp f).mp = f b.mp := rfl
@[simp] theorem block_setMp_thermal (f : MemPort → MemPort) : (b.setMp f).thermal = b.thermal := rfl
@[simp] theorem block_setMp_out (f : MemPort → MemPort) : (b.setMp f).out = b.out := rfl

/-! ### Block.setTh -/

@[simp] theorem block_setTh_now (f : Thermal → Thermal) : (b.setTh f).now = b.now := rfl
@[simp] theorem block_setTh_free (f : Thermal → Thermal) : (b.setTh f).free = b.free := rfl
@[simp] theorem block_setTh_undef (f : Thermal → Thermal) : (b.setTh f).undef = b.undef := rfl
@[simp] theorem block_setTh_regs (f : Thermal → Thermal) : (b.setTh f).regs = b.regs := rfl
@[simp] theorem block_setTh_mem (f : Thermal → Thermal) : (b.setTh f).mem = b.mem := rfl
@[simp] theorem block_setTh_portA (f : Thermal → Thermal) : (b.setTh f).portA = b.portA := rfl
@[simp] theorem block_setTh_portB (f : Thermal → Thermal) : (b.setTh f).portB = b.portB := rfl
@[simp] theorem block_setTh_tap (f : Thermal → Thermal) : (b.setTh f).tap = b.tap := rfl
@[simp] theorem block_setTh_rings (f : Thermal → Thermal) : (b.setTh f).rings = b.rings := rfl
@[simp] theorem block_setTh_dbSeq (f : Thermal → Thermal) : (b.setTh f).dbSeq = b.dbSeq := rfl
@[simp] theorem block_setTh_dbA (f : Thermal → Thermal) : (b.setTh f).dbA = b.dbA := rfl
@[simp] theorem block_setTh_dbB (f : Thermal → Thermal) : (b.setTh f).dbB = b.dbB := rfl
@[simp] theorem block_setTh_mail (f : Thermal → Thermal) : (b.setTh f).mail = b.mail := rfl
@[simp] theorem block_setTh_seq (f : Thermal → Thermal) : (b.setTh f).seq = b.seq := rfl
@[simp] theorem block_setTh_irq (f : Thermal → Thermal) : (b.setTh f).irq = b.irq := rfl
@[simp] theorem block_setTh_nv (f : Thermal → Thermal) : (b.setTh f).nv = b.nv := rfl
@[simp] theorem block_setTh_power (f : Thermal → Thermal) : (b.setTh f).power = b.power := rfl
@[simp] theorem block_setTh_clock (f : Thermal → Thermal) : (b.setTh f).clock = b.clock := rfl
@[simp] theorem block_setTh_img (f : Thermal → Thermal) : (b.setTh f).img = b.img := rfl
@[simp] theorem block_setTh_brk (f : Thermal → Thermal) : (b.setTh f).brk = b.brk := rfl
@[simp] theorem block_setTh_shut (f : Thermal → Thermal) : (b.setTh f).shut = b.shut := rfl
@[simp] theorem block_setTh_night (f : Thermal → Thermal) : (b.setTh f).night = b.night := rfl
@[simp] theorem block_setTh_zones (f : Thermal → Thermal) : (b.setTh f).zones = b.zones := rfl
@[simp] theorem block_setTh_sched (f : Thermal → Thermal) : (b.setTh f).sched = b.sched := rfl
@[simp] theorem block_setTh_valves (f : Thermal → Thermal) : (b.setTh f).valves = b.valves := rfl
@[simp] theorem block_setTh_lamps (f : Thermal → Thermal) : (b.setTh f).lamps = b.lamps := rfl
@[simp] theorem block_setTh_txn (f : Thermal → Thermal) : (b.setTh f).txn = b.txn := rfl
@[simp] theorem block_setTh_overlay (f : Thermal → Thermal) : (b.setTh f).overlay = b.overlay := rfl
@[simp] theorem block_setTh_mp (f : Thermal → Thermal) : (b.setTh f).mp = b.mp := rfl
@[simp] theorem block_setTh_thermal (f : Thermal → Thermal) : (b.setTh f).thermal = f b.thermal := rfl
@[simp] theorem block_setTh_out (f : Thermal → Thermal) : (b.setTh f).out = b.out := rfl

/-! ### Block.setOut -/

@[simp] theorem block_setOut_now (f : Output → Output) : (b.setOut f).now = b.now := rfl
@[simp] theorem block_setOut_free (f : Output → Output) : (b.setOut f).free = b.free := rfl
@[simp] theorem block_setOut_undef (f : Output → Output) : (b.setOut f).undef = b.undef := rfl
@[simp] theorem block_setOut_regs (f : Output → Output) : (b.setOut f).regs = b.regs := rfl
@[simp] theorem block_setOut_mem (f : Output → Output) : (b.setOut f).mem = b.mem := rfl
@[simp] theorem block_setOut_portA (f : Output → Output) : (b.setOut f).portA = b.portA := rfl
@[simp] theorem block_setOut_portB (f : Output → Output) : (b.setOut f).portB = b.portB := rfl
@[simp] theorem block_setOut_tap (f : Output → Output) : (b.setOut f).tap = b.tap := rfl
@[simp] theorem block_setOut_rings (f : Output → Output) : (b.setOut f).rings = b.rings := rfl
@[simp] theorem block_setOut_dbSeq (f : Output → Output) : (b.setOut f).dbSeq = b.dbSeq := rfl
@[simp] theorem block_setOut_dbA (f : Output → Output) : (b.setOut f).dbA = b.dbA := rfl
@[simp] theorem block_setOut_dbB (f : Output → Output) : (b.setOut f).dbB = b.dbB := rfl
@[simp] theorem block_setOut_mail (f : Output → Output) : (b.setOut f).mail = b.mail := rfl
@[simp] theorem block_setOut_seq (f : Output → Output) : (b.setOut f).seq = b.seq := rfl
@[simp] theorem block_setOut_irq (f : Output → Output) : (b.setOut f).irq = b.irq := rfl
@[simp] theorem block_setOut_nv (f : Output → Output) : (b.setOut f).nv = b.nv := rfl
@[simp] theorem block_setOut_power (f : Output → Output) : (b.setOut f).power = b.power := rfl
@[simp] theorem block_setOut_clock (f : Output → Output) : (b.setOut f).clock = b.clock := rfl
@[simp] theorem block_setOut_img (f : Output → Output) : (b.setOut f).img = b.img := rfl
@[simp] theorem block_setOut_brk (f : Output → Output) : (b.setOut f).brk = b.brk := rfl
@[simp] theorem block_setOut_shut (f : Output → Output) : (b.setOut f).shut = b.shut := rfl
@[simp] theorem block_setOut_night (f : Output → Output) : (b.setOut f).night = b.night := rfl
@[simp] theorem block_setOut_zones (f : Output → Output) : (b.setOut f).zones = b.zones := rfl
@[simp] theorem block_setOut_sched (f : Output → Output) : (b.setOut f).sched = b.sched := rfl
@[simp] theorem block_setOut_valves (f : Output → Output) : (b.setOut f).valves = b.valves := rfl
@[simp] theorem block_setOut_lamps (f : Output → Output) : (b.setOut f).lamps = b.lamps := rfl
@[simp] theorem block_setOut_txn (f : Output → Output) : (b.setOut f).txn = b.txn := rfl
@[simp] theorem block_setOut_overlay (f : Output → Output) : (b.setOut f).overlay = b.overlay := rfl
@[simp] theorem block_setOut_mp (f : Output → Output) : (b.setOut f).mp = b.mp := rfl
@[simp] theorem block_setOut_thermal (f : Output → Output) : (b.setOut f).thermal = b.thermal := rfl
@[simp] theorem block_setOut_out (f : Output → Output) : (b.setOut f).out = f b.out := rfl

/-! ### Block.setNv -/

@[simp] theorem block_setNv_now (f : NvState → NvState) : (b.setNv f).now = b.now := rfl
@[simp] theorem block_setNv_free (f : NvState → NvState) : (b.setNv f).free = b.free := rfl
@[simp] theorem block_setNv_undef (f : NvState → NvState) : (b.setNv f).undef = b.undef := rfl
@[simp] theorem block_setNv_regs (f : NvState → NvState) : (b.setNv f).regs = b.regs := rfl
@[simp] theorem block_setNv_mem (f : NvState → NvState) : (b.setNv f).mem = b.mem := rfl
@[simp] theorem block_setNv_portA (f : NvState → NvState) : (b.setNv f).portA = b.portA := rfl
@[simp] theorem block_setNv_portB (f : NvState → NvState) : (b.setNv f).portB = b.portB := rfl
@[simp] theorem block_setNv_tap (f : NvState → NvState) : (b.setNv f).tap = b.tap := rfl
@[simp] theorem block_setNv_rings (f : NvState → NvState) : (b.setNv f).rings = b.rings := rfl
@[simp] theorem block_setNv_dbSeq (f : NvState → NvState) : (b.setNv f).dbSeq = b.dbSeq := rfl
@[simp] theorem block_setNv_dbA (f : NvState → NvState) : (b.setNv f).dbA = b.dbA := rfl
@[simp] theorem block_setNv_dbB (f : NvState → NvState) : (b.setNv f).dbB = b.dbB := rfl
@[simp] theorem block_setNv_mail (f : NvState → NvState) : (b.setNv f).mail = b.mail := rfl
@[simp] theorem block_setNv_seq (f : NvState → NvState) : (b.setNv f).seq = b.seq := rfl
@[simp] theorem block_setNv_irq (f : NvState → NvState) : (b.setNv f).irq = b.irq := rfl
@[simp] theorem block_setNv_nv (f : NvState → NvState) : (b.setNv f).nv = f b.nv := rfl
@[simp] theorem block_setNv_power (f : NvState → NvState) : (b.setNv f).power = b.power := rfl
@[simp] theorem block_setNv_clock (f : NvState → NvState) : (b.setNv f).clock = b.clock := rfl
@[simp] theorem block_setNv_img (f : NvState → NvState) : (b.setNv f).img = b.img := rfl
@[simp] theorem block_setNv_brk (f : NvState → NvState) : (b.setNv f).brk = b.brk := rfl
@[simp] theorem block_setNv_shut (f : NvState → NvState) : (b.setNv f).shut = b.shut := rfl
@[simp] theorem block_setNv_night (f : NvState → NvState) : (b.setNv f).night = b.night := rfl
@[simp] theorem block_setNv_zones (f : NvState → NvState) : (b.setNv f).zones = b.zones := rfl
@[simp] theorem block_setNv_sched (f : NvState → NvState) : (b.setNv f).sched = b.sched := rfl
@[simp] theorem block_setNv_valves (f : NvState → NvState) : (b.setNv f).valves = b.valves := rfl
@[simp] theorem block_setNv_lamps (f : NvState → NvState) : (b.setNv f).lamps = b.lamps := rfl
@[simp] theorem block_setNv_txn (f : NvState → NvState) : (b.setNv f).txn = b.txn := rfl
@[simp] theorem block_setNv_overlay (f : NvState → NvState) : (b.setNv f).overlay = b.overlay := rfl
@[simp] theorem block_setNv_mp (f : NvState → NvState) : (b.setNv f).mp = b.mp := rfl
@[simp] theorem block_setNv_thermal (f : NvState → NvState) : (b.setNv f).thermal = b.thermal := rfl
@[simp] theorem block_setNv_out (f : NvState → NvState) : (b.setNv f).out = b.out := rfl

/-! ### Block.setEnc -/

@[simp] theorem block_setEnc_now (f : Encoder → Encoder) : (b.setEnc f).now = b.now := rfl
@[simp] theorem block_setEnc_free (f : Encoder → Encoder) : (b.setEnc f).free = b.free := rfl
@[simp] theorem block_setEnc_undef (f : Encoder → Encoder) : (b.setEnc f).undef = b.undef := rfl
@[simp] theorem block_setEnc_regs (f : Encoder → Encoder) : (b.setEnc f).regs = b.regs := rfl
@[simp] theorem block_setEnc_mem (f : Encoder → Encoder) : (b.setEnc f).mem = b.mem := rfl
@[simp] theorem block_setEnc_portA (f : Encoder → Encoder) : (b.setEnc f).portA = b.portA := rfl
@[simp] theorem block_setEnc_portB (f : Encoder → Encoder) : (b.setEnc f).portB = b.portB := rfl
@[simp] theorem block_setEnc_tap (f : Encoder → Encoder) : (b.setEnc f).tap = b.tap := rfl
@[simp] theorem block_setEnc_rings (f : Encoder → Encoder) : (b.setEnc f).rings = b.rings := rfl
@[simp] theorem block_setEnc_dbSeq (f : Encoder → Encoder) : (b.setEnc f).dbSeq = b.dbSeq := rfl
@[simp] theorem block_setEnc_dbA (f : Encoder → Encoder) : (b.setEnc f).dbA = b.dbA := rfl
@[simp] theorem block_setEnc_dbB (f : Encoder → Encoder) : (b.setEnc f).dbB = b.dbB := rfl
@[simp] theorem block_setEnc_mail (f : Encoder → Encoder) : (b.setEnc f).mail = b.mail := rfl
@[simp] theorem block_setEnc_seq (f : Encoder → Encoder) : (b.setEnc f).seq = b.seq := rfl
@[simp] theorem block_setEnc_irq (f : Encoder → Encoder) : (b.setEnc f).irq = b.irq := rfl
@[simp] theorem block_setEnc_nv (f : Encoder → Encoder) : (b.setEnc f).nv = b.nv := rfl
@[simp] theorem block_setEnc_power (f : Encoder → Encoder) : (b.setEnc f).power = b.power := rfl
@[simp] theorem block_setEnc_clock (f : Encoder → Encoder) : (b.setEnc f).clock = { b.clock with enc := f b.clock.enc } := rfl
@[simp] theorem block_setEnc_img (f : Encoder → Encoder) : (b.setEnc f).img = b.img := rfl
@[simp] theorem block_setEnc_brk (f : Encoder → Encoder) : (b.setEnc f).brk = b.brk := rfl
@[simp] theorem block_setEnc_shut (f : Encoder → Encoder) : (b.setEnc f).shut = b.shut := rfl
@[simp] theorem block_setEnc_night (f : Encoder → Encoder) : (b.setEnc f).night = b.night := rfl
@[simp] theorem block_setEnc_zones (f : Encoder → Encoder) : (b.setEnc f).zones = b.zones := rfl
@[simp] theorem block_setEnc_sched (f : Encoder → Encoder) : (b.setEnc f).sched = b.sched := rfl
@[simp] theorem block_setEnc_valves (f : Encoder → Encoder) : (b.setEnc f).valves = b.valves := rfl
@[simp] theorem block_setEnc_lamps (f : Encoder → Encoder) : (b.setEnc f).lamps = b.lamps := rfl
@[simp] theorem block_setEnc_txn (f : Encoder → Encoder) : (b.setEnc f).txn = b.txn := rfl
@[simp] theorem block_setEnc_overlay (f : Encoder → Encoder) : (b.setEnc f).overlay = b.overlay := rfl
@[simp] theorem block_setEnc_mp (f : Encoder → Encoder) : (b.setEnc f).mp = b.mp := rfl
@[simp] theorem block_setEnc_thermal (f : Encoder → Encoder) : (b.setEnc f).thermal = b.thermal := rfl
@[simp] theorem block_setEnc_out (f : Encoder → Encoder) : (b.setEnc f).out = b.out := rfl

/-! ### Block.setSync -/

@[simp] theorem block_setSync_now (f : Sync → Sync) : (b.setSync f).now = b.now := rfl
@[simp] theorem block_setSync_free (f : Sync → Sync) : (b.setSync f).free = b.free := rfl
@[simp] theorem block_setSync_undef (f : Sync → Sync) : (b.setSync f).undef = b.undef := rfl
@[simp] theorem block_setSync_regs (f : Sync → Sync) : (b.setSync f).regs = b.regs := rfl
@[simp] theorem block_setSync_mem (f : Sync → Sync) : (b.setSync f).mem = b.mem := rfl
@[simp] theorem block_setSync_portA (f : Sync → Sync) : (b.setSync f).portA = b.portA := rfl
@[simp] theorem block_setSync_portB (f : Sync → Sync) : (b.setSync f).portB = b.portB := rfl
@[simp] theorem block_setSync_tap (f : Sync → Sync) : (b.setSync f).tap = b.tap := rfl
@[simp] theorem block_setSync_rings (f : Sync → Sync) : (b.setSync f).rings = b.rings := rfl
@[simp] theorem block_setSync_dbSeq (f : Sync → Sync) : (b.setSync f).dbSeq = b.dbSeq := rfl
@[simp] theorem block_setSync_dbA (f : Sync → Sync) : (b.setSync f).dbA = b.dbA := rfl
@[simp] theorem block_setSync_dbB (f : Sync → Sync) : (b.setSync f).dbB = b.dbB := rfl
@[simp] theorem block_setSync_mail (f : Sync → Sync) : (b.setSync f).mail = b.mail := rfl
@[simp] theorem block_setSync_seq (f : Sync → Sync) : (b.setSync f).seq = b.seq := rfl
@[simp] theorem block_setSync_irq (f : Sync → Sync) : (b.setSync f).irq = b.irq := rfl
@[simp] theorem block_setSync_nv (f : Sync → Sync) : (b.setSync f).nv = b.nv := rfl
@[simp] theorem block_setSync_power (f : Sync → Sync) : (b.setSync f).power = b.power := rfl
@[simp] theorem block_setSync_clock (f : Sync → Sync) : (b.setSync f).clock = { b.clock with sync := f b.clock.sync } := rfl
@[simp] theorem block_setSync_img (f : Sync → Sync) : (b.setSync f).img = b.img := rfl
@[simp] theorem block_setSync_brk (f : Sync → Sync) : (b.setSync f).brk = b.brk := rfl
@[simp] theorem block_setSync_shut (f : Sync → Sync) : (b.setSync f).shut = b.shut := rfl
@[simp] theorem block_setSync_night (f : Sync → Sync) : (b.setSync f).night = b.night := rfl
@[simp] theorem block_setSync_zones (f : Sync → Sync) : (b.setSync f).zones = b.zones := rfl
@[simp] theorem block_setSync_sched (f : Sync → Sync) : (b.setSync f).sched = b.sched := rfl
@[simp] theorem block_setSync_valves (f : Sync → Sync) : (b.setSync f).valves = b.valves := rfl
@[simp] theorem block_setSync_lamps (f : Sync → Sync) : (b.setSync f).lamps = b.lamps := rfl
@[simp] theorem block_setSync_txn (f : Sync → Sync) : (b.setSync f).txn = b.txn := rfl
@[simp] theorem block_setSync_overlay (f : Sync → Sync) : (b.setSync f).overlay = b.overlay := rfl
@[simp] theorem block_setSync_mp (f : Sync → Sync) : (b.setSync f).mp = b.mp := rfl
@[simp] theorem block_setSync_thermal (f : Sync → Sync) : (b.setSync f).thermal = b.thermal := rfl
@[simp] theorem block_setSync_out (f : Sync → Sync) : (b.setSync f).out = b.out := rfl

/-! ### Block.setBoost -/

@[simp] theorem block_setBoost_now (f : Boost → Boost) : (b.setBoost f).now = b.now := rfl
@[simp] theorem block_setBoost_free (f : Boost → Boost) : (b.setBoost f).free = b.free := rfl
@[simp] theorem block_setBoost_undef (f : Boost → Boost) : (b.setBoost f).undef = b.undef := rfl
@[simp] theorem block_setBoost_regs (f : Boost → Boost) : (b.setBoost f).regs = b.regs := rfl
@[simp] theorem block_setBoost_mem (f : Boost → Boost) : (b.setBoost f).mem = b.mem := rfl
@[simp] theorem block_setBoost_portA (f : Boost → Boost) : (b.setBoost f).portA = b.portA := rfl
@[simp] theorem block_setBoost_portB (f : Boost → Boost) : (b.setBoost f).portB = b.portB := rfl
@[simp] theorem block_setBoost_tap (f : Boost → Boost) : (b.setBoost f).tap = b.tap := rfl
@[simp] theorem block_setBoost_rings (f : Boost → Boost) : (b.setBoost f).rings = b.rings := rfl
@[simp] theorem block_setBoost_dbSeq (f : Boost → Boost) : (b.setBoost f).dbSeq = b.dbSeq := rfl
@[simp] theorem block_setBoost_dbA (f : Boost → Boost) : (b.setBoost f).dbA = b.dbA := rfl
@[simp] theorem block_setBoost_dbB (f : Boost → Boost) : (b.setBoost f).dbB = b.dbB := rfl
@[simp] theorem block_setBoost_mail (f : Boost → Boost) : (b.setBoost f).mail = b.mail := rfl
@[simp] theorem block_setBoost_seq (f : Boost → Boost) : (b.setBoost f).seq = b.seq := rfl
@[simp] theorem block_setBoost_irq (f : Boost → Boost) : (b.setBoost f).irq = b.irq := rfl
@[simp] theorem block_setBoost_nv (f : Boost → Boost) : (b.setBoost f).nv = b.nv := rfl
@[simp] theorem block_setBoost_power (f : Boost → Boost) : (b.setBoost f).power = b.power := rfl
@[simp] theorem block_setBoost_clock (f : Boost → Boost) : (b.setBoost f).clock = b.clock := rfl
@[simp] theorem block_setBoost_img (f : Boost → Boost) : (b.setBoost f).img = b.img := rfl
@[simp] theorem block_setBoost_brk (f : Boost → Boost) : (b.setBoost f).brk = b.brk := rfl
@[simp] theorem block_setBoost_shut (f : Boost → Boost) : (b.setBoost f).shut = b.shut := rfl
@[simp] theorem block_setBoost_night (f : Boost → Boost) : (b.setBoost f).night = b.night := rfl
@[simp] theorem block_setBoost_zones (f : Boost → Boost) : (b.setBoost f).zones = b.zones := rfl
@[simp] theorem block_setBoost_sched (f : Boost → Boost) : (b.setBoost f).sched = b.sched := rfl
@[simp] theorem block_setBoost_valves (f : Boost → Boost) : (b.setBoost f).valves = { b.valves with boost := f b.valves.boost } := rfl
@[simp] theorem block_setBoost_lamps (f : Boost → Boost) : (b.setBoost f).lamps = b.lamps := rfl
@[simp] theorem block_setBoost_txn (f : Boost → Boost) : (b.setBoost f).txn = b.txn := rfl
@[simp] theorem block_setBoost_overlay (f : Boost → Boost) : (b.setBoost f).overlay = b.overlay := rfl
@[simp] theorem block_setBoost_mp (f : Boost → Boost) : (b.setBoost f).mp = b.mp := rfl
@[simp] theorem block_setBoost_thermal (f : Boost → Boost) : (b.setBoost f).thermal = b.thermal := rfl
@[simp] theorem block_setBoost_out (f : Boost → Boost) : (b.setBoost f).out = b.out := rfl

/-! ### Block.setValve -/

@[simp] theorem block_setValve_now (k : Nat) (f : ValveChannel → ValveChannel) : (b.setValve k f).now = b.now := rfl
@[simp] theorem block_setValve_free (k : Nat) (f : ValveChannel → ValveChannel) : (b.setValve k f).free = b.free := rfl
@[simp] theorem block_setValve_undef (k : Nat) (f : ValveChannel → ValveChannel) : (b.setValve k f).undef = b.undef := rfl
@[simp] theorem block_setValve_regs (k : Nat) (f : ValveChannel → ValveChannel) : (b.setValve k f).regs = b.regs := rfl
@[simp] theorem block_setValve_mem (k : Nat) (f : ValveChannel → ValveChannel) : (b.setValve k f).mem = b.mem := rfl
@[simp] theorem block_setValve_portA (k : Nat) (f : ValveChannel → ValveChannel) : (b.setValve k f).portA = b.portA := rfl
@[simp] theorem block_setValve_portB (k : Nat) (f : ValveChannel → ValveChannel) : (b.setValve k f).portB = b.portB := rfl
@[simp] theorem block_setValve_tap (k : Nat) (f : ValveChannel → ValveChannel) : (b.setValve k f).tap = b.tap := rfl
@[simp] theorem block_setValve_rings (k : Nat) (f : ValveChannel → ValveChannel) : (b.setValve k f).rings = b.rings := rfl
@[simp] theorem block_setValve_dbSeq (k : Nat) (f : ValveChannel → ValveChannel) : (b.setValve k f).dbSeq = b.dbSeq := rfl
@[simp] theorem block_setValve_dbA (k : Nat) (f : ValveChannel → ValveChannel) : (b.setValve k f).dbA = b.dbA := rfl
@[simp] theorem block_setValve_dbB (k : Nat) (f : ValveChannel → ValveChannel) : (b.setValve k f).dbB = b.dbB := rfl
@[simp] theorem block_setValve_mail (k : Nat) (f : ValveChannel → ValveChannel) : (b.setValve k f).mail = b.mail := rfl
@[simp] theorem block_setValve_seq (k : Nat) (f : ValveChannel → ValveChannel) : (b.setValve k f).seq = b.seq := rfl
@[simp] theorem block_setValve_irq (k : Nat) (f : ValveChannel → ValveChannel) : (b.setValve k f).irq = b.irq := rfl
@[simp] theorem block_setValve_nv (k : Nat) (f : ValveChannel → ValveChannel) : (b.setValve k f).nv = b.nv := rfl
@[simp] theorem block_setValve_power (k : Nat) (f : ValveChannel → ValveChannel) : (b.setValve k f).power = b.power := rfl
@[simp] theorem block_setValve_clock (k : Nat) (f : ValveChannel → ValveChannel) : (b.setValve k f).clock = b.clock := rfl
@[simp] theorem block_setValve_img (k : Nat) (f : ValveChannel → ValveChannel) : (b.setValve k f).img = b.img := rfl
@[simp] theorem block_setValve_brk (k : Nat) (f : ValveChannel → ValveChannel) : (b.setValve k f).brk = b.brk := rfl
@[simp] theorem block_setValve_shut (k : Nat) (f : ValveChannel → ValveChannel) : (b.setValve k f).shut = b.shut := rfl
@[simp] theorem block_setValve_night (k : Nat) (f : ValveChannel → ValveChannel) : (b.setValve k f).night = b.night := rfl
@[simp] theorem block_setValve_zones (k : Nat) (f : ValveChannel → ValveChannel) : (b.setValve k f).zones = b.zones := rfl
@[simp] theorem block_setValve_sched (k : Nat) (f : ValveChannel → ValveChannel) : (b.setValve k f).sched = b.sched := rfl
@[simp] theorem block_setValve_valves (k : Nat) (f : ValveChannel → ValveChannel) : (b.setValve k f).valves = { b.valves with chans := updAt b.valves.chans k f } := rfl
@[simp] theorem block_setValve_lamps (k : Nat) (f : ValveChannel → ValveChannel) : (b.setValve k f).lamps = b.lamps := rfl
@[simp] theorem block_setValve_txn (k : Nat) (f : ValveChannel → ValveChannel) : (b.setValve k f).txn = b.txn := rfl
@[simp] theorem block_setValve_overlay (k : Nat) (f : ValveChannel → ValveChannel) : (b.setValve k f).overlay = b.overlay := rfl
@[simp] theorem block_setValve_mp (k : Nat) (f : ValveChannel → ValveChannel) : (b.setValve k f).mp = b.mp := rfl
@[simp] theorem block_setValve_thermal (k : Nat) (f : ValveChannel → ValveChannel) : (b.setValve k f).thermal = b.thermal := rfl
@[simp] theorem block_setValve_out (k : Nat) (f : ValveChannel → ValveChannel) : (b.setValve k f).out = b.out := rfl

/-! ### Block.setBank -/

@[simp] theorem block_setBank_now (k : Nat) (f : Bank → Bank) : (b.setBank k f).now = b.now := rfl
@[simp] theorem block_setBank_free (k : Nat) (f : Bank → Bank) : (b.setBank k f).free = b.free := rfl
@[simp] theorem block_setBank_undef (k : Nat) (f : Bank → Bank) : (b.setBank k f).undef = b.undef := rfl
@[simp] theorem block_setBank_regs (k : Nat) (f : Bank → Bank) : (b.setBank k f).regs = b.regs := rfl
@[simp] theorem block_setBank_mem (k : Nat) (f : Bank → Bank) : (b.setBank k f).mem = b.mem := rfl
@[simp] theorem block_setBank_portA (k : Nat) (f : Bank → Bank) : (b.setBank k f).portA = b.portA := rfl
@[simp] theorem block_setBank_portB (k : Nat) (f : Bank → Bank) : (b.setBank k f).portB = b.portB := rfl
@[simp] theorem block_setBank_tap (k : Nat) (f : Bank → Bank) : (b.setBank k f).tap = b.tap := rfl
@[simp] theorem block_setBank_rings (k : Nat) (f : Bank → Bank) : (b.setBank k f).rings = b.rings := rfl
@[simp] theorem block_setBank_dbSeq (k : Nat) (f : Bank → Bank) : (b.setBank k f).dbSeq = b.dbSeq := rfl
@[simp] theorem block_setBank_dbA (k : Nat) (f : Bank → Bank) : (b.setBank k f).dbA = b.dbA := rfl
@[simp] theorem block_setBank_dbB (k : Nat) (f : Bank → Bank) : (b.setBank k f).dbB = b.dbB := rfl
@[simp] theorem block_setBank_mail (k : Nat) (f : Bank → Bank) : (b.setBank k f).mail = b.mail := rfl
@[simp] theorem block_setBank_seq (k : Nat) (f : Bank → Bank) : (b.setBank k f).seq = b.seq := rfl
@[simp] theorem block_setBank_irq (k : Nat) (f : Bank → Bank) : (b.setBank k f).irq = b.irq := rfl
@[simp] theorem block_setBank_nv (k : Nat) (f : Bank → Bank) : (b.setBank k f).nv = b.nv := rfl
@[simp] theorem block_setBank_power (k : Nat) (f : Bank → Bank) : (b.setBank k f).power = b.power := rfl
@[simp] theorem block_setBank_clock (k : Nat) (f : Bank → Bank) : (b.setBank k f).clock = b.clock := rfl
@[simp] theorem block_setBank_img (k : Nat) (f : Bank → Bank) : (b.setBank k f).img = b.img := rfl
@[simp] theorem block_setBank_brk (k : Nat) (f : Bank → Bank) : (b.setBank k f).brk = b.brk := rfl
@[simp] theorem block_setBank_shut (k : Nat) (f : Bank → Bank) : (b.setBank k f).shut = b.shut := rfl
@[simp] theorem block_setBank_night (k : Nat) (f : Bank → Bank) : (b.setBank k f).night = b.night := rfl
@[simp] theorem block_setBank_zones (k : Nat) (f : Bank → Bank) : (b.setBank k f).zones = b.zones := rfl
@[simp] theorem block_setBank_sched (k : Nat) (f : Bank → Bank) : (b.setBank k f).sched = b.sched := rfl
@[simp] theorem block_setBank_valves (k : Nat) (f : Bank → Bank) : (b.setBank k f).valves = { b.valves with banks := updAt b.valves.banks k f } := rfl
@[simp] theorem block_setBank_lamps (k : Nat) (f : Bank → Bank) : (b.setBank k f).lamps = b.lamps := rfl
@[simp] theorem block_setBank_txn (k : Nat) (f : Bank → Bank) : (b.setBank k f).txn = b.txn := rfl
@[simp] theorem block_setBank_overlay (k : Nat) (f : Bank → Bank) : (b.setBank k f).overlay = b.overlay := rfl
@[simp] theorem block_setBank_mp (k : Nat) (f : Bank → Bank) : (b.setBank k f).mp = b.mp := rfl
@[simp] theorem block_setBank_thermal (k : Nat) (f : Bank → Bank) : (b.setBank k f).thermal = b.thermal := rfl
@[simp] theorem block_setBank_out (k : Nat) (f : Bank → Bank) : (b.setBank k f).out = b.out := rfl

/-! ### Block.setLamp -/

@[simp] theorem block_setLamp_now (k : Nat) (f : LampChannel → LampChannel) : (b.setLamp k f).now = b.now := rfl
@[simp] theorem block_setLamp_free (k : Nat) (f : LampChannel → LampChannel) : (b.setLamp k f).free = b.free := rfl
@[simp] theorem block_setLamp_undef (k : Nat) (f : LampChannel → LampChannel) : (b.setLamp k f).undef = b.undef := rfl
@[simp] theorem block_setLamp_regs (k : Nat) (f : LampChannel → LampChannel) : (b.setLamp k f).regs = b.regs := rfl
@[simp] theorem block_setLamp_mem (k : Nat) (f : LampChannel → LampChannel) : (b.setLamp k f).mem = b.mem := rfl
@[simp] theorem block_setLamp_portA (k : Nat) (f : LampChannel → LampChannel) : (b.setLamp k f).portA = b.portA := rfl
@[simp] theorem block_setLamp_portB (k : Nat) (f : LampChannel → LampChannel) : (b.setLamp k f).portB = b.portB := rfl
@[simp] theorem block_setLamp_tap (k : Nat) (f : LampChannel → LampChannel) : (b.setLamp k f).tap = b.tap := rfl
@[simp] theorem block_setLamp_rings (k : Nat) (f : LampChannel → LampChannel) : (b.setLamp k f).rings = b.rings := rfl
@[simp] theorem block_setLamp_dbSeq (k : Nat) (f : LampChannel → LampChannel) : (b.setLamp k f).dbSeq = b.dbSeq := rfl
@[simp] theorem block_setLamp_dbA (k : Nat) (f : LampChannel → LampChannel) : (b.setLamp k f).dbA = b.dbA := rfl
@[simp] theorem block_setLamp_dbB (k : Nat) (f : LampChannel → LampChannel) : (b.setLamp k f).dbB = b.dbB := rfl
@[simp] theorem block_setLamp_mail (k : Nat) (f : LampChannel → LampChannel) : (b.setLamp k f).mail = b.mail := rfl
@[simp] theorem block_setLamp_seq (k : Nat) (f : LampChannel → LampChannel) : (b.setLamp k f).seq = b.seq := rfl
@[simp] theorem block_setLamp_irq (k : Nat) (f : LampChannel → LampChannel) : (b.setLamp k f).irq = b.irq := rfl
@[simp] theorem block_setLamp_nv (k : Nat) (f : LampChannel → LampChannel) : (b.setLamp k f).nv = b.nv := rfl
@[simp] theorem block_setLamp_power (k : Nat) (f : LampChannel → LampChannel) : (b.setLamp k f).power = b.power := rfl
@[simp] theorem block_setLamp_clock (k : Nat) (f : LampChannel → LampChannel) : (b.setLamp k f).clock = b.clock := rfl
@[simp] theorem block_setLamp_img (k : Nat) (f : LampChannel → LampChannel) : (b.setLamp k f).img = b.img := rfl
@[simp] theorem block_setLamp_brk (k : Nat) (f : LampChannel → LampChannel) : (b.setLamp k f).brk = b.brk := rfl
@[simp] theorem block_setLamp_shut (k : Nat) (f : LampChannel → LampChannel) : (b.setLamp k f).shut = b.shut := rfl
@[simp] theorem block_setLamp_night (k : Nat) (f : LampChannel → LampChannel) : (b.setLamp k f).night = b.night := rfl
@[simp] theorem block_setLamp_zones (k : Nat) (f : LampChannel → LampChannel) : (b.setLamp k f).zones = b.zones := rfl
@[simp] theorem block_setLamp_sched (k : Nat) (f : LampChannel → LampChannel) : (b.setLamp k f).sched = b.sched := rfl
@[simp] theorem block_setLamp_valves (k : Nat) (f : LampChannel → LampChannel) : (b.setLamp k f).valves = b.valves := rfl
@[simp] theorem block_setLamp_lamps (k : Nat) (f : LampChannel → LampChannel) : (b.setLamp k f).lamps = { b.lamps with chans := updAt b.lamps.chans k f } := rfl
@[simp] theorem block_setLamp_txn (k : Nat) (f : LampChannel → LampChannel) : (b.setLamp k f).txn = b.txn := rfl
@[simp] theorem block_setLamp_overlay (k : Nat) (f : LampChannel → LampChannel) : (b.setLamp k f).overlay = b.overlay := rfl
@[simp] theorem block_setLamp_mp (k : Nat) (f : LampChannel → LampChannel) : (b.setLamp k f).mp = b.mp := rfl
@[simp] theorem block_setLamp_thermal (k : Nat) (f : LampChannel → LampChannel) : (b.setLamp k f).thermal = b.thermal := rfl
@[simp] theorem block_setLamp_out (k : Nat) (f : LampChannel → LampChannel) : (b.setLamp k f).out = b.out := rfl

end Sys2Proof.Laws
end

