-- ==== Sys2Proof/Laws/Step.lean ====
section
/-! SUPPORT. What a step and the shapes of a meaning can do, said once. -/

namespace Sys2Proof.Laws

open Sys2Proof.Machine

variable {s t : State} {dt : Nat}

/-- A step with a command at the front of the queue is the command's meaning on the state with the queue's rest. -/
theorem step_cons (c : Instr) (rest : List Instr) (h : s.pending = c :: rest) : step s = exec c { s with pending := rest } := by
  unfold step; rw [h]

/-- A step on an empty queue changes nothing. -/
theorem step_nil (h : s.pending = []) : step s = .next s := by
  unfold step; rw [h]

/-- Outside undefined behaviour a meaning of the plain shape answers a next state. -/
theorem run_defined (f : Block → Block) (h : s.m.undef = none) :
    s.run dt f = .next { s with m := (f (s.m.elapse dt)).offWhileUndef,
                                nests := s.nests.after (f (s.m.elapse dt)).offWhileUndef.power.mode } := by
  unfold State.run; rw [h]

/-- After a case of the catalogue a meaning of the plain shape stops. -/
theorem run_undefined (f : Block → Block) {c : UndefCase} (h : s.m.undef = some c) : s.run dt f = .fault (.undefinedBehaviour c) := by
  unfold State.run; rw [h]

/-- Everything a meaning of the plain shape can do. -/
theorem run_next (f : Block → Block) (h : s.run dt f = .next t) :
    s.m.undef = none ∧ t.pending = s.pending ∧ t.m = (f (s.m.elapse dt)).offWhileUndef ∧ t.nests = s.nests.after t.m.power.mode := by
  cases hu : s.m.undef with
  | some c => rw [run_undefined f hu] at h; cases h
  | none => rw [run_defined f hu] at h; cases h; exact ⟨rfl, rfl, rfl, rfl⟩

/-- Outside undefined behaviour a meaning that changes the nests answers a next state. -/
theorem runNests_defined (f : Nests → Block → Nests × Block) (h : s.m.undef = none) :
    s.runNests dt f = .next { s with m := (f s.nests (s.m.elapse dt)).2.offWhileUndef,
                                     nests := (f s.nests (s.m.elapse dt)).1.after (f s.nests (s.m.elapse dt)).2.power.mode } := by
  unfold State.runNests; rw [h]

/-- After a case of the catalogue a meaning that changes the nests stops. -/
theorem runNests_undefined (f : Nests → Block → Nests × Block) {c : UndefCase} (h : s.m.undef = some c) :
    s.runNests dt f = .fault (.undefinedBehaviour c) := by
  unfold State.runNests; rw [h]

/-- Everything a meaning that changes the nests can do. -/
theorem runNests_next (f : Nests → Block → Nests × Block) (h : s.runNests dt f = .next t) :
    s.m.undef = none ∧ t.pending = s.pending ∧ t.m = (f s.nests (s.m.elapse dt)).2.offWhileUndef ∧
    t.nests = (f s.nests (s.m.elapse dt)).1.after (f s.nests (s.m.elapse dt)).2.power.mode := by
  cases hu : s.m.undef with
  | some c => rw [runNests_undefined f hu] at h; cases h
  | none => rw [runNests_defined f hu] at h; cases h; exact ⟨rfl, rfl, rfl, rfl⟩

/-- A host-port command that the ports answer. -/
theorem runPort_answers (p : Port) (f : Block → HostResult × Block) (h : s.m.undef = none) (hp : (s.m.elapse dt).portsAnswer = true) :
    s.runPort dt p f = .next { s with m := (portResult p (f (s.m.elapse dt))).offWhileUndef,
                                      nests := s.nests.after (portResult p (f (s.m.elapse dt))).offWhileUndef.power.mode } := by
  unfold State.runPort; rw [run_defined _ h, if_pos hp]

/-- Whether the ports answer does not depend on the time. -/
@[simp] theorem portsAnswer_elapse (b : Block) : (b.elapse dt).portsAnswer = b.portsAnswer := rfl

/-- A block outside undefined behaviour is left as it is. -/
@[simp] theorem offWhileUndef_defined (b : Block) (h : b.undef = none) : b.offWhileUndef = b := by
  simp [Block.offWhileUndef, h]

/-- Holding the outputs off leaves the case, the mode and the registers alone. -/
@[simp] theorem offWhileUndef_undef (b : Block) : b.offWhileUndef.undef = b.undef := by
  unfold Block.offWhileUndef; split <;> rfl
@[simp] theorem offWhileUndef_power (b : Block) : b.offWhileUndef.power = b.power := by
  unfold Block.offWhileUndef; split <;> rfl
@[simp] theorem offWhileUndef_regs (b : Block) : b.offWhileUndef.regs = b.regs := by
  unfold Block.offWhileUndef; split <;> rfl

/-- Outside undefined behaviour a meaning of the plain shape answers its result. -/
theorem run_result (f : Block → Block) (h : s.defined) : s.run dt f = .next (s.result (f (s.m.elapse dt))) := by
  rw [run_defined f h]; simp [State.result]

/-- Outside undefined behaviour a meaning that changes the stacks answers its result. -/
theorem runNests_result (f : Nests → Block → Nests × Block) (h : s.defined) :
    s.runNests dt f = .next ({ s with nests := (f s.nests (s.m.elapse dt)).1 }.result (f s.nests (s.m.elapse dt)).2) := by
  rw [runNests_defined f h]; simp [State.result]

/-- Outside undefined behaviour a command of a host port that answers gives its result. -/
theorem runPort_result (p : Port) (f : Block → HostResult × Block) (h : s.defined) (hp : s.m.portsAnswer = true) :
    s.runPort dt p f = .next (s.portResult p (f (s.m.elapse dt)).1 (f (s.m.elapse dt)).2) := by
  unfold State.runPort
  rw [run_result _ h, if_pos (by rw [portsAnswer_elapse]; exact hp)]
  rfl

/-- A reset answers always. -/
theorem runReset_result (f : Block → Block) : s.runReset dt f = .next (s.afterReset (f (s.m.elapse dt))) := rfl

/-- What a result leaves in the queue and, outside undefined behaviour, on the block. -/
@[simp] theorem result_pending (m : Block) : (s.result m).pending = s.pending := rfl
theorem result_m {m : Block} (h : m.undef = none) : (s.result m).m = m := by
  show m.offWhileUndef = m
  exact offWhileUndef_defined m h

/-- The stacks stay where the mode keeps them. -/
@[simp] theorem nests_after_kept (n : Nests) {m : PowerMode} (h : m.lost = false) : n.after m = n := by
  simp [Nests.after, h]

/-! ## The passing of time changes nothing but the time, the press time and what follows from them -/

section
variable (b : Block) (dt : Nat)
@[simp] theorem elapse_word (i : Nat) : (b.elapse dt).word i = b.word i := rfl
@[simp] theorem elapse_get (f : RegField) : (b.elapse dt).get f = b.get f := rfl
@[simp] theorem elapse_flag (f : RegField) : (b.elapse dt).flag f = b.flag f := rfl
@[simp] theorem elapse_bitAt (f : RegField) (i : Nat) : (b.elapse dt).bitAt f i = b.bitAt f i := rfl
@[simp] theorem elapse_phase : (b.elapse dt).phase = b.phase := rfl
@[simp] theorem elapse_railsValid : (b.elapse dt).railsValid = b.railsValid := rfl
@[simp] theorem elapse_ring (k : Nat) : (b.elapse dt).ring k = b.ring k := rfl
@[simp] theorem elapse_valve (n : Nat) : (b.elapse dt).valve n = b.valve n := rfl
@[simp] theorem elapse_bank (x : Nat) : (b.elapse dt).bank x = b.bank x := rfl
@[simp] theorem elapse_lamp (k : Nat) : (b.elapse dt).lamp k = b.lamp k := rfl
end

end Sys2Proof.Laws
end

