-- ==== Sys2Proof/Tests/Slice0.lean ====
section
/-! SUPPORT. The package's own tests: ill-formed commands are refused by name of the check; each statement with hypotheses has a
witness that meets them, clause by clause; single commands give the values the manual states. -/

set_option Elab.async false

namespace Sys2Proof.Tests

open Sys2Proof Sys2Proof.Machine

/-! ## States of the tests -/

/-- The block in RUN with Dawn over. -/
def ready : Block := ((Block.reset.setPhase 6).setFlag R.SYS_STATUS.RUNNING true).setPower (fun x => { x with d2 := true })

/-- The state that holds a block, with nothing waiting. -/
def holding (b : Block) : State := ⟨[], {}, b⟩

/-- `ready` with its power state changed. -/
def powered (f : Power → Power) : State := holding (ready.setPower f)

/-- `ready` with words from HPA on channel 0, to SEQ. -/
def said (ws : List Word) : State := holding (ready.setToward 0 2 ws)

/-- A Dusk of a cause in its step, DUSK_STEP reading `done`. -/
def inDusk (c : DuskCause) (step done : Nat) (f : Block → Block := id) : State :=
  holding (f (((ready.setPower (fun x => { x with dusk := some ⟨c, 0⟩ })).setSeq (fun x =>
    { x with routine := some .dusk, step := step })).set R.PW_STATUS.DUSK_STEP done))

/-- The block in a phase of Dawn. -/
def inDawn (phase : Nat) (f : Block → Block := id) : State :=
  holding (f ((Block.reset.setPhase phase).setPower (fun x => { x with d2 := decide (2 ≤ phase) })))

/-- The store with an empty payload sealed in copy A of the base pair. -/
def sealedEmpty (b : Block) : Block := b.setNv (fun x => { x with cells := Mem.writeBytes 0xFF#8 [] 0x4FF8 (sealBytes [] 1) })

/-- Bytes of a directory entry of a type and an index, with no payload (R277). -/
def dirBytes (type index : Nat) : List Byte := leBytes 2 type ++ leBytes 2 index ++ List.replicate 28 0#8

/-- A Woler header over 20 directory entries at byte 64 and an empty table of block CRCs (R275). -/
def headerBytes : List Byte :=
  let h := [0x57#8, 0x4F#8, 0x4C#8, 0x52#8] ++ leBytes 4 1 ++ leBytes 4 4096 ++ leBytes 4 64 ++ leBytes 4 20 ++ leBytes 4 0x4410 ++
    List.replicate 36 0#8
  h ++ leBytes 4 (crc32 h)

/-- The bytes of an image that passes the checks of R281. -/
def imageBytes : List Byte :=
  headerBytes ++ (List.range 16).flatMap (dirBytes 1) ++ [2, 3, 4, 5].flatMap (fun t => dirBytes t 0)

/-- The block with a base pair whose slot 5 is an overlay in a Trapeze pair of one page at 0x8000, copy A sealed (R511). -/
def pairSlot (b : Block) : Block :=
  (b.setOv (fun x => { x with pair := List.replicate 56 (0#8 : Byte) ++ [1#8, 0#8] ++ leBytes 2 32 ++ leBytes 4 0x8000 })).setNv
    (fun x => { x with cells := Mem.writeBytes 0xFF#8 [] 0x8038 (sealBytes [] 1) })

/-- What D2 sees of a flash that holds bytes from address 0. -/
def flashWith (bs : List Byte) : DawnInput := { flash := bs.zipIdx.map (fun p => (p.2, p.1)) }

/-- A state is inside the requirements when its block holds no case of the catalogue. -/
theorem inside (s : State) (h : s.m.undef.isNone = true) : s.defined := Option.isNone_iff_eq_none.mp h

/-- Two results in a row that are both there. -/
theorem both_ok {x : Except Nat Block} {f : Block → Except Nat Block} (h : (x.bind f).toBool = true) :
    ∃ y z, x = .ok y ∧ f y = .ok z := by
  cases x with
  | error e => simp [Except.bind, Except.toBool] at h
  | ok y => cases hz : f y with
    | error e => simp [Except.bind, Except.toBool, hz] at h
    | ok z => exact ⟨y, z, rfl, hz⟩

/-- Three results in a row that are all there. -/
theorem all_ok {x : Except Nat Block} {f g : Block → Except Nat Block} (h : ((x.bind f).bind g).toBool = true) :
    ∃ y z w, x = .ok y ∧ f y = .ok z ∧ g z = .ok w := by
  obtain ⟨z, w, hz, hw⟩ := both_ok h
  cases x with
  | error e => simp [Except.bind] at hz
  | ok y => exact ⟨y, z, w, rfl, hz, hw⟩

/-- A result that is there, and an error after it. -/
theorem ok_error {x : Except Nat Block} {f : Block → Except Nat Block} (h : (x.toBool && !(x.bind f).toBool) = true) :
    ∃ y c, x = .ok y ∧ f y = .error c := by
  cases x with
  | error e => simp [Except.toBool] at h
  | ok y => cases hz : f y with
    | error e => exact ⟨y, e, rfl, hz⟩
    | ok z => simp [Except.bind, Except.toBool, hz] at h

/-- A value that is there. -/
theorem some_of {α : Type} {x : Option α} (h : x.isSome = true) : ∃ y, x = some y := Option.isSome_iff_exists.mp h

/-- A command that waits whole at the front of its channel. -/
theorem heard {b : Block} {ch op : Nat} {args : List Nat}
    (h : (b.nextVisit == some ch && match (b.standingAt ch).goodCommand ch op with
      | some (_, ws) => decide (args = ws.map BitVec.toNat)
      | none => false) = true) : ∃ dst t, b.commandAt ch op dst args t := by
  rw [Bool.and_eq_true] at h
  obtain ⟨hv, h⟩ := h
  split at h
  · rename_i w ws hc; exact ⟨_, _, beq_iff_eq.mp hv, w, ws, hc, rfl, of_decide_eq_true h, rfl⟩
  · cases h

/-- The sequencer finds no source to take while the interrupt sources are as after a reset. -/
theorem quiet {b : Block} (h : b.irq = irqReset) : b.seqTakeSources = b := by
  unfold Block.seqTakeSources
  refine (congrArg (List.foldl Block.seqTake b) ?_ : _ = List.foldl Block.seqTake b [])
  rw [h]
  decide +kernel

/-- The same, with what holds of the block after it left its queue, no source being pending. -/
theorem heard_and {b : Block} {ch op : Nat} {args : List Nat} {P : ReplyTo → Block → Bool} (hq : b.irq = irqReset)
    (h : (b.seq.discard.getD ch 0 == 0 && (b.nextVisit == some ch && match (b.visiting ch).goodCommand ch op with
      | some (w, ws) => decide (args = ws.map BitVec.toNat) && P ⟨ch, cmdTag w⟩ ((b.visiting ch).dequeue ch 2 (ws.length + 1))
      | none => false)) = true) : ∃ dst t, b.commandAt ch op dst args t ∧ P dst t = true := by
  rw [Bool.and_eq_true, Bool.and_eq_true] at h
  obtain ⟨hd, hv, h⟩ := h
  have hs : b.standingAt ch = b.visiting ch := by
    have h0 : (b.visiting ch).seq.discard.getD ch 0 = 0 := beq_iff_eq.mp hd
    simp only [Block.standingAt, Block.settleDiscard, h0, Nat.zero_min, if_true]
  split at h
  · rename_i w ws hc
    rw [Bool.and_eq_true] at h
    refine ⟨_, _, ⟨beq_iff_eq.mp hv, w, ws, hs.symm ▸ hc, rfl, of_decide_eq_true h.1, rfl⟩, ?_⟩
    rw [hs, Block.takeCommand, quiet (show (b.visiting ch).irq = irqReset from hq)]; exact h.2
  · cases h

/-! ## Witnesses: the hypotheses of each statement are met -/

theorem witness_StepRunsFrontCommand :
    State.reset.pending = [] ∧ ∃ t, exec (.csiBurst 0 0) State.reset = .next t := ⟨rfl, _, rfl⟩

theorem witness_UndefinedHoldsOutputsOff :
    ∃ s t : State, (s.m.undef.isSome → s.m.outputsOff) ∧ step s = .next t :=
  ⟨State.reset, State.reset, fun h => by simp [State.reset, Block.reset] at h, rfl⟩

theorem witness_CommandsCompleteUnlessUndefined :
    (∃ s u, State.m s = { ready with undef := some .tap } ∧ s.m.undef = some u) ∧ ∃ s : State, s.defined :=
  ⟨⟨holding { ready with undef := some .tap }, .tap, rfl, rfl⟩, ⟨State.reset, rfl⟩⟩

theorem witness_InterruptStacksNeverOverflow :
    let s : State := { State.reset with
      nests := { a := ⟨15, (List.range 15).reverse⟩ }, pending := [.icAck 0 .a 255 15] }
    s.nests.ordered ∧ s.pending.all Instr.wf = true ∧ ∃ t, step s = .next t := by
  refine ⟨?_, by decide +kernel, _, rfl⟩
  simp [Nests.ordered, Nest.ordered, risingBelow, List.range, List.range.loop]

theorem witness_ResetsAndRelease :
    Block.reset.nv.op = none ∧
    (ready.power.valid.contains .vaon = true ∧ ready.power.valid.contains .vcore = true) ∧
    (holding ready).m.power.mode ≠ .off ∧
    (powered (fun x => { x with mode := .off })).m.power.mode = .off ∧
    ((powered (fun x => { x with resetAt := some 1000 })).m.elapse 1000).resetDue = true ∧
    ((powered (fun x => { x with resetAt := some 1000 })).m.elapse 999).resetDue = false ∧
    ((powered (fun x => { x with mode := .off })).defined ∧ (powered (fun x => { x with mode := .off })).m.power.resetLow = false) ∧
    ((powered (fun x => { x with mode := .off, resetLow := true })).defined ∧
      (powered (fun x => { x with mode := .off, resetLow := true })).m.power.resetLow = true) ∧
    ((powered (fun x => { x with mode := .inReset })).defined ∧ (powered (fun x => { x with mode := .inReset })).m.power.mode = .inReset) ∧
    ((holding ready).defined ∧ (holding ready).m.portsAnswer = true) := by
  unfold State.defined
  decide +kernel

/-- D1 with a sealed base pair, D4 with the coefficients kept, D5 with the first publication at its window's end. -/
def dawn1 : State := inDawn 1 sealedEmpty
@[inherit_doc dawn1] def dawn4 : State := inDawn 4 (fun b => (b.setPower (fun x => { x with coeffKept := true })).setBrk (fun x => { x with recValid := true }) |>.set R.CP_STATUS.BRACKET 15)
@[inherit_doc dawn1] def dawn5 : State := inDawn 5 (fun b => { b.setPower (fun x => { x with firstPub := true }) with clock := { b.clock with ticked := true } })

theorem witness_DawnPhasesAdvance :
    ((inDawn 0).defined ∧ (inDawn 0).m.power.mode = .run ∧ (inDawn 0).m.power.dusk = none ∧ (inDawn 0).m.phase = 0) ∧
    (dawn1.defined ∧ dawn1.m.power.mode = .run ∧ dawn1.m.power.dusk = none ∧ dawn1.m.phase = 1 ∧
      ({} : DawnInput).identity = some {} ∧ ∃ c, dawn1.m.inForce 0x4000 64 = some c) ∧
    (let s := inDawn 2 (fun b => b.setPower (fun x => { x with kind := .warmD2 }))
     let inp := flashWith headerBytes
     s.defined ∧ s.m.power.mode = .run ∧ s.m.power.dusk = none ∧ s.m.phase = 2 ∧ s.m.railsValid = true ∧ inp.pll = true ∧
      s.m.power.kind = .warmD2 ∧
      ∃ y z, ((s.m.elapse 0).setFlag R.TB_STATUS.PLL_LOCK true).probeFlash inp = .ok y ∧ y.checkImage inp = .ok z) ∧
    (let s := inDawn 2
     let inp := flashWith imageBytes
     s.defined ∧ s.m.power.mode = .run ∧ s.m.power.dusk = none ∧ s.m.phase = 2 ∧ s.m.railsValid = true ∧ inp.pll = true ∧
      s.m.power.kind ≠ .warmD2 ∧
      ∃ y z w, ((s.m.elapse 0).setFlag R.TB_STATUS.PLL_LOCK true).probeFlash inp = .ok y ∧ y.checkImage inp = .ok z ∧
        z.applyBase inp = .ok w) ∧
    (let s := inDawn 3 (fun b => b.setPower (fun x => { x with settled := true }))
     s.defined ∧ s.m.power.mode = .run ∧ s.m.power.dusk = none ∧ s.m.phase = 3 ∧ s.m.power.settled = true) ∧
    (dawn4.defined ∧ dawn4.m.power.mode = .run ∧ dawn4.m.power.dusk = none ∧ dawn4.m.phase = 4 ∧
      (dawn4.m.elapse 0).resumeCopyback.power.coeffKept = true ∧ (dawn4.m.elapse 0).resumeCopyback.bracketInPlace = true) ∧
    (dawn5.defined ∧ dawn5.m.power.mode = .run ∧ dawn5.m.power.dusk = none ∧ dawn5.m.phase = 5 ∧ dawn5.m.power.firstPub = true ∧
      dawn5.m.clock.ticked = true ∧ dawn5.m.now + 14999 < dawn5.m.clock.lastTick + 100 * dawn5.m.clock.row0) := by
  dsimp only
  and_intros <;> first | decide +kernel |
    ((with_reducible first | refine inside _ ?_ | refine both_ok ?_ | refine all_ok ?_ | refine some_of ?_); decide +kernel)

theorem witness_DawnHaltsAndRetries :
    (let s := inDawn 2 (fun b => b.setPower (fun x => { x with valid := [] }))
     s.defined ∧ s.m.power.mode = .run ∧ s.m.power.dusk = none ∧ s.m.phase = 2 ∧ s.m.railsValid = false) ∧
    (let s := inDawn 2
     let inp : DawnInput := { pll := false }
     s.defined ∧ s.m.power.mode = .run ∧ s.m.power.dusk = none ∧ s.m.phase = 2 ∧ s.m.railsValid = true ∧ inp.pll = false) ∧
    (let s := inDawn 2
     let inp : DawnInput := {}
     s.defined ∧ s.m.power.mode = .run ∧ s.m.power.dusk = none ∧ s.m.phase = 2 ∧ s.m.railsValid = true ∧ inp.pll = true ∧
      ∃ y c, ((s.m.elapse 0).setFlag R.TB_STATUS.PLL_LOCK true).probeFlash inp = .ok y ∧ y.checkImage inp = .error c) ∧
    (R.PW_CTL.DAWN_RETRY.get 0x100#32 = 1 ∧ R.PW_CTL.DUSK_KEY.get 0x100#32 ≠ 0xD5 ∧
     (let s := inDawn 14
      s.defined ∧ s.m.portsAnswer = true ∧ s.m.phase = 14 ∧ s.m.power.kind ≠ .warmD2) ∧
     (let s := inDawn 14 (fun b => b.setPower (fun x => { x with kind := .warmD2 }))
      s.defined ∧ s.m.portsAnswer = true ∧ s.m.phase = 14 ∧ s.m.power.kind = .warmD2) ∧
     (let s := holding ready
      s.defined ∧ s.m.portsAnswer = true ∧ s.m.phase ≠ 14)) := by
  dsimp only
  and_intros <;> first | decide +kernel |
    ((with_reducible first | refine inside _ ?_ | refine ok_error ?_); decide +kernel)

theorem witness_DuskStarts :
    ((holding ready).defined ∧ (holding ready).m.portsAnswer = true ∧ R.PW_CTL.DAWN_RETRY.get 0xD5#32 = 0 ∧
      R.PW_CTL.DUSK_KEY.get 0xD5#32 = 0xD5) ∧
    ((holding ready).defined ∧ (holding ready).m.power.valid.contains .vdda = true ∧ (holding ready).m.power.valid.contains .vdrv = true ∧
      (holding ready).m.power.mode.lost = false) ∧
    (ready.power.dusk = none ∧ ready.power.mode.lost = false) ∧
    ((inDusk .pfail 1 0).m.power.dusk.isSome = true ∧ (powered (fun x => { x with mode := .deep })).m.power.mode.lost = true) := by
  unfold State.defined
  decide +kernel

theorem witness_DuskEnds :
    (let s := inDusk .pfail 5 4
     s.defined ∧ s.m.power.dusk = some ⟨.pfail, 0⟩ ∧ s.m.seq.routine = some .dusk ∧ s.m.seq.step = 5) ∧
    (let s := inDusk .rail 8 7
     s.defined ∧ s.m.power.dusk = some ⟨.rail, 0⟩ ∧ s.m.get R.PW_STATUS.DUSK_STEP = 7 ∧ s.m.railsValid = true) ∧
    (let s := inDusk .thermal 8 7
     s.defined ∧ s.m.power.dusk = some ⟨.thermal, 0⟩ ∧ s.m.get R.PW_STATUS.DUSK_STEP = 7) ∧
    (let s := inDusk .pfail 8 7 (fun b => b.setPower (fun x => { x with valid := [] }))
     s.defined ∧ s.m.power.dusk = some ⟨.pfail, 0⟩ ∧ s.m.get R.PW_STATUS.DUSK_STEP = 7 ∧ s.m.railsValid = false) := by
  unfold State.defined
  dsimp only
  decide +kernel

theorem witness_RailsLostAndRestored :
    (let s := holding ready
     s.defined ∧ s.m.power.valid.contains .vsht = true ∧ s.m.power.mode.lost = false) ∧
    (let s := powered (fun x => { x with valid := [.vaon, .vcore] })
     s.defined ∧ (s.m.power.valid ++ s.m.power.restoring).contains .vsht = false ∧ s.m.power.mode.lost = false) := by
  unfold State.defined
  dsimp only
  decide +kernel

theorem witness_SettleAndDawnSamples :
    ((inDawn 3).defined ∧ (inDawn 3).m.settling = true ∧ 150 ≤ ((inDawn 3).m.elapse 16000000).settleMs) ∧
    ((inDawn 2).defined ∧ (inDawn 2).m.settling = false) ∧
    ((inDawn 2).defined ∧ (inDawn 2).m.samples1ms = true ∧ (inDawn 2).m.power.bias = false) ∧
    (let s := inDawn 3 (fun b => b.setPower (fun x => { x with bias := true }))
     s.defined ∧ s.m.samples1ms = true ∧ s.m.power.bias = true ∧ s.m.phase ≠ 5 ∧
      (((s.m.elapse 0).thermistor (s.m.get R.TB_FRAME.FRAME) 131072).1.thermalSample []).2 = false ∧
      s.m.now = s.m.power.phaseAt ∧ s.m.power.phaseAt + 1000000 ≤ (s.m.elapse 1000000).now) ∧
    (let s := inDawn 5 (fun b => b.setPower (fun x => { x with bias := true }))
     s.defined ∧ s.m.samples1ms = true ∧ s.m.power.bias = true ∧ s.m.phase = 5 ∧ ((s.m.elapse 0).thermalSample []).2 = false) := by
  unfold State.defined
  dsimp only
  decide +kernel

/-- Asleep in a mode, every wake source enabled. -/
def asleep (m : PowerMode) : State :=
  holding ((ready.setPower (fun x => { x with mode := m, wakeEn := 63 })).setWord 0x12 63#32)

theorem witness_WakesResume :
    (let s := asleep .nap
     s.defined ∧ s.m.power.mode = .nap ∧ s.m.seq.routine = none ∧ s.m.wakeHits (1 % 32) ≠ 0 ∧ s.m.wakeHits 32 ≠ 0) ∧
    (let s := asleep .deep
     s.defined ∧ s.m.power.mode = .deep ∧ s.m.seq.routine = none ∧ s.m.wakeHits (1 % 32) ≠ 0) ∧
    (let s := asleep .idle
     s.defined ∧ s.m.power.mode = .idle ∧ s.m.seq.routine = none ∧ s.m.wakeHits (1 % 32) ≠ 0) ∧
    (let s := holding ((asleep .run).m.setSeq (fun x => { x with routine := some .sleepEntry }))
     s.defined ∧ s.m.power.mode = .run ∧ s.m.seq.routine = some .sleepEntry ∧ s.m.wakeHits (1 % 32) ≠ 0) ∧
    (let s := holding ((asleep .nap).m.setSeq (fun x => { x with routine := some .sleepExit }))
     s.defined ∧ s.m.power.mode = .nap ∧ s.m.seq.routine = some .sleepExit ∧ s.m.wakeHits (1 % 32) ≠ 0) ∧
    (let s := asleep .nap
     s.defined ∧ s.m.power.mode ≠ .run ∧ s.m.power.mode ≠ .idle ∧ s.m.wakeHits (16 % 32) = 0) ∧
    ((holding ready).defined ∧ (holding ready).m.power.mode = .run ∧ (holding ready).m.wakeHits (1 % 32) = 0) ∧
    (∀ m ∈ [PowerMode.nap, .deep, .idle], let s := holding ((asleep m).m.set R.PW_AON_TIMER.PERIOD 1)
     s.m.undef = none ∧ s.m.power.mode = m ∧ s.m.seq.routine = none ∧ s.m.wakeHits 32 ≠ 0 ∧
       100000000 * s.m.get R.PW_AON_TIMER.PERIOD ≤ 32768 * (s.m.now + 3052 - s.m.power.pubAt) ∧
       32768 * (s.m.now + 3051 - s.m.power.pubAt) < 100000000 * s.m.get R.PW_AON_TIMER.PERIOD) := by
  unfold State.defined
  dsimp only
  decide +kernel

/-! ### The sequencer -/

/-- A command word: opcode, argument count and tag (R554). -/
def cmd (op count : Nat) : Word := BitVec.ofNat 32 (op * 2 ^ 24 + count * 2 ^ 16 + 7)

theorem witness_CommandsAnswerAtOnce :
    ((said [cmd 1 2, 5#32, 6#32]).defined ∧ ∃ dst t, ((said [cmd 1 2, 5#32, 6#32]).m.elapse 0).commandAt 0 0x01 dst [5, 6] t) ∧
    ((said [cmd 2 0]).defined ∧ ∃ dst t, ((said [cmd 2 0]).m.elapse 0).commandAt 0 0x02 dst [] t) ∧
    ((said [cmd 3 0]).defined ∧ ∃ dst t, ((said [cmd 3 0]).m.elapse 0).commandAt 0 0x03 dst [] t) ∧
    (let s := holding ((ready.setOv (fun x => { x with pair := deliveredBase })).setToward 0 2 [cmd 0x13 1, 63#32])
     s.defined ∧ ∃ dst t, (s.m.elapse 0).commandAt 0 0x13 dst [63] t ∧ ((t.slotOf 63).src == 2) = true) ∧
    (let s := said [cmd 0x13 1, 0#32]
     s.defined ∧ ∃ dst t, (s.m.elapse 0).commandAt 0 0x13 dst [0] t ∧ ((t.slotOf 0).src == 0) = true) ∧
    (let s := holding ((pairSlot ready).setToward 0 2 [cmd 0x13 1, 5#32])
     s.defined ∧ ∃ dst t, (s.m.elapse 0).commandAt 0 0x13 dst [5] t ∧
       ((t.slotOf 5).src == 1 && t.pairFound (t.slotOf 5).addr (slotPages (t.slotOf 5).len) == {} &&
         (t.inForce (t.slotOf 5).addr (slotPages (t.slotOf 5).len)).isSome) = true) ∧
    (let s := said [cmd 0x13 1, 64#32]
     s.defined ∧ ∃ dst t, (s.m.elapse 0).commandAt 0 0x13 dst [64] t) ∧
    (let s := said [cmd 0x50 3, 1#32, 0#32, 64#32]
     s.defined ∧ ∃ dst t, (s.m.elapse 0).commandAt 0 0x50 dst [1, 0, 64] t ∧
       ((t.ring 1).en && ((t.ring 1).role == 1 || (t.ring 1).role == 2) && t.hostEnd 0 == some (t.ring 1).owner) = true) ∧
    (let s := said [cmd 0x50 3, 1#32, 0#32, 65#32]
     s.defined ∧ ∃ dst t, (s.m.elapse 0).commandAt 0 0x50 dst [1, 0, 65] t) ∧
    (let s := said [cmd 0x50 3, 31#32, 0#32, 1#32]
     s.defined ∧ ∃ dst t, (s.m.elapse 0).commandAt 0 0x50 dst [31, 0, 1] t ∧ (!(t.ring 31).en) = true) ∧
    (let s := said [cmd 0x51 0]
     s.defined ∧ ∃ dst t, (s.m.elapse 0).commandAt 0 0x51 dst [] t) ∧
    (let s := said [cmd 0x60 1, 31#32]
     s.defined ∧ ∃ dst t, (s.m.elapse 0).commandAt 0 0x60 dst [31] t) ∧
    (let s := said [cmd 0x70 4, 1#32, 2#32, 3#32, 4#32]
     s.defined ∧ ∃ dst t, (s.m.elapse 0).commandAt 0 0x70 dst [1, 2, 3, 4] t) ∧
    ((said [cmd 2 0]).defined ∧ ((said [cmd 2 0]).m.elapse 0).nextVisit ≠ some 1) := by
  dsimp only
  and_intros <;> first | decide +kernel |
    ((with_reducible first | refine inside _ ?_ | refine heard ?_); decide +kernel) |
    ((with_reducible refine heard_and ?_ ?_); exact rfl; decide +kernel)

theorem witness_RoutineCommandsStart :
    (let s := said [cmd 0x10 2, 255#32, 0xFFFFFFFF#32]
     s.defined ∧ (∃ dst t, (s.m.elapse 0).commandAt 0 0x10 dst [255, 0xFFFFFFFF] t) ∧ s.m.mayStart = true) ∧
    (let s := said [cmd 0x11 1, 63#32]
     s.defined ∧ (∃ dst t, (s.m.elapse 0).commandAt 0 0x11 dst [63] t) ∧ s.m.mayStart = true) ∧
    (let s := said [cmd 0x10 2, 254#32, 0#32]
     s.defined ∧ s.m.mayStart = true ∧ (∃ dst t, (s.m.elapse 0).commandAt 0 0x10 dst [254, 0] t)) ∧
    (let s := said [cmd 0x11 1, 64#32]
     s.defined ∧ s.m.mayStart = true ∧ (∃ dst t, (s.m.elapse 0).commandAt 0 0x11 dst [64] t)) ∧
    (let s := said [cmd 0x12 1, 9#32]
     s.defined ∧ (∃ dst t, (s.m.elapse 0).commandAt 0 0x12 dst [9] t) ∧ s.m.mayStart = true) ∧
    (let s := said [cmd 0x20 0]
     s.defined ∧ (∃ dst t, (s.m.elapse 0).commandAt 0 0x20 dst [] t) ∧ s.m.mayStart = true) ∧
    (let s := said [cmd 0x30 0]
     s.defined ∧ (∃ dst t, (s.m.elapse 0).commandAt 0 0x30 dst [] t) ∧ s.m.mayStart = true ∧ s.m.nv.op = none) ∧
    (let s := holding ((said [cmd 0x52 0]).m.setNv (fun x => { x with op := some { kind := .window } }))
     s.defined ∧ (∃ dst t, (s.m.elapse 0).commandAt 0 0x52 dst [] t) ∧ s.m.mayStart = true ∧ s.m.nv.op = some { kind := .window }) ∧
    (let s := said [cmd 0x40 1, 3#32]
     s.defined ∧ (∃ dst t, (s.m.elapse 0).commandAt 0 0x40 dst [3] t) ∧ s.m.mayStart = true ∧ s.m.sleepRefused (sleepTarget 3) = true) ∧
    (let s := said [cmd 0x40 1, 1#32]
     s.defined ∧ (∃ dst t, (s.m.elapse 0).commandAt 0 0x40 dst [1] t) ∧ s.m.mayStart = true ∧
       s.m.sleepRefused (sleepTarget 1) = false ∧ s.m.power.signal = none) ∧
    (let s := said [cmd 0x40 1, 0#32]
     s.defined ∧ (∃ dst t, (s.m.elapse 0).commandAt 0 0x40 dst [0] t) ∧ s.m.mayStart = true) ∧
    (let s := holding ((inDawn 3).m.setToward 0 2 [cmd 0x40 1, 2#32])
     s.defined ∧ (∃ dst t, (s.m.elapse 0).commandAt 0 0x40 dst [2] t) ∧ s.m.dawned = false) := by
  dsimp only
  and_intros <;> first | decide +kernel |
    ((with_reducible first | refine inside _ ?_ | refine heard ?_); decide +kernel)

/-- `ready` with a routine of the sequencer in a step, and words from HPA on channel 0. -/
def running (k : RoutineKind) (step : Nat) (ws : List Word) : State :=
  holding ((ready.setSeq (fun x => { x with routine := some k, step := step })).setToward 0 2 ws)

/-- `ready` with something held until the routine before it has ended. -/
def keeping (h : Held) : State := holding (ready.setSeq (fun x => { x with held := [h] }))

theorem witness_RoutineCommandsWait :
    (let s := running .flush 0 [cmd 0x40 1, 1#32]
     s.defined ∧ s.m.seq.routine ≠ some .midnight ∧ (s.m.elapse 0).nextVisit = some 0 ∧
       ((s.m.elapse 0).standingAt 0).goodCommand 0 0x40 = some (cmd 0x40 1, [1#32]) ∧ s.m.mayStart = false ∧ s.m.dawned = true) ∧
    (let b := ((keeping (.command 0 (cmd 0x30 0) [])).m.setToward 0 2 [cmd 0x40 1, 1#32]).setSeq (fun x => { x with routine := some .flush })
     (b.settleDiscard 0).goodCommand 0 0x40 = some (cmd 0x40 1, [1#32]) ∧ b.mayStart = false ∧ b.slotFull 0 = true ∧ b.dawned = true) ∧
    (let b := (((keeping (.command 0 (cmd 0x30 0) [])).m.setToward 0 2 [cmd 0x12 1, 1#32]).setSeq (fun x =>
         { x with routine := some .midnight })).setNight (fun x => { x with running := true, step := 8 })
     (b.settleDiscard 0).goodCommand 0 0x12 = some (cmd 0x12 1, [1#32]) ∧ b.mayStart = false ∧ b.slotFull 0 = true ∧ 8 ≤ b.night.step) ∧
    (let s := holding ((running .midnight 7 [cmd 0x10 2, 63#32, 9#32]).m.setNight (fun x => { x with running := true, step := 7 }))
     s.defined ∧ s.m.seq.routine = some .midnight ∧ s.m.night.step < 8 ∧ (∃ dst t, (s.m.elapse 0).commandAt 0 0x10 dst [63, 9] t)) ∧
    (let s := holding ((running .midnight 1 [cmd 0x12 1, 9#32]).m.setNight (fun x => { x with running := true, step := 1 }))
     s.defined ∧ s.m.seq.routine = some .midnight ∧ s.m.night.step < 8 ∧ (∃ dst t, (s.m.elapse 0).commandAt 0 0x12 dst [9] t)) ∧
    (let s := keeping (.command 0 (cmd 0x30 0) [])
     s.defined ∧ s.m.seqListens = true ∧ s.m.seq.routine = none ∧ s.m.dawned = true ∧ s.m.seq.held = .command 0 (cmd 0x30 0) [] :: []) ∧
    (let s := keeping (.midnight 0)
     s.defined ∧ s.m.seqListens = true ∧ s.m.seq.routine = none ∧ s.m.dawned = true ∧ s.m.seq.held = .midnight 0 :: []) ∧
    ((holding ready).defined ∧ (holding ready).m.seq.held = []) := by
  dsimp only
  and_intros <;> first | decide +kernel |
    ((with_reducible first | refine inside _ ?_ | refine heard ?_); decide +kernel)

theorem witness_AbortAndBadCommands :
    (∀ k ∈ ([.midnight, .overlay, .flush, .sleepEntry, .dawn, .dusk, .sleepExit] : List RoutineKind),
      let s := running k 1 [cmd 0x21 0]
      s.m.undef.isNone = true ∧ s.m.seq.routine = some k ∧
        ((s.m.elapse 0).nextVisit == some 0 && match ((s.m.elapse 0).standingAt 0).goodCommand 0 0x21 with
          | some (_, ws) => decide ([] = ws.map BitVec.toNat)
          | none => false) = true) ∧
    (let s := said [cmd 0x21 0]
     s.defined ∧ (∃ dst t, (s.m.elapse 0).commandAt 0 0x21 dst [] t) ∧ s.m.seq.routine = none) ∧
    (let s := said [cmd 0x01 8]
     s.defined ∧ (s.m.elapse 0).nextVisit = some 0 ∧ ((s.m.elapse 0).standingAt 0).nextCommand 0 = some (cmd 0x01 8, []) ∧
       cmdGood (cmd 0x01 8) = false) ∧
    (let s := said [cmd 0x7F 0]
     s.defined ∧ (s.m.elapse 0).nextVisit = some 0 ∧ ((s.m.elapse 0).standingAt 0).nextCommand 0 = some (cmd 0x7F 0, []) ∧
       cmdGood (cmd 0x7F 0) = false) := by
  dsimp only
  and_intros <;> first | decide +kernel |
    ((with_reducible first | refine inside _ ?_ | refine heard ?_); decide +kernel)

theorem witness_SlicesAndRestarts :
    (∀ k ∈ ([some .overlay, some .flush, some .sleepEntry, none] : List (Option RoutineKind)),
      let s := holding (ready.setSeq (fun x => { x with routine := k, step := 1 }))
      let b := (List.range 8).foldl Block.settleDiscard (s.m.elapse 0).seqTakeSources
      s.m.undef.isNone = true ∧ s.m.power.mode = .run ∧ s.m.seqListens = true ∧ s.m.night.running = false ∧
        b.plainWaits = false ∧ s.m.seq.routine = k) ∧
    (let s := said [cmd 0x01 0]
     let b := (List.range 8).foldl Block.settleDiscard (s.m.elapse 0).seqTakeSources
     s.m.undef.isNone = true ∧ s.m.power.mode = .run ∧ s.m.seqListens = true ∧ b.plainWaits = true ∧ s.m.seq.routine ≠ some .dusk) ∧
    (let s := holding ((running .midnight 0 []).m.setNight (fun x => { x with running := true }))
     let b := (List.range 8).foldl Block.settleDiscard (s.m.elapse 0).seqTakeSources
     s.m.undef.isNone = true ∧ s.m.power.mode = .run ∧ s.m.seqListens = true ∧ b.plainWaits = false ∧ s.m.night.running = true ∧
       s.m.seq.routine = some .midnight ∧ s.m.night.abortCause = none ∧ b.sliceDone.nightAccept.seq.routine = some .midnight) ∧
    (∀ n ∈ [1, 2, 3, 4, 5, 6, 7], let s := inDusk .request n (n - 1)
      s.m.undef.isNone = true ∧ s.m.power.mode = .run ∧ s.m.seq.routine = some .dusk ∧ s.m.seq.step = n) ∧
    (let s := inDusk .request 5 4
     s.m.nvBusy = false ∧ s.m.power.flushStarted = false ∧ s.m.flag R.PW_CTL.PERSIST_FLUSH = true ∧
      (s.m.setNv (fun x => { x with op := some { kind := .segment } })).nvBusy = true) ∧
    (let s := running .flush 1 []
     s.defined ∧ s.m.power.mode = .run ∧ s.m.seq.routine = some .flush ∧ s.m.seq.restarts < 2) ∧
    (let s := holding (ready.setSeq (fun x => { x with routine := some .flush, restarts := 2 }))
     s.defined ∧ s.m.power.mode = .run ∧ s.m.seq.routine = some .flush ∧ 2 ≤ s.m.seq.restarts) ∧
    (let s := holding (ready.setSeq (fun x => { x with routine := some .dusk, restarts := 2 }))
     s.defined ∧ s.m.power.mode = .run ∧ s.m.seq.routine = some .dusk ∧ 2 ≤ s.m.seq.restarts) := by
  refine ⟨?_, ?_, ?_, ?_⟩
  · intro k hk
    dsimp only
    rw [quiet rfl]
    revert k
    decide +kernel
  · dsimp only
    rw [quiet rfl]
    decide +kernel
  · dsimp only
    rw [quiet rfl]
    decide +kernel
  · unfold State.defined
    dsimp only
    decide +kernel

theorem witness_RepliesAndPeerWords :
    (let s := holding (ready.setSeq (fun x => { x with waiting := [(0, [1#32])] }))
     s.defined ∧ s.m.power.mode = .run ∧ s.m.seq.waiting.find? (fun p => p.1 == 0) = some (0, [1#32]) ∧ s.m.hostEnd 0 = some 0) ∧
    (let s := holding (ready.setToward 2 3 [1#32, 2#32, 3#32, 4#32])
     s.defined ∧ s.m.power.mode = .run ∧ ((s.m.booth 2).other 3).isSome = true ∧ s.m.peerRoom = true ∧ 4 ≤ (s.m.toward 2 3).length) ∧
    (let s := holding (ready.setToward 2 2 [1#32, 2#32, 3#32, 4#32])
     s.defined ∧ s.m.seqListens = true ∧ s.m.otherEnd 2 2 = some 3 ∧ 4 ≤ (s.m.toward 2 2).length) := by
  unfold State.defined
  dsimp only
  decide +kernel

/-! ### Host ports, registers, interrupts, mailboxes and rings -/

/-- `ready` with port A changed. -/
def ported (f : PortState → PortState) : State := holding (ready.setPort .a f)

theorem witness_RegisterFieldsByClass :
    (R.AS_CTL.LATE_GRACE ∈ fieldsOf 0x60 ∧ R.AS_CTL.LATE_GRACE.acc = .rw ∧ R.AS_CTL.LATE_GRACE.cls ≠ .S) ∧
    (let b := ready.setFlag R.TB_ENC_CTL.EN true
     R.TB_ENC_CTL.FILT ∈ fieldsOf 0x2A ∧ R.TB_ENC_CTL.FILT.acc = .rw ∧ R.TB_ENC_CTL.FILT.cls = .X ∧ b.ownerRuns 0x2A = true) ∧
    (R.CFG_STATUS.LATE ∈ fieldsOf 0x93 ∧ R.CFG_STATUS.LATE.acc = .w1c) ∧
    (R.VD_CTL.MODE ∈ fieldsOf 0x70 ∧ R.VD_CTL.MODE.acc = .rw ∧ R.VD_CTL.MODE.cls = .S) ∧
    (R.CFG_STATUS.OPEN ∈ fieldsOf 0x93 ∧ R.CFG_STATUS.OPEN.acc = .ro) ∧
    (R.PW_CTL.DUSK_KEY ∈ fieldsOf 0x11 ∧ R.PW_CTL.DUSK_KEY.acc = .wo) ∧
    ∃ f ∈ fieldsOf f.idx, f.acc = .rc := by
  and_intros
  all_goals first | decide +kernel | exact ⟨R.AS_COUNT.PEAK, by decide +kernel, by decide +kernel⟩

theorem witness_RegisterAccessCompletes :
    ((holding ready).defined ∧ (holding ready).m.portsAnswer = true) ∧
    (0xFF < 256 ∧ 0xFF ∉ [0x05, 0x0A, 0x11, 0xC5, 0xC7]) ∧
    (∃ idx < 256, assigned idx = false) ∧
    (R.AS_CANCEL_CNT.CANCELS ∈ fieldsOf R.AS_CANCEL_CNT.CANCELS.idx ∧ R.AS_CANCEL_CNT.CANCELS ≠ R.AS_COUNT.PEAK ∧
      R.AS_CANCEL_CNT.CANCELS ≠ R.VO_STATUS.BUF_PEAK ∧ rcBits.contains R.AS_CANCEL_CNT.CANCELS = false) ∧
    (∃ f ∈ rcBits, f ∈ fieldsOf f.idx ∧ f ≠ R.AS_COUNT.PEAK ∧ f ≠ R.VO_STATUS.BUF_PEAK) ∧
    (R.TB_FRAME.FRAME ∈ fieldsOf R.TB_FRAME.FRAME.idx ∧ R.TB_FRAME.FRAME ≠ R.AS_CANCEL_CNT.CANCELS) := by
  unfold State.defined
  decide +kernel

theorem witness_WindowAccesses :
    ((holding ready).defined ∧ (holding ready).m.portsAnswer = true ∧ (holding ready).m.img.cpRun = false ∧
      (holding ready).m.brk.sums = false ∧ (holding ready).m.nvBusy = false ∧
      (holding (ready.setNv (fun x => { x with op := some { kind := .window } }))).m.nvBusy = true ∧
      ((holding ready).m.nvFound 0x4000 4).bad = [] ∧
      ((holding (ready.setNv (fun x => { x with bad := [0x800] }))).m.nvFound 0x4000 4).bad ≠ []) ∧
    ([0x00800000, 0x0087FFFC].all (fun a => regionOf a == .ring) ∧ regionOf 0x005FFFFC = .pixels ∧ regionOf 0x00780000 = .bref ∧
      regionOf 0x00900000 = .staged ∧ stagedWord 0x00924004 = true ∧ regionOf 0x00924004 = .staged ∧ regionOf 0x00C00000 = .interrupt ∧
      regionOf 0x00600000 = .shadow ∧ regionOf 0x00784000 = .work ∧ regionOf 0x00910000 = .results ∧ regionOf 0x00918000 = .armed ∧
      regionOf 0x00930000 = .journal ∧ regionOf 0x00940000 = .booth ∧ regionOf 0x13FFFFFC = .flash0 ∧ regionOf 0x17FFFFFC = .flash1 ∧
      regionOf 0xFFFFFFFC = .absent ∧ regionOf 0x00A00000 = .vendor ∧ regionOf 0x00A04000 = .store ∧
      0xE0 ≤ (0xE0#32).toNat ∧ (0xEF#32).toNat ≤ 0xEF) ∧
    (let s := ported (fun x => { x with winAddr := 0x10000100, ra := { line := 0x100001, ready := true } })
     s.defined ∧ s.m.portsAnswer = true ∧ regionOf (s.m.port .a).winAddr = .flash0 ∧ (s.m.port .a).ra.ready = true ∧
      (s.m.port .a).ra.line = (s.m.port .a).winAddr / 256) ∧
    (let s := ported (fun x => { x with winAddr := 0x14000000 })
     s.defined ∧ s.m.portsAnswer = true ∧ regionOf (s.m.port .a).winAddr = .flash1 ∧ (s.m.port .a).ra.ready = false ∧
      (s.m.port .a).ra.timedOut = none) ∧
    (let s := ported (fun x => { x with winAddr := 0x14000000, ra := { timedOut := some 0x140000 } })
     s.defined ∧ s.m.portsAnswer = true ∧ regionOf (s.m.port .a).winAddr = .flash1 ∧ (s.m.port .a).ra.ready = false ∧
      (s.m.port .a).ra.timedOut = some ((s.m.port .a).winAddr / 256)) := by
  unfold State.defined
  dsimp only
  decide +kernel

/-- `ready` with a frame in progress on port A. -/
def selected (f : FrameInProgress) : State := ported (fun x => { x with cs := some f })

theorem witness_HostFrames :
    (let s := ported (fun x => { x with lastRise := some 0 })
     s.defined ∧ (s.m.port .a).lastRise = some 0 ∧ s.m.now + 49 < 0 + 50 ∧ ¬ s.m.now + 50 < 0 + 50) ∧
    (let f : FrameInProgress := { words := [0x4060] }
     (selected f).defined ∧ ((selected f).m.port .a).cs = some f ∧ f.answered = true ∧ f.words.length < 2 ∧ f.reads = false ∧
       f.op = 1 ∧ f.count = 1 ∧ f.index = 0x60) ∧
    (let f : FrameInProgress := { words := [0x0093, 0] }
     (selected f).defined ∧ ((selected f).m.port .a).cs = some f ∧ f.answered = true ∧ f.words.length % 2 = 0 ∧ f.early = false ∧
       f.reads = true ∧ (f.words.length - 2) / 2 < f.count) ∧
    (0x93 + 0 < 256 ∧ 0x93 + 0 ∉ [0x0A, 0x26] ∧ assigned (0x93 + 0) = true ∧ nvGated 0x93 = false) ∧
    (let f : FrameInProgress := { early := true }
     (selected f).defined ∧ ((selected f).m.port .a).cs = some f ∧ f.answered = true ∧ f.early = true) ∧
    (let f : FrameInProgress := { words := [0x4060] }
     f.early = false ∧ f.bits 15 < 16 ∧ 16 ≤ f.bits 16 ∧ f.bits 16 ≠ 16 * (1 + 2 * f.count)) ∧
    (let f : FrameInProgress := { words := [0x93, 0] }
     f.early = false ∧ 16 ≤ f.bits 1 ∧ f.reads = true ∧ f.bits 1 % 16 ≠ 0 ∧ f.items = []) ∧
    (let f : FrameInProgress := { words := [0x4000 + 0xFF, 1, 2] }
     f.early = false ∧ f.answered = true ∧ 0xFF < 256 ∧ 0xFF ∉ [0x05, 0x0A, 0x11, 0xC5, 0xC7]) ∧
    (let f : FrameInProgress := { words := [0x93, 0, 0, 0], items := [{ result := .ok, word := 0#32, idx := some 0x93 }] }
     f.early = false ∧ f.answered = true ∧ 0x93 < 256) ∧
    (let f : FrameInProgress := { answered := false }
     (selected f).defined ∧ ((selected f).m.port .a).cs = some f ∧ f.answered = false) ∧
    ((holding ready).defined ∧ (holding ready).m.portsAnswer = true) := by
  unfold State.defined
  dsimp only
  decide +kernel

theorem witness_MessagesAndAcknowledges :
    ((holding ready).defined ∧ (holding ready).m.portsAnswer = true ∧ (holding ready).m.phase ≠ 0 ∧
      (holding ready).m.irq[255]? = some ⟨0, 0, false⟩) ∧
    (inDawn 0).m.phase = 0 ∧ 0xE0 ≤ (0xE0#32).toNat ∧ (0xEF#32).toNat ≤ 0xEF ∧ (0xDF#32).toNat < 0xE0 ∧ 0xEF < (0xF0#32).toNat ∧
    (let s : State := { holding { ready with irq := ready.irq.setIfInBounds 1 ⟨8, 0, true⟩ } with nests := { a := ⟨7, [0]⟩ } }
     s.defined ∧ s.m.portsAnswer = true ∧ s.m.irq[1]? = some ⟨8, 0, true⟩ ∧ (s.nests.port .a).running < 8) ∧
    (let s := holding ready
     s.defined ∧ s.m.irq[1]? = some ⟨8, 0, false⟩ ∧ 0 ≤ (s.nests.port .a).running) ∧
    ((powered (fun x => { x with mode := .nap })).defined ∧ (powered (fun x => { x with mode := .nap })).m.portsAnswer = false) := by
  unfold State.defined
  dsimp only
  decide +kernel

theorem witness_EndOfInterruptPops :
    (let s : State := { holding ready with nests := { a := ⟨15, [0]⟩ } }
     s.defined ∧ s.m.portsAnswer = true ∧ (s.nests.port .a).stack = 0 :: []) ∧
    (let s := holding ready
     s.defined ∧ s.m.portsAnswer = true ∧ (s.nests.port .a).stack = []) := by
  unfold State.defined
  dsimp only
  decide +kernel

theorem witness_HighestSourceWins :
    ((({} : Nest).running = 0) ∧ ({} : Nest).stack = []) ∧
    (let b := { ready with irq := (ready.irq.setIfInBounds 1 ⟨8, 0, true⟩).setIfInBounds 15 ⟨8, 0, true⟩ }
     b.highest 0 7 = some (1, 8) ∧ b.highest 0 8 = none) := by
  dsimp only
  decide +kernel

theorem witness_MailboxesAndBooth :
    ((holding ready).defined ∧ (holding ready).m.portsAnswer = true) ∧
    ((holding ready).m.otherEnd ((holding ready).m.port .a).mbCh (Port.mid .a) = some 2) ∧
    ((ported (fun x => { x with mbCh := 7 })).m.otherEnd ((ported (fun x => { x with mbCh := 7 })).m.port .a).mbCh (Port.mid .a) = none) ∧
    (ready.otherEnd 0 0).isSome = true ∧ ready.otherEnd 2 2 = some 3 := by
  unfold State.defined
  decide +kernel

/-- `ready` with a ring changed. -/
def ringed (k : Nat) (f : Ring → Ring) : Block := ready.setRing k (f (ready.ring k))

theorem witness_RingsMoveAndRecord :
    ((holding ready).defined ∧ (holding ready).m.portsAnswer = true) ∧
    (let s := holding (ringed 31 (fun r => { r with cfg := 0x4A#32, base := 0x70000 }))
     s.defined ∧ (s.m.ring 31).en = false ∧ s.m.ringRule 31 = none) ∧
    (let s := holding ready
     (s.m.ring 31).en = false ∧ s.m.ringRule 31 = some 2) ∧
    ((holding ready).m.ring 2).beyond 255 = false ∧ ((holding ready).m.ring 2).beyond 256 = true ∧
    ((ready.ring 0).full = false ∧ (ready.ring 0).pendLost = 0) ∧
    (let b := ringed 0 (fun r => { r with head := 1023 })
     (b.ring 0).full = true ∧ (b.ring 0).overwrites = false) := by
  unfold State.defined
  dsimp only
  decide +kernel

theorem witness_TapInstructions :
    ((holding ready).defined ∧ (holding ready).m.tapAlive = true ∧ (holding ready).m.inRun = true) ∧
    (let s := powered (fun x => { x with mode := .nap })
     s.defined ∧ s.m.tapAlive = true ∧ s.m.inRun = false) ∧
    (let s := powered (fun x => { x with mode := .deep })
     s.defined ∧ s.m.tapAlive = false) := by
  unfold State.defined
  decide +kernel

/-! ### Transactions and overlays -/

/-- `ready` with a transaction of an owner open, changed. -/
def txned (o : Nat) (f : Txn → Txn := id) : State := holding (ready.setTxn (fun x => f { x with owner := some o }))

theorem witness_TransactionsBeginAndPend :
    ((holding ready).defined ∧ (holding ready).m.portsAnswer = true ∧ (holding ready).m.txn.owner.isSome = false) ∧
    ((txned 0).defined ∧ (txned 0).m.portsAnswer = true ∧ (txned 0).m.txn.owner.isSome = true) ∧
    ((ready.tickNow + 2 ^ 32 - (ready.tickNow + 2 ^ 31 + 1) % 2 ^ 32) % 2 ^ 32 < 2 ^ 31) ∧
    (2 ^ 31 ≤ (ready.tickNow + 2 ^ 32 - (ready.tickNow + 2 ^ 31) % 2 ^ 32) % 2 ^ 32) := by
  unfold State.defined
  decide +kernel

theorem witness_TransactionsRollBack :
    ((txned 0).defined ∧ (txned 0).m.portsAnswer = true ∧ (txned 0).m.txn.owner = some (Port.mid .a)) ∧
    ((txned 1).defined ∧ (txned 1).m.portsAnswer = true ∧ (txned 1).m.txn.owner = some 1 ∧ 1 ≠ Port.mid .a) ∧
    ((txned 2).defined ∧ (txned 2).m.portsAnswer = true ∧ (txned 2).m.txn.owner = some 2 ∧ 2 ≠ Port.mid .a) ∧
    ((holding ready).defined ∧ (holding ready).m.txn.owner = none) ∧
    (let s := txned 1 (fun x => { x with timeout := 1 })
     s.defined ∧ s.m.txn.owner = some 1 ∧ s.m.txn.timeout ≠ 0 ∧ s.m.txn.pending = none) := by
  unfold State.defined
  dsimp only
  decide +kernel

/-- A write of VD_CTL, a staged register. -/
def vdCtl : StagedItem := .register 0x70 1#32

theorem witness_StagedWrites :
    (stagedEntry vdCtl = some (.register 0x70 1#32)) ∧
    ((txned 1).defined ∧ (txned 1).m.portsAnswer = true ∧ (txned 1).m.txn.owner = some 1 ∧ 1 ≠ Port.mid .a) ∧
    (let s := txned 0 (fun x => { x with pending := some .next })
     s.defined ∧ s.m.txn.owner = some 0 ∧ s.m.txn.pending.isSome = true) ∧
    (let s := txned 0 (fun x => { x with doomed := true })
     s.defined ∧ s.m.txn.owner = some 0 ∧ s.m.txn.doomed = true) ∧
    ((txned 0).defined ∧ (txned 0).m.txn.owner = some (Port.mid .a) ∧ (txned 0).m.txn.pending = none ∧ (txned 0).m.txn.doomed = false) ∧
    ((holding ready).defined ∧ (holding ready).m.portsAnswer = true ∧ (holding ready).m.txn.owner = none ∧
      (holding ready).m.geometryHit (.register 0x70 1#32) = false) := by
  unfold State.defined
  dsimp only
  decide +kernel

/-- The journal is full at 65,536 bytes, the implicit buffer at 4,096. -/
theorem witness_StagedWrites_sizes :
    (∀ (n : Nat) (e : JournalEntry), e = .register 0x70 1#32 →
      (n = 65520 → journalSize ([.table 0 (List.replicate n 0#8)] ++ [e]) ≤ 65536) ∧
      (n = 65521 → 65536 < journalSize ([.table 0 (List.replicate n 0#8)] ++ [e])) ∧
      (n = 4080 → journalSize [[JournalEntry.table 0 (List.replicate n 0#8)]].flatten + e.size ≤ 4096) ∧
      (n = 4081 → 4096 < journalSize [[JournalEntry.table 0 (List.replicate n 0#8)]].flatten + e.size)) := by
  intro n e he
  subst he
  simp [journalSize, JournalEntry.size]
  omega

/-- `ready` with the apply routine in a step, changed. -/
def applying (step : Nat) (f : Block → Block := id) : Block := f (ready.setSeq (fun x => { x with routine := some .overlay, step := step }))

/-- A record of the base with an empty body (R510). -/
def baseRecordBytes : List Byte :=
  let h := leBytes 2 0xFFFF ++ List.replicate 26 0#8
  h ++ leBytes 4 (crc32 h)

theorem witness_CommitsAndOverlays :
    (R.VD_CTL.MODE ∈ fieldsOf R.VD_CTL.MODE.idx ∧ Mem.wf 0#8 [] = true) ∧
    ((applying 1).seq.step = 1 ∧ (applying 1).txn.owner = none) ∧
    (let b := applying 1 (fun b => b.setTxn (fun x => { x with owner := some 0 }))
     b.seq.step = 1 ∧ b.txn.owner.isSome = true) ∧
    ((applying 2).seq.step = 2 ∧ (applying 2).overlay.id = 0x7F) ∧
    (let b := applying 2 (fun b => b.setOv (fun x => { x with id := 63, pair := deliveredBase }))
     b.seq.step = 2 ∧ b.overlay.id ≠ 0x7F ∧ (b.slotOf b.overlay.id).src = 2) ∧
    (recId baseRecordBytes ≠ ready.overlay.id ∧ recId (leBytes 2 0x7F ++ baseRecordBytes.drop 2) = ready.overlay.id ∧
      recCrcOk (leBytes 2 0x7F ++ baseRecordBytes.drop 2) = false) ∧
    (let b := ready.setOv (fun x => { x with id := 0xFFFF })
     recId baseRecordBytes = b.overlay.id ∧ recCrcOk baseRecordBytes = true) ∧
    ((applying 5).seq.step = 5 ∧ (applying 5).txn.pending = none ∧ (applying 5).overlay.tick = none) := by
  dsimp only
  decide +kernel

/-! ### The memory port and the store -/

/-- `ready` with the memory port changed. -/
def porting (f : MemPort → MemPort) : State := holding (ready.setMp f)

theorem witness_TransfersStart :
    (let s := porting (fun x => { x with software := some (8, 5) })
     let b := (s.m.elapse 0).settleWire
     s.defined ∧ b.mp.wire = none ∧ b.portRuns = true ∧ b.nextTransfer = some (.software 8 5)) ∧
    (let s := porting (fun x => { x with writing := some { op := .erase 1 0 4096, startedAt := 0, nextPoll := 0 } })
     let b := (s.m.elapse 0).settleWire
     s.defined ∧ b.mp.wire = none ∧ b.portRuns = true ∧ b.nextTransfer = some (.poll 1) ∧
       b.mp.writing = some { op := .erase 1 0 4096, startedAt := 0, nextPoll := 0 }) ∧
    (let s := porting (fun x => { x with pollOnce := [1], queued := some (.erase 1 0 4096) })
     let b := (s.m.elapse 0).settleWire
     s.defined ∧ b.mp.wire = none ∧ b.portRuns = true ∧ b.nextTransfer = some (.poll 1) ∧ b.mp.writing = none) ∧
    (let b := ((holding ready).m.elapse 0).settleWire
     (holding ready).defined ∧ b.mp.wire = none ∧ b.nextTransfer = none) ∧
    (∀ e ∈ [false, true], let b := ready.setMp (fun x => { x with queued := some (.erase 1 0 4096), enabled := e })
     b.softLow = false ∧ b.mp.writing = none ∧ b.mp.queued = some (.erase 1 0 4096) ∧
       b.mp.pollOnce.contains (WriteOp.sel (.erase 1 0 4096)) = false) ∧
    (let b := ready.setMp (fun x => { x with software := some (8, 5) })
     b.writeStep = none ∧ b.hostRequests ≠ []) ∧
    (let b := ready.setMp (fun x => { x with fills := [⟨.sequencer, 0, 0, false⟩] })
     b.writeStep = none ∧ b.hostRequests = [] ∧ b.readyFills (· == .sequencer) = ⟨.sequencer, 0, 0, false⟩ :: []) ∧
    (let b := ready.setMp (fun x => { x with fills := [⟨.bracket, 0, 0, false⟩] })
     b.writeStep = none ∧ b.hostRequests = [] ∧ b.readyFills (· == .sequencer) = []) ∧
    (∀ t ∈ [Transfer.enable (.erase 1 0 4096), .write (.erase 1 0 4096)], let b := ready.setMp (fun x => { x with wire := some t })
     b.mp.wire = some t ∧ b.mp.wireEnd ≤ b.now) ∧
    ready.addr4 (selOf 0) = false := by
  unfold State.defined
  dsimp only
  decide +kernel

theorem witness_TransfersEnd :
    (let f : Fill := ⟨.portA, 0x100, 0, false⟩
     let s := holding ((ready.setMp (fun x => { x with wire := some (.fill f) })).setPort .a (fun x => { x with ra := { want := some 1, filling := true } }))
     let b := (s.m.elapse 0).settleWire
     s.defined ∧ b.mp.wire = some (.fill f) ∧ b.mp.wireEnd ≤ b.now ∧ f.who = .portA ∧ f.dead = false ∧ b.portA.ra.want = some 1) ∧
    (List.replicate 256 (0#8 : Byte)).length = 256 ∧
    (let w : Writing := { op := .erase 1 0 4096, startedAt := 0, nextPoll := 0 }
     let s := porting (fun x => { x with wire := some (.poll 1), writing := some w })
     let b := (s.m.elapse 0).settleWire
     s.defined ∧ b.mp.wire = some (.poll 1) ∧ b.mp.wireEnd ≤ b.now ∧ b.mp.writing = some w) ∧
    (let s := porting (fun x => { x with wire := some (.command 0x5A 1 0) })
     s.defined ∧ s.m.mp.wire = some (.command 0x5A 1 0) ∧ s.m.mp.wireEnd ≤ s.m.now + 0 ∧
       (0x5A, 32) ∈ [(0x05, 8), (0x9F, 24), (0x5A, 32), (0x06, 0)]) ∧
    (let s := porting (fun x => { x with wire := some (.software 32 0) })
     s.defined ∧ s.m.mp.wire = some (.software 32 0) ∧ s.m.mp.wireEnd ≤ s.m.now + 0) ∧
    (let w : Writing := { op := .program 0x100000000 [0#8], startedAt := 0, nextPoll := 0, firstPoll := some 0 }
     let s := porting (fun x => { x with writing := some w })
     let b := (s.m.elapse 10000000).settleWire
     s.defined ∧ b.mp.writing = some w ∧ w.op = .program 0x100000000 [0#8] ∧ b.writeLate w = true) ∧
    (let w : Writing := { op := .erase 1 0x1FFF 4096, startedAt := 0, nextPoll := 0, firstPoll := some 0 }
     let s := porting (fun x => { x with writing := some w })
     let b := (s.m.elapse 10000000000).settleWire
     s.defined ∧ b.mp.writing = some w ∧ w.op = .erase 1 0x1FFF 4096 ∧ b.writeLate w = true) ∧
    (let f : Fill := ⟨.sequencer, 0, 0, false⟩
     let s := porting (fun x => { x with fills := [f] })
     let b := (s.m.elapse 1000000000).settleWire.endRefused
     s.defined ∧ b.mp.fills = f :: [] ∧ f.askedAt + b.fillLimit ≤ b.now) := by
  unfold State.defined
  dsimp only
  decide +kernel

theorem witness_PortRequestsQueue :
    ((holding ready).defined ∧ (holding ready).m.portsAnswer = true ∧ ((holding ready).m.elapse 0).settleWire.cmdBusy = false ∧
      ((holding ready).m.elapse 0).settleWire.refuses 1 = false ∧
      ((holding ready).m.elapse 0).settleWire.flag R.MP_CTL.S0_WRITE = false ∧
      ((holding ready).m.elapse 0).settleWire.refuses ((holding ready).m.elapse 0).settleWire.writeSel = false ∧
      ((holding ready).m.elapse 0).settleWire.writeBusy = false ∧ regionOf 0x14000000 = .flash1) ∧
    (let s := porting (fun x => { x with command := some (5, 0, 0) })
     s.defined ∧ (s.m.elapse 0).settleWire.cmdBusy = true) ∧
    (let s := holding (ready.setBit R.MP_STATUS.STUCK 1)
     s.defined ∧ (s.m.elapse 0).settleWire.cmdBusy = false ∧ (s.m.elapse 0).settleWire.refuses 1 = true) ∧
    (let s := porting (fun x => { x with queued := some (.program 0 []), waiting := some (.program 0 []) })
     let b := (s.m.elapse 0).settleWire
     s.defined ∧ b.cmdBusy = false ∧ b.refuses b.writeSel = false ∧ b.writeBusy = true ∧ b.mp.waiting.isSome = true) := by
  unfold State.defined
  dsimp only
  decide +kernel

theorem witness_NewerIsAntisymmetric :
    1 ≤ 32 ∧ 0xFFFFFFFF < 2 ^ 32 ∧ 0x7FFFFFFE < 2 ^ 32 ∧ newer 32 0x7FFFFFFE 0xFFFFFFFF = true ∧ newer 32 0x7FFFFFFF 0xFFFFFFFF = false := by
  decide +kernel

/-- `ready` with the arguments of a store operation, its store holding bytes. -/
def storing (cells : Mem) (addr pages slots : Nat) : Block :=
  (((ready.setNv (fun x => { x with cells := cells })).set R.NV_ADDR.ADDR addr).set R.NV_LEN.PAGES pages).set R.NV_LEN.SLOTS slots

/-- One sealed copy A of an empty payload in a pair of one page; a slot 0 with its first SEQ in a Carousel of eight. -/
def onePair : Mem := Mem.writeBytes 0xFF#8 [] 0x5038 (sealBytes [] 1)
@[inherit_doc onePair] def oneSlot : Mem := Mem.writeBytes 0xFF#8 [] 0x6000 (slotBytes 9 0)

theorem witness_StoreOperations :
    ((holding (ready.setNv (fun x => { x with op := some { kind := .window } }))).defined ∧
      (holding (ready.setNv (fun x => { x with op := some { kind := .window } }))).m.nvBusy = true) ∧
    ((holding ready).defined ∧ (holding ready).m.portsAnswer = true ∧ (holding ready).m.nvBusy = false ∧
      pairArgsOk ((holding ready).m.nvArgs .trapezeRead) = false) ∧
    (let s := holding (storing onePair 0x5000 1 0)
     let op := (s.m.elapse 0).nvArgs .trapezeWrite
     s.defined ∧ s.m.nvBusy = false ∧ pairArgsOk op = true ∧ 0x4000 ≤ op.addr ∧ op.len % 8 = 0 ∧ op.len + 8 ≤ 64 * op.pages ∧
       op.src + op.len ≤ 0x80000 ∧ s.m.inForce op.addr op.pages = some (0, { valid := true, seq := 1, len := 0, found := {} }) ∧
       s.m.pairFound op.addr op.pages = {} ∧ op.addr + 64 * op.pages * (1 - 0) + 64 * op.pages ≤ s.m.nvLimit) ∧
    (let s := holding (storing oneSlot 0x6000 0 8)
     let op := (s.m.elapse 0).nvArgs .carouselPush
     s.defined ∧ s.m.nvBusy = false ∧ carouselArgsOk op = true ∧ 0x4000 ≤ op.addr ∧
       s.m.newestSlot op.addr op.slots = some (0, 0, 9) ∧ 0 + 1 < 0xFFFFFF ∧ s.m.nvFound op.addr (8 * op.slots) = {} ∧
       op.addr + 8 * ((0 + 1) % op.slots) + 8 ≤ s.m.nvLimit) ∧
    (let s := holding ready
     0x00A04000 ≤ 0x00A3FFFC ∧ 0x00A3FFFC < 0x00A40000 ∧ 0x00A3FFFC - 0x00A00000 < s.m.nvLimit ∧ 0x00A3FFFC % 4 = 0) ∧
    (let s := holding (ready.set R.NV_CTL.BP 3)
     s.defined ∧ s.m.nvBusy = false ∧ s.m.nvLimit ≤ 0x00A04000 - 0x00A00000) := by
  unfold State.defined
  dsimp only
  decide +kernel

theorem witness_StoreOperationsEnd :
    (let op : NvOp := { kind := .window, writing := true, writes := [(0x800, List.replicate 8 1#8)] }
     let s := holding (ready.setNv (fun x => { x with op := some op }))
     s.defined ∧ s.m.nv.op = some op ∧ op.writing = true ∧ op.writes = (0x800, List.replicate 8 1#8) :: [] ∧
       op.startedAt + 1000000 ≤ s.m.now + 1000000 ∧ op.kind = .window ∧ (∀ g ∈ [0x801], ∀ w ∈ op.writes, w.1 ≠ g)) ∧
    (({ soft := [0x800] } : NvFound).bad = [] ∧ ({} : NvFound).soft = []) ∧
    (let op : NvOp := { kind := .trapezeRead, addr := 0x5000, pages := 1 }
     let s := holding ((storing onePair 0 0 0).setNv (fun x => { x with op := some op }))
     s.defined ∧ s.m.nv.op = some op ∧ op.kind = .trapezeRead ∧
       s.m.inForce op.addr op.pages = some (0, { valid := true, seq := 1, len := 0, found := {} }) ∧
       s.m.pairFound op.addr op.pages = {} ∧ op.src + 0 ≤ 0x80000) ∧
    (let op : NvOp := { kind := .carouselRead, addr := 0x6000, slots := 8 }
     let s := holding ((storing oneSlot 0 0 0).setNv (fun x => { x with op := some op }))
     s.defined ∧ s.m.nv.op = some op ∧ op.kind = .carouselRead ∧ s.m.newestSlot op.addr op.slots = some (0, 0, 9) ∧
       s.m.nvFound op.addr (8 * op.slots) = {}) := by
  unfold State.defined
  dsimp only
  decide +kernel

/-! ### Armed actions, valves, lamps and the shutter -/

/-- An entry of a type on channel 0, due at press time 0. -/
def due0 (ty : Nat) : ArmedEntry := { type := ty }

/-- `ready` with an entry armed at index 0, changed. -/
def armed (e : ArmedEntry) (f : Block → Block := id) : State :=
  holding (f { ready with sched := { ready.sched with table := [(0, e)] } })

/-- The bytes of a ring entry with an OP. -/
def entryBytes (op : Nat) : List Byte := leBytes 1 op ++ List.replicate 31 0#8

/-- `ready` with admission open and one entry in ring 2. -/
def queued (op : Nat) : State :=
  let b := ready.setRing 2 { ready.ring 2 with head := 1 }
  holding { b.store ((ready.ring 2).slot 0) (entryBytes op) with sched := { b.sched with admitting := true } }

theorem witness_DrainTakesEntries :
    (∀ op ∈ [0, 1, 2, 3], (queued op).m.undef.isNone = true ∧ ((queued op).m.elapse 0).drainable 2 = true ∧
      ringOp (((queued op).m.elapse 0).ringTailEntry 2) = op ∧ ((queued op).m.elapse 0).drainOffers 2 = true) ∧
    ((holding ready).defined ∧ ((holding ready).m.elapse 0).drainable 2 = false) ∧
    (512 ≤ (List.replicate 512 (0, due0 0)).length ∧ ready.drainOffers 2 = false) ∧
    (let e : ArmedEntry := { type := 0, channel := 15, tf := 1#48 }
     (0 : Nat) ≠ 3 ∧ rangeOk e.type e.channel = true ∧ e.baseWp = false ∧ e.tentative = false ∧ e.state = .armed ∧ e.late = false ∧
      0 < ptDiff e.tf ready.clock.pt) ∧
    (ptDiff (due0 0).tf ready.clock.pt ≤ 0 ∧ -ptDiff (due0 0).tf ready.clock.pt ≤ (usec (ready.get R.AS_CTL.LATE_GRACE) : Nat)) ∧
    ((usec (ready.get R.AS_CTL.LATE_GRACE) : Nat) < -ptDiff (0xFFFFFFFFFFFF#48) ready.clock.pt) ∧
    rangeOk 0 16 = false ∧ rangeOk 3 8 = false ∧ rangeOk 4 1 = false ∧ rangeOk 7 0 = false := by
  unfold State.defined
  decide +kernel

theorem witness_ActionsFireOrCancel :
    (∀ ty ∈ [0, 1, 2, 3, 4, 5, 6],
      (((armed { due0 ty with tentative := true }).m.elapse 0).fireable 0 ty = some { due0 ty with tentative := true } ∧
        ((armed (due0 ty)).m.elapse 0).fireable 0 ty = some (due0 ty) ∧ ((holding ready).m.elapse 0).fireable 0 ty = none)) ∧
    ¬ ({ due0 0 with tentative := true } : ArmedEntry).commits ∧ (due0 5).commits ∧ (holding ready).defined := by
  refine ⟨by decide +kernel, ?_, Or.inl rfl, inside _ (by decide +kernel)⟩
  simp [ArmedEntry.commits, due0]

/-- The drive of the valves runs, with bank A enabled. -/
def driven (b : Block) : Block := { b.set R.VD_CTL.BANK_EN 1 with valves := { b.valves with running := true } }

/-- The drive with an entry of a type on channel 0 armed and channel 0 in a phase. -/
def firing (ty : Nat) (p : ValvePhase) (f : Block → Block := id) : State :=
  armed (due0 ty) (fun b => f ((driven b).setValve 0 (fun c => { c with phase := p })))

theorem witness_ValveActions :
    (let s := armed (due0 0) (fun b => { b with valves := { b.valves with running := true } })
     s.defined ∧ (s.m.elapse 0).fireable 0 0 = some (due0 0) ∧ (((s.m.elapse 0).fired (due0 0)).valves.running = true) ∧
       (((s.m.elapse 0).fired (due0 0)).dropWaitingLeadin (due0 0)).refusal (due0 0) = some 22) ∧
    (∀ p ∈ ([.off, .release, .slowDecay, .boost, .hold, .leadin] : List ValvePhase),
      let s := firing 0 p
      let x := ((s.m.elapse 0).fired (due0 0)).dropWaitingLeadin (due0 0)
      (s.m.elapse 0).fireable 0 0 = some (due0 0) ∧ x.refusal (due0 0) = none ∧ (x.valve 0).phase = p ∧ (x.bank (bankOf 0)).owner = none ∧
        (x.bank (bankOf 0)).waiting = [] ∧ (x.valve 0).owner = (due0 0).seq) ∧
    (let s := firing 0 .off (fun b => b.setBank 0 (fun k => { k with owner := some 1 }))
     let x := ((s.m.elapse 0).fired (due0 0)).dropWaitingLeadin (due0 0)
     s.defined ∧ x.refusal (due0 0) = none ∧ (x.valve 0).phase = .off ∧ (x.bank (bankOf 0)).owner ≠ none) ∧
    (let s := firing 0 .leadin (fun b => b.setValve 0 (fun c => { c with owner := 5 }))
     let x := ((s.m.elapse 0).fired (due0 0)).dropWaitingLeadin (due0 0)
     s.defined ∧ x.refusal (due0 0) = none ∧ (x.valve 0).phase = .leadin ∧ (x.valve 0).owner ≠ (due0 0).seq) ∧
    (∀ p ∈ ([.off, .release, .slowDecay, .boost, .hold, .leadin] : List ValvePhase),
      let s := firing 1 p (fun b => b.set R.VD_CTL.MODE 1)
      let x := (s.m.elapse 0).fired (due0 1)
      (s.m.elapse 0).fireable 0 1 = some (due0 1) ∧ x.valves.running = true ∧ x.refusal (due0 1) = none ∧ (x.valve 0).phase = p) ∧
    (∀ ty ∈ [1, 2], let s := armed (due0 ty) (fun b => { b with valves := { b.valves with running := true } })
      ((s.m.elapse 0).fired (due0 ty)).refusal (due0 ty) = some 22) ∧
    (∀ ty ∈ [0, 1, 2], ((armed (due0 ty)).m.elapse 0).fireable 0 ty = some (due0 ty) ∧
      (((armed (due0 ty)).m.elapse 0).fired (due0 ty)).valves.running = false) ∧
    (∀ p ∈ ([.off, .boost, .hold] : List ValvePhase),
      let s := firing 2 p
      let x := (s.m.elapse 0).fired (due0 2)
      (s.m.elapse 0).fireable 0 2 = some (due0 2) ∧ x.refusal (due0 2) = none ∧ (x.valve 0).phase = p) ∧
    (let e : ArmedEntry := { type := 0, leadUs := 1, tf := 100#48 }
     ((armed e).m.elapse 0).leadinDue 0 = some e) := by
  unfold State.defined
  dsimp only
  decide +kernel

/-- `ready` with valve channel 15 changed. -/
def valve15 (f : ValveChannel → ValveChannel) : State := holding (ready.setValve 15 f)

theorem witness_ValvePhasesEnd :
    (let s := valve15 (fun c => { c with checking := true })
     s.defined ∧ (s.m.valve 15).checking = true ∧ (s.m.valve 15).code 0 ≤ s.m.ownCode 15 (s.m.valve 15).shortI ∧
      (s.m.valve 15).checkAt + 200 ≤ s.m.now + 200 ∧ s.m.ownCode 15 (s.m.valve 15).shortI < (s.m.valve 15).code 12207) ∧
    (let s := valve15 (fun c => { c with phase := .boost })
     s.defined ∧ 15 = s.m.logical 15 ∧ (s.m.valve 15).phase = .boost ∧ (s.m.valve 15).checking = false ∧
      (s.m.valve 15).code (s.m.valve 15).profile.boostI ≤ (s.m.valve 15).code 0) ∧
    (let s := valve15 (fun c => { c with phase := .hold, cmdEnd := some 0 })
     s.defined ∧ (s.m.valve 15).phase = .hold ∧ (s.m.valve 15).cmdEnd = some 0 ∧ 0 ≤ s.m.now + 0) ∧
    (let s := valve15 (fun c => { c with phase := .release })
     s.defined ∧ s.m.logical 15 = 15 ∧ (s.m.valve 15).phase = .release ∧
      (s.m.valve 15).releaseAt + 100 * (s.m.valve 15).profile.relTMax ≤ s.m.now + 1000000) ∧
    (let s := valve15 (fun c => { c with phase := .slowDecay })
     s.defined ∧ (s.m.valve 15).phase = .slowDecay ∧
      (s.m.valve 15).releaseAt + 100 * (20 * (s.m.valve 15).profile.relTMax) ≤ s.m.now + 20000000) ∧
    (let s := valve15 (fun c => { c with phase := .release, profile := { c.profile with relI := 24414 } })
     s.defined ∧ (s.m.valve 15).code 0 < (s.m.valve 15).code (s.m.valve 15).profile.relI) ∧
    (let s := valve15 (fun c => { c with phase := .hold })
     s.defined ∧ bitOf (s.m.prot 15) 1 = true ∧ (s.m.valve 15).boostAt + 100000 * s.m.maxOn 15 ≤ s.m.now + 1000000000) ∧
    (let s := valve15 (fun c => { c with phase := .leadin })
     s.defined ∧ s.m.logical 15 = 15 ∧ (s.m.valve 15).phase = .leadin ∧ (∀ k ∈ s.m.members 15, (s.m.valve k).checking = false)) ∧
    ((holding ready).defined ∧ ((holding ready).m.valve ((holding ready).m.logical 15)).phase ∉ [ValvePhase.hold, .leadin] ∧
      ((holding ready).m.valve ((holding ready).m.logical 15)).phase ≠ .boost) ∧
    (let c : ValveChannel := { ready.valve 15 with phase := .leadin, profile := { (ready.valve 15).profile with chopF := 10 } }
     c.phase = .leadin ∧ c.setpointCode 0 < c.code 10000000 ∧ c.code 0 ≤ c.setpointCode 0 ∧ c.fullOn < 32 ∧ 10 ≤ c.profile.chopF ∧
      c.profile.chopF ≤ 50 ∧ ((50 : Nat) : Rat) ≤ c.chopPeriod) ∧
    (let c : ValveChannel := { ready.valve 15 with drive := .on, chopOn := (50 : Nat) }
     c.drive = .on ∧ c.chopAt = 0 ∧ c.chopOn = ((50 : Nat) : Rat)) := by
  unfold State.defined
  dsimp only
  decide +kernel

/-- `ready` with a thermal resistance of 655.35 K/W on channel 15, and that channel changed. -/
def hotCoil (f : ValveChannel → ValveChannel) : Block :=
  { ready with mem := Mem.writeBytes 0#8 ready.mem 0x00923F06 [0xFF#8, 0xFF#8] }.setValve 15 f

theorem witness_ValveFaultsLatch :
    (let s := valve15 (fun c => { c with phase := .boost })
     s.defined ∧ (s.m.valve 15).phase ≠ .off ∧ (s.m.valve 15).checking = false ∧
      s.m.ownCode 15 (s.m.valve 15).profile.ocI < (s.m.valve 15).code 12207) ∧
    (let s := valve15 (fun c => { c with phase := .boost, profile := { c.profile with openWin := 1, openI := 24414 } })
     s.defined ∧ (s.m.valve 15).phase = .boost ∧ (s.m.valve 15).profile.openWin ≠ 0 ∧
      (s.m.valve 15).boostAt + 100 * (s.m.valve 15).profile.openWin ≤ s.m.now + 100 ∧
      (s.m.valve 15).code 0 < s.m.ownCode 15 (s.m.valve 15).profile.openI) ∧
    (∀ d ∈ [DriveState.boost, .freewheel],
      let s := holding ((ready.setBank 3 (fun k => { k with owner := some 15 })).setValve 15 (fun c => { c with drive := d }))
      s.m.undef.isNone = true ∧ (s.m.bank 3).owner = some 15 ∧ (s.m.valve 15).driveNow (s.m.now + 0) = d) ∧
    (let b := ready.setBoost (fun k => { k with running := true })
     (holding b).defined ∧ b.valves.boost.running = true ∧ 11 * b.setpoint < 10 * 529 ∧ 10 * 528 ≤ 11 * b.setpoint ∧
      b.valves.boost.ovStop = false ∧ b.valves.boost.startedAt ≤ b.now ∧ b.now < b.valves.boost.startedAt + 1000000 ∧
      b.valves.boost.startedAt + 1000000 ≤ (b.elapse 1000000).now) ∧
    (let b := ready.setBoost (fun k => { k with ovStop := true })
     b.valves.boost.ovStop = true ∧ b.setpoint - 1 < b.setpoint) ∧
    (let e := due0 0
     let b := ready.set R.VD_CTL.BANK_EN 1
     b.bitAt R.VD_CTL.BANK_EN (bankOf e.channel) = true ∧
      (b.setFlag R.VD_FAULT.BOOST_UV true).flag R.VD_FAULT.BOOST_UV = true ∧
      (b.setBit R.VD_FAULT.BOOTSTRAP_UV 0).bitAt R.VD_FAULT.BOOTSTRAP_UV (bankOf e.channel) = true) ∧
    (let b := hotCoil (fun c => { c with temp := 200 })
     (b.valve 15).tripped = false ∧ bitOf (b.prot 15) 0 = true ∧ (b.coilMax 15 : Rat) ≤ b.coilStep 15 0 ∧ b.logical 15 = 15) ∧
    (let b := hotCoil (fun c => { c with tripped := true })
     (b.valve 15).tripped = true ∧ b.coilStep 15 0 ≤ (b.coilMax 15 : Rat) - (b.coilHyst 15 : Rat)) ∧
    (let b := hotCoil id
     (b.valve 15).tripped = false ∧ b.coilStep 15 0 < (b.coilMax 15 : Rat)) := by
  unfold State.defined
  dsimp only
  decide +kernel

theorem witness_UnitEventsStayInTheirUnit :
    (∃ t, exec (.inrushEnd 0 7) (holding ready) = .next t) ∧ (∃ t, exec (.commandEnd 0 15) (holding ready) = .next t) ∧ 0x7F < 0x80 ∧
      0x8F < 0x90 ∧ 0x5F < 0x60 :=
  ⟨⟨_, rfl⟩, ⟨_, rfl⟩, by decide, by decide, by decide⟩

theorem witness_LandsFollowState :
    (driven ready).valveGatesLive = true ∧ (({ ready with undef := some .tap } : Block).undef.isSome = true) ∧
    (powered (fun x => { x with mode := .idle })).m.power.mode ≠ .run ∧ ready.valves.running = false ∧ ready.lamps.running = false ∧
    ready.valves.boost.running = false ∧
    (let c : ValveChannel := {}
     c.driveAt ≠ 5 ∧ DriveState.boost ≠ .on ∧ 10 * (5 - 5) < deadTime 1 .on .boost ∧ deadTime 1 .on .boost ≤ 10 * (15 - 5)) ∧
    (let b := ready.setShut (fun x => { x with pulse := some ⟨.close, 5, .action, 0⟩ })
     b.undef = none ∧ b.power.mode = .run ∧ b.power.valid.contains .vsht = true ∧ b.shut.pulse = some ⟨.close, 5, .action, 0⟩) ∧
    ready.column = .run ∧ (powered (fun x => { x with mode := .nap })).m.column = .nap ∧
    (powered (fun x => { x with mode := .deep })).m.column = .deep ∧
    (let b := (powered (fun x => { x with valid := [.vaon, .vcore] })).m
     b.boundaryDrive (.gl 0) = none ∧ b.absent (.gl 0) = true ∧ b.absent .shA = true ∧ b.absent (.hpSdo .a) = true) ∧
    landClass (.gl 7) ∈ [LandClass.d1, .d2, .b1, .p1, .a1, .a2] ∧ ready.boundaryDrive (.hpSdo .a) = none ∧
    ready.present .vddphy = true ∧ ready.present .vdrv = true ∧ ready.valveGatesLive = false ∧ ready.present .vddioA = true := by
  dsimp only
  decide +kernel

/-- The lamps run with channel 7 enabled and changed. -/
def lamp7 (f : LampChannel → LampChannel) : State :=
  holding (({ ready.set R.LD_CTL.CH_EN 0x80 with lamps := { ready.lamps with running := true } } : Block).setLamp 7 f)

/-- `lamp7` with ISHORT at 65.535 A and ILIM_INRUSH at 0. -/
def limited (f : LampChannel → LampChannel) : State :=
  { lamp7 f with m := { (lamp7 f).m with mem := Mem.writeBytes 0#8 ready.mem 0x00924710 [0xFF#8, 0xFF#8] } }

/-- The TIME clocks from the start of the PWM counter to the first phase point of channel 7, a period of 1 ms being in force. -/
def phase7 : Nat := ready.lampParam 7 6 1 * ready.pwmPeriod / 512

theorem witness_LampChannels :
    (let s := lamp7 id
     let x := ((s.m.elapse phase7).lampSupply 0).setLamp 7 (fun c => c.sampled 0 0 (decide (s.m.lampCode 7 0 < s.m.lampCode 7 (s.m.lampParam 7 18 2))))
     s.defined ∧ (s.m.elapse phase7).periodDue 7 = true ∧ s.m.lampOn 7 = true ∧ s.m.lampLatched 7 = false ∧
      (s.m.lampParam 7 20 1 = 0 ∨ (x.lamp 7).openCount < s.m.lampParam 7 20 1)) ∧
    ((lamp7 id).defined ∧ ((lamp7 id).m.elapse (phase7 + 1)).periodDue 7 = false) ∧
    (let c : LampChannel := { req := 1, state := .on, zeroSince := some 0 }
     c.req ≠ 0 ∧ c.state ≠ .fault ∧ 0 + 100000 * 1 ≤ 100000) ∧
    (let s := lamp7 (fun c => { c with state := .inrush })
     s.defined ∧ (s.m.lamp 7).state = .inrush ∧ (s.m.elapse (phase7 + 100000)).periodDue 7 = true ∧
      s.m.rampTime 7 ≤ (s.m.lamp 7).inrushTime + (s.m.now + (phase7 + 100000) - (s.m.lamp 7).inrushMark)) ∧
    ((lamp7 id).m.lamp 7).state ≠ .inrush ∧
    (let s := limited (fun c => { c with state := .inrush, gate := true, periodAt := some 0, onClocks := 201 })
     s.defined ∧ (s.m.lamp 7).state = .inrush ∧ (s.m.elapse 100).lampGate 7 = true ∧ (s.m.lamp 7).unblanked (s.m.now + 100) = true ∧
      s.m.lampCode 7 (s.m.lampParam 7 14 2) < s.m.lampCode 7 20000 ∧ s.m.lampCode 7 20000 < s.m.lampCode 7 (s.m.lampParam 7 16 2) ∧
      s.m.lampCode 7 (s.m.lampParam 7 16 2) ≤ s.m.lampCode 7 100000) ∧
    (let s := limited (fun c => { c with state := .on })
     s.defined ∧ s.m.lampCode 7 20000 < s.m.lampCode 7 (s.m.lampParam 7 16 2) ∧ (s.m.lamp 7).state = .on) ∧
    (let s := lamp7 (fun c => { c with state := .on, lowRes := 16 })
     s.defined ∧ (s.m.lamp 7).state = .on ∧ 16 ≤ (s.m.lamp 7).lowRes) ∧
    (let s := holding { ready.set R.LD_SUPPLY.UV_PAUSE 1 with lamps := { ready.lamps with running := true, sag := true } }
     s.defined ∧ s.m.lamps.running = true ∧ 0 < s.m.get R.LD_SUPPLY.UV_PAUSE ∧ s.m.lamps.sag = true ∧ s.m.get R.LD_SUPPLY.UV_PAUSE ≤ 1 ∧
      s.m.pwmPeriod ≤ 2 * (s.m.now + 500000 - s.m.lamps.lowAt) ∧ 2 * (s.m.now + 3999 - s.m.lamps.lowAt) < s.m.pwmPeriod) ∧
    (let s := { lamp7 (fun c => { c with onClocks := 2000 }) with
       m := { (lamp7 (fun c => { c with onClocks := 2000 })).m with mem := Mem.writeBytes 0#8 ready.mem 0x00924712 [0xFF#8, 0xFF#8, 1#8] } }
     let x := ((s.m.elapse phase7).lampSupply 0).setLamp 7 (fun c => c.sampled 0 0 (decide (s.m.lampCode 7 0 < s.m.lampCode 7 (s.m.lampParam 7 18 2))))
     s.defined ∧ (s.m.elapse phase7).periodDue 7 = true ∧ s.m.lampOn 7 = true ∧ s.m.lampLatched 7 = false ∧ s.m.lampParam 7 20 1 = 1 ∧
      1 ≠ 0 ∧ 1 ≤ (x.lamp 7).openCount) ∧
    (let s := holding { ready.set R.LD_BUDGET.I_TRIP 1 with lamps := { ready.lamps with running := true } }
     s.defined ∧ s.m.lamps.running = true ∧ s.m.get R.LD_BUDGET.I_TRIP ≠ 0 ∧
      (10 * s.m.get R.LD_BUDGET.I_TRIP : Nat) < ((120000000 * 4095 : Nat) / (4096 * max 1 (s.m.get R.LD_TOTAL.RSHUNT_T) : Nat) : Rat) ∧
      ((120000000 * 0 : Nat) / (4096 * max 1 (s.m.get R.LD_TOTAL.RSHUNT_T) : Nat) : Rat) ≤ (10 * s.m.get R.LD_BUDGET.I_TRIP : Nat)) := by
  unfold State.defined
  dsimp only
  decide +kernel

/-- `ready` with the shutter changed. -/
def shuttered (f : Shutter → Shutter) : State := holding (ready.setShut f)

theorem witness_ShutterPulses :
    (let e := due0 4
     let s := armed e (fun b => b.setNight (fun x => { x with running := true }))
     let x := (s.m.elapse 0).fired e
     s.defined ∧ (s.m.elapse 0).fireable 0 4 = some e ∧ (x.night.running || x.night.rollback || x.night.netOffDue) = true ∧ e.mid ≠ 2) ∧
    (let e := due0 4
     let s := armed e (fun b => b.setShut (fun y => { y with braking := true }))
     let x := (s.m.elapse 0).fired e
     s.defined ∧ (x.night.running || x.night.rollback || x.night.netOffDue) = false ∧ x.shut.braking = true) ∧
    (let e := due0 4
     let x := ((armed e).m.elapse 0).fired e
     (armed e).defined ∧ (x.night.running || x.night.rollback || x.night.netOffDue) = false ∧ x.shut.pulse = none ∧ x.shut.braking = false) ∧
    (let p : ShutterPulse := ⟨.open, 250, .action, 0⟩
     ready.flag R.CP_SHT_STATUS.SHT_FAULT = false ∧ ready.power.valid.contains .vsht = true ∧ ready.pulseRefusal p = none ∧
      (ready.setFlag R.CP_SHT_STATUS.SHT_FAULT true).pulseRefusal p = some 2 ∧
      ((powered (fun x => { x with valid := [] })).m).pulseRefusal p = some 3 ∧
      30000000 < (shuttered (fun x => { x with onLog := [(0, 6000000)] })).m.onTime + 100000 * ready.pulseWidth p) ∧
    (let p : ShutterPulse := ⟨.open, 250, .action, 0⟩
     let s := shuttered (fun x => { x with pulse := some p })
     s.defined ∧ s.m.shut.pulse = some p ∧ p.startedAt + 100000 * p.width ≤ s.m.now + 25000000 ∧
      s.m.now + 24999999 < p.startedAt + 100000 * p.width ∧ s.m.night.pulseDone = false) ∧
    (let s := shuttered (fun x => { x with braking := true })
     s.defined ∧ s.m.shut.braking = true ∧ s.m.shut.brakeAt + 100000 ≤ s.m.now + 100000) ∧
    (let p : ShutterPulse := ⟨.close, 5, .action, 0⟩
     let s := shuttered (fun x => { x with check := some p })
     s.defined ∧ s.m.shut.check = some p ∧ s.m.shut.brakeAt + 100000 ≤ s.m.now + 100000) := by
  unfold State.defined
  dsimp only
  decide +kernel

/-- `ready` with TIMER_MIN and the night changed. -/
def nightly (timer : Nat) (f : Midnight → Midnight := id) : State := holding ((ready.set R.CP_MN_CTL.TIMER_MIN timer).setNight f)

theorem witness_MidnightRequests :
    (let s := nightly 1 (fun x => { x with lastDone := some 0 })
     s.defined ∧ s.m.get R.CP_MN_CTL.TIMER_MIN ≠ 0 ∧ s.m.power.mode = .run ∧ s.m.night.lastDone = some 0 ∧
      0 + 6000000000 * s.m.get R.CP_MN_CTL.TIMER_MIN ≤ s.m.now + 6000000000 ∧
      s.m.now + 5999999999 < 0 + 6000000000 * s.m.get R.CP_MN_CTL.TIMER_MIN) ∧
    ((nightly 0).defined ∧ (nightly 0).m.get R.CP_MN_CTL.TIMER_MIN = 0 ∧ (nightly 1).m.night.lastDone = none) ∧
    (nightly 0 (fun x => { x with running := true })).m.night.running = true ∧
    (let b := (nightly 0 (fun x => { x with failedAt := some 0 })).m
     b.night.failedAt = some 0 ∧ b.now < 0 + 6000000000) ∧
    (ready.night.running = false ∧ ready.night.failedAt = none ∧ ready.seq.held = []) ∧
    ((inDawn 4).m.phase < 5 ∧ (inDawn 14).m.phase = 14) ∧
    (ready.power.valid.contains .vsht = true ∧ ready.flag R.CP_SHT_STATUS.SHT_FAULT = false ∧ 5 ≤ ready.phase ∧ ready.phase ≠ 14) ∧
    (let s := nightly 0 (fun x => { x with running := true, step := 5 })
     s.defined ∧ s.m.night.running = true ∧ s.m.night.step = 5) ∧
    (let s := nightly 0 (fun x => { x with running := true, step := 4 })
     s.defined ∧ s.m.night.step ≠ 5) := by
  unfold State.defined
  dsimp only
  decide +kernel

/-! ### Ticks, clocks, the encoder and the sync bus -/

/-- `ready` with its clocks changed. -/
def clocked (f : Clock → Clock) : Block := { ready with clock := f ready.clock }

theorem witness_TicksFall :
    (let s := holding (clocked (fun x => { x with ticked := true }))
     s.defined ∧ s.m.get R.TB_CTL.TICK_SRC = 0 ∧ s.m.clock.ticked = true ∧ s.m.power.mode = .run ∧
      (s.m.elapse s.m.periodInForce).tickKind = some .plain ∧ (s.m.elapse (s.m.periodInForce - 1)).tickKind = none ∧
      s.m.clock.sync.ptAdjust = none ∧ s.m.thermal.enforced = false) ∧
    (∀ t ∈ [0, 124999, 125000, 4000001],
      let b := (clocked (fun x => { x with ticked := true, enc := { x.enc with targeted := true, reachedAt := some t } })).set R.TB_CTL.TICK_SRC 2
      b.get R.TB_CTL.TICK_SRC = 2 ∧ b.clock.ticked = true ∧ b.power.mode = .run ∧ b.now < b.clock.lastTick + b.periodInForce ∧
        (b.elapse 4000000).clock.lastTick + (b.elapse 4000000).periodInForce ≤ (b.elapse 4000000).now ∧
        b.clock.enc.targeted = true ∧ b.reachedAt = some t) ∧
    (let b := (clocked (fun x => { x with ticked := true, enc := { x.enc with targeted := true, target := 1#40 } })).set R.TB_CTL.TICK_SRC 2
     b.clock.enc.targeted = true ∧ b.reachedAt = none) ∧
    (let b := ((clocked (fun x => { x with ticked := true })).set R.TB_CTL.TICK_SRC 1).set R.TB_SYNC_STATUS.ROLE 2
     b.get R.TB_CTL.TICK_SRC = 1 ∧ b.role ≠ 3 ∧ b.mayTick = true ∧ b.role = 2) ∧
    (ready.ticking = false ∧ ready.phase ≠ 5 ∧ ready.clock.ticked = false ∧ ready.clock.sync.ptAdjust = none) ∧
    (let b := clocked (fun x => { x with ticked := true, sync := { x.sync with ptAdjust := some 5#48, ptStep := some 200 } })
     b.clock.ticked = true ∧ b.clock.sync.ptAdjust = some 5#48 ∧ b.clock.sync.ptStep = some 200) ∧
    (let b := ready.setTh (fun x => { x with enforced := true })
     b.get R.TB_CTL.TICK_SRC = 0 ∧ b.thermal.enforced = true) := by
  unfold State.defined
  dsimp only
  decide +kernel

theorem witness_ClockThrottleModelEvents :
    (let s := holding (ready.setFlag R.TB_STATUS.PLL_LOCK true)
     s.defined ∧ s.m.power.mode = .run ∧ s.m.phase ≠ 0 ∧ s.m.flag R.TB_STATUS.PLL_LOCK = true ∧ s.m.flag R.TB_STATUS.REF_LOST = false) ∧
    ((holding ready).defined ∧ (holding ready).m.flag R.TB_STATUS.PLL_LOCK = false ∧ (holding ready).m.thermal.graceEnd = none ∧
      (holding ready).m.thermal.mismatch < 16) ∧
    ((inDawn 0).defined ∧ (inDawn 0).m.phase = 0 ∧ (holding (ready.setFlag R.TB_STATUS.REF_LOST true)).m.flag R.TB_STATUS.REF_LOST = true) ∧
    (let s := holding ((clocked (fun x => { x with ticked := true })).setTh (fun x => { x with graceEnd := some 0#48, mismatch := 16 }))
     s.defined ∧ s.m.thermal.graceEnd = some 0#48 ∧ ptReached s.m.clock.tickPt 0#48 = true ∧ s.m.clock.ticked = true ∧
      s.m.now + 14999 < s.m.clock.lastTick + 100 * s.m.clock.row0 ∧ s.m.clock.lastTick + 100 * s.m.clock.row0 ≤ s.m.now + 15000 ∧
      16 ≤ s.m.thermal.mismatch ∧ ptReached s.m.clock.tickPt 1#48 = false) ∧
    (let b := (ready.set R.TB_CTL.TICK_SRC 1).set R.TB_SYNC_STATUS.ROLE 2
     b.follower = true ∧ b.thermal.work = (1, 1) ∧ ready.follower = false) ∧
    (ready.flag R.TH_STATUS.WARN = false ∧ ready.thWarn - 1 < ready.thWarn ∧ ready.flag R.TH_STATUS.THROTTLE = false) ∧
    (let b := (ready.setFlag R.TH_STATUS.WARN true).setFlag R.TH_STATUS.THROTTLE true
     b.flag R.TH_STATUS.WARN = true ∧ b.flag R.TH_STATUS.THROTTLE = true ∧
      b.thThrottle - hyst (b.get R.TH_HYST.THR_HYST) - 1 < b.thThrottle - hyst (b.get R.TH_HYST.THR_HYST)) := by
  unfold State.defined
  dsimp only
  decide +kernel

/-- The encoder interface counts. -/
def counting : State := holding (ready.setFlag R.TB_ENC_CTL.EN true)

theorem witness_EncoderCounts :
    (counting.defined ∧ counting.m.encRuns = true ∧ counting.m.clock.enc.levelA = false ∧ counting.m.clock.enc.levelB = false ∧
      counting.m.get R.TB_ENC_CTL.FILT < 1 + counting.m.get R.TB_ENC_CTL.FILT ∧
      counting.m.get R.TB_ENC_CTL.FILT ≤ counting.m.get R.TB_ENC_CTL.FILT) ∧
    (holding ready).defined ∧ (holding ready).m.encRuns = false ∧ (holding ready).m.get R.TB_ENC_CTL.FILT < 256 := by
  unfold State.defined
  decide +kernel

theorem witness_BusFramesRoundTrip :
    ((List.replicate 35 (1#8 : Byte)).length + 5 = 40) ∧ (2 ≠ leField [1#8] 0 1) ∧ ((crc16 [1#8] + 1) % 65536 ≠ crc16 [1#8]) ∧
    (5 ≤ 6 ∧ busBody 1 6 (busFrame [1#8]) = some [1#8]) ∧ ([true, false] : List Bool).length % 2 = 0 ∧
    heardBody 1 6 (lineOf (busFrame [1#8])) = some [1#8] ∧ 7 < 8 * ([1#8] : List Byte).length := by
  decide +kernel

/-- The unit on the sync bus in a role, its sync state changed. -/
def onBus (role : Nat) (f : Sync → Sync := id) (g : Block → Block := id) : State :=
  holding (g (((ready.set R.TB_CTL.TICK_SRC 1).set R.TB_SYNC_STATUS.ROLE role).setSync (fun x => f { x with started := true })))

/-- Bodies of a beacon of unit 15, a reply of unit 15 in tick 0, and a claim of unit 0. -/
def beaconBody : List Byte := [1#8, 15#8] ++ List.replicate 33 1#8
@[inherit_doc beaconBody] def replyBody15 : List Byte := [2#8, 15#8] ++ List.replicate 21 0#8
@[inherit_doc beaconBody] def claimBody0 : List Byte := [3#8, 0#8] ++ List.replicate 4 0#8

theorem witness_SyncBus :
    ((onBus 2).defined ∧ heardBody 1 40 [] = none) ∧ ((holding ready).m.syncRuns = false) ∧ ((onBus 3).m.role = 3) ∧
    ((onBus 1).defined ∧ heardBody 1 40 (lineOf (busFrame beaconBody)) = some beaconBody ∧ (onBus 1).m.syncRuns = true ∧ (onBus 1).m.role ≠ 3) ∧
    (let s := onBus 2 (fun x => { x with dlySeen := true, beacons := 7 })
     (s.m.elapse 0).beaconError ≤ 2000 ∧ s.m.flag R.TB_SYNC_STATUS.HOLDOVER = false ∧
      leField beaconBody 15 1 % 16 + leField beaconBody 15 1 / 128 * 128 ≠ s.m.unitId + 128 ∧ s.m.clock.sync.dlySeen = true ∧
      7 ≤ s.m.clock.sync.beacons ∧ (onBus 2).m.clock.sync.dlySeen = false) ∧
    (let s := onBus 2 (fun x => { x with replyDue := true })
     s.defined ∧ s.m.syncRuns = true ∧ s.m.role = 2 ∧ s.m.clock.sync.replyDue = true ∧ s.m.now + 2000 = s.m.clock.sync.rxAt + 2000 ∧
      clashes (busFrame (s.m.elapse 2000).replyBody) (some 0) = true ∧ clashes (busFrame (s.m.elapse 2000).replyBody) none = false) ∧
    (heardBody 2 28 (lineOf (busFrame replyBody15)) = some replyBody15 ∧ (onBus 2).m.syncRuns = true ∧ (onBus 2).m.role ≠ 3) ∧
    (let s := onBus 3 id (fun b => b.set R.TB_FRAME.FRAME 0)
     s.defined ∧ s.m.syncRuns = true ∧ s.m.role = 3 ∧ leField replyBody15 2 4 = s.m.get R.TB_FRAME.FRAME) ∧
    (let s := onBus 2 (fun x => { x with awaits := true })
     s.defined ∧ s.m.syncOn = true ∧ s.m.role = 2 ∧ s.m.clock.sync.awaits = true ∧
      s.m.clock.sync.arrival + 2000 ≤ 10 * ((s.m.now + 1480 : Nat) : Int) ∧
      10 * ((s.m.now + 1479 : Nat) : Int) < s.m.clock.sync.arrival + 2000 ∧ s.m.clock.sync.missed + 1 < s.m.lossN) ∧
    (let s := onBus 2 (fun x => { x with missed := 2, awaits := true })
     s.defined ∧ s.m.syncOn = true ∧ s.m.role = 2 ∧ s.m.clock.sync.awaits = true ∧ s.m.clock.sync.missed + 1 = s.m.lossN) ∧
    (let s := onBus 1
     s.defined ∧ s.m.syncOn = true ∧ s.m.role = 1 ∧
      s.m.clock.sync.searchFrom + s.m.lossN * s.m.periodSet ≤ s.m.now + s.m.lossN * s.m.periodSet) ∧
    (let s := onBus 1 (fun x => { x with election := true })
     s.defined ∧ s.m.syncRuns = true ∧ s.m.clock.sync.election = true ∧ s.m.clock.sync.heardLower = false ∧
      s.m.clock.sync.electionAt + 100 * (50 + 20 * s.m.unitId) ≤ s.m.now + 5000 ∧
      s.m.now + 6999 < s.m.clock.sync.electionAt + 100 * (50 + 20 * s.m.unitId) + 2000 ∧
      clashes (busFrame s.m.claimBody) none = false ∧ clashes (busFrame s.m.claimBody) (some 0) = true) ∧
    (let s := onBus 1 (fun x => { x with election := true }) (fun b => b.set R.TB_SYNC_CTL.UNIT_ID 15)
     s.defined ∧ heardBody 3 11 (lineOf (busFrame claimBody0)) = some claimBody0 ∧ s.m.syncRuns = true ∧ s.m.clock.sync.election = true ∧
      leField claimBody0 1 1 % 16 < s.m.unitId) := by
  unfold State.defined
  dsimp only
  decide +kernel

/-! ### Frames, zones, brackets and output -/

/-- A frame of 8 window rows in which some slots are done. -/
def framed (slot : Nat) : Frame :=
  { n := 1, regs := ready.regs, mem := [], tickPt := 0#48, tickAt := 0, startAt := 0, row0 := 150, y0 := 0, w := 8, slot := slot }

/-- `ready` with frames in flight. -/
def imaging (l : List Frame) (f : Imager → Imager := id) : Block :=
  { clocked (fun x => { x with ticked := true }) with img := f { ready.img with frames := l, enabled := true } }

theorem witness_FramesAreRead :
    (let s := holding (imaging [])
     s.defined ∧ s.m.img.enabled = true ∧ s.m.clock.ticked = true ∧ s.m.power.mode = .run ∧
      s.m.img.lastStart ≠ some (s.m.get R.TB_FRAME.FRAME) ∧ s.m.clock.lastTick + 100 * s.m.clock.row0 ≤ s.m.now + 15000 ∧ s.m.img.frames = []) ∧
    (let s := holding (imaging [{ framed 0 with startAt := 15000 }])
     s.defined ∧ s.m.img.lastStart ≠ some (s.m.get R.TB_FRAME.FRAME) ∧
      ∀ x ∈ s.m.img.frames, ((s.m.elapse 15000).newFrame).startAt < x.startAt + x.slots * x.rowClocks) ∧
    (let s := holding (imaging [framed 20])
     s.defined ∧ (∀ x ∈ s.m.img.frames, x.slots ≤ x.slot) ∧ s.m.power.mode ≠ .idle) ∧
    (let s := holding ((imaging []).setPower (fun x => { x with mode := .idle }))
     s.defined ∧ s.m.img.frames = [] ∧ s.m.power.mode = .idle ∧ s.m.clock.ticked = true ∧
      s.m.img.lastStart ≠ some (s.m.get R.TB_FRAME.FRAME) ∧
      s.m.clock.lastTick + 100 * s.m.clock.row0 + 2 * rowTime (s.m.get R.FP_ROWCFG.ROW_TIME) ≤ s.m.now + 1000000) ∧
    (∀ k ∈ [0, 19], (match ((holding (imaging [framed k])).m.elapse 1000000000).latchWps.readingFrame with
      | none => false
      | some fr =>
        let r := ((holding (imaging [framed k])).m.elapse 1000000000).latchWps.slotEcc fr {}
        let q := r.1.slotBias r.2 0
        decide (fr.startAt + (fr.slot + 1) * fr.rowClocks ≤ 1000000000) &&
        (match (q.1.slotWork q.2 {}).readingFrame with
        | some f => f.slot == k
        | none => false)) = true) ∧
    (0 + 1 < (framed 0).slots ∧ 19 + 1 = (framed 19).slots ∧ (framed 0).slot ≠ 2 ∧ (framed 0).slot ≠ 6) ∧
    (let want := bias255 ((framed 6).get R.FP_BIAS.LEVEL)
     (framed 6).pulsed 6 = true ∧ want + 12750000 < 255000 * 5000 ∧ 12750000 < want ∧ 255000 * 50 ≤ 0 + 12750000) ∧
    (4096 ≤ 4096 ∧ 258032 ≤ 258032 ∧ 4095 < 4096 ∧ 258032 < 258033) := by
  unfold State.defined
  dsimp only
  decide +kernel

theorem witness_BudgetPlanAdmitsPrefix :
    takeWhileFits 5 [(7, 3), (9, 3)] = [7] ∧ ([(7, 3), (9, 3)] : List (Nat × Nat))[1]? = some (9, 3) := by
  decide +kernel

theorem witness_ZonesCloseAndPublish :
    (let s := holding (imaging [framed 20])
     s.defined ∧ s.m.closing = some (framed 20) ∧ s.m.night.running = false) ∧
    (let s := holding (imaging [])
     s.defined ∧ s.m.closing = none ∧ ∀ fr ∈ s.m.img.frames.head?, fr.closed = false) ∧
    (∀ p ∈ [true, false], let fr := { framed 20 with closed := true, published := p }
      (holding (imaging [fr])).m.img.frames = fr :: [] ∧ fr.closed = true ∧ fr.published = p) ∧
    (let z := { zoneIn [] 0 with stat := 5, debounce := 1, highLim := 10, lowLim := 5, hyst := 2 }
     let x : ZoneRun := {}
     z.stat < 6 ∧ z.debounce = 1 ∧ z.highLim < 11 ∧ 10 ≤ z.highLim ∧ x.s ≠ .high ∧ 4 < z.lowLim ∧ x.s = .normal ∧ z.lowLim ≤ 5 ∧
      ({ x with s := .high } : ZoneRun).s = .high ∧ z.highLim - z.hyst < 9) ∧
    (let x : Binding := { on := 2, tentative := true, template := 0, k := 0, arg := 0 }
     x.tentative = true ∧ (onState x.on).isSome = true) := by
  unfold State.defined
  dsimp only
  decide +kernel

theorem witness_LoopOutputsWithinLimits :
    ((0 : Nat) ≤ 4095 ∧ (65536 * ((0 : Nat) : Int) ≤ 5) ∧ ((5 : Int) ≤ 65536 * ((4095 : Nat) : Int))) ∧
    (0 < 65535 ∧ ((4095 : Nat) : Rat) < ((256 * 100 : Nat) * (((65535 : Nat) : Int) - (0 : Nat)) : Int) / 256 +
      (((0 : Int) + (0 : Nat) * (((65535 : Nat) : Int) - (0 : Nat)) : Int) : Rat) / 65536) ∧
    (let s := holding { ready with zones := { ready.zones with loopsOn := true, loopTick := true } }
     s.defined ∧ s.m.zones.loopsOn = true ∧ s.m.zones.loopTick = true ∧ s.m.clock.lastTick + 4000 ≤ s.m.now + 4000 ∧
      s.m.now + 3999 < s.m.clock.lastTick + 4000) ∧
    ((holding ready).defined ∧ (holding ready).m.zones.loopsOn = false ∧ (holding ready).m.zones.loopTick = false) := by
  unfold State.defined
  dsimp only
  decide +kernel

theorem witness_BracketShadowMoves :
    (let s := holding (ready.setBrk (fun x => { x with shadow := .loading, loaded := true }))
     s.defined ∧ s.m.brk.shadow = .loading ∧ s.m.brk.loaded = true) ∧
    (let s := holding (ready.setBrk (fun x => { x with shadow := .ready, content := .gain }))
     s.defined ∧ s.m.brk.shadow = .ready ∧ s.m.brk.content = .gain ∧ s.m.brk.forced = none ∧
      s.m.brk.readyAt + 6000000000 ≤ s.m.now + 6000000000 ∧ s.m.now + 5999999999 < s.m.brk.readyAt + 6000000000) ∧
    (∀ c ∈ ([.gain, .offsets] : List ShadowContent),
      let b := ready.setBrk (fun x => { x with copyback := true, content := c })
      b.brk.copyback = true ∧ b.brk.content = c) ∧
    ((holding ready).defined ∧ (holding ready).m.brk.copyback = false ∧ (holding ready).m.brk.shadow ≠ .ready) ∧
    (Mem.wf 0#8 [] = true ∧ 786431 < 786432 ∧ 0x600000 ≤ 0x600000 ∧ 0x5FFFFF % 8 ≠ 2 ∧ 0x5FFFFF % 8 ≠ 3) := by
  unfold State.defined
  dsimp only
  decide +kernel

theorem witness_BurstsLeaveInOrder :
    (let s := holding { ready with out := { ready.out with image := [⟨0, 1, 0, [], 0⟩] } }
     s.defined ∧ s.m.out.lost = false ∧ s.m.power.valid.contains .vddphy = true ∧ s.m.power.mode = .run ∧
      (s.m.out.result ++ s.m.out.image).take 1 ≠ []) ∧
    (let s := holding { ready with out := { ready.out with lost := true } }
     s.defined ∧ s.m.out.lost = true) ∧
    ((⟨0, 1, 0, [], 0⟩ : Packet).dt = 1 ∧ (⟨0, 1, 0, [], 0⟩ : Packet).vc = 0) := by
  unfold State.defined
  dsimp only
  decide +kernel

/-! ## Ill-formed commands -/

/-- For each check of `Instr.wf` commands that break it. -/
def illFormed0 : List Instr :=
  [.sleep 0 8, .wake 0 64, .lampSoftShort 0 8, .zoneClose 0 [1024] [], .beaconRx 0 (List.replicate 1025 false), .claimRx 0
   (List.replicate 1025 false), .replyRx 0 (List.replicate 1025 false) 0, .hostFrame 0 { port := .a, part := .shift 65536 },
   .hostFrame 0 { port := .a, part := .rise 17 },
   .registerWrite 0 .a 256 0#32, .readClear 0 .a 256 0#32, .stagedWrite 0 .a (.register 256 0#32), .stagedWrite 0 .a (.table 2 0#32),
   .stagedWrite 0 .a (.table 0x100000000 0#32)]
@[inherit_doc illFormed0] def illFormed1 : List Instr :=
  [.interruptMessage 0 256, .icAck 0 .a 256 1, .icAck 0 .a 1 16, .ringEnable 0 32, .ringHeadWrite 0 .a 32 0, .ringTailWrite 0 .a 32
   0, .lostRecord 0 32, .ping 0 8, .version 0 8, .status 0 8, .applyOverlay 0 8, .armOverlay 0 8, .commitArmed 0 8]
@[inherit_doc illFormed0] def illFormed2 : List Instr :=
  [.overlayInfo 0 8 [], .startMidnight 0 8, .abortRoutine 0 8, .nvFlush 0 8, .logRead 0 8, .logInfo 0 8, .logClear 0 8, .bracketForce
   0 8, .peerSend 0 8, .badCommand 0 8, .replyEnqueue 0 8, .peerRx 0 8, .peerQueueEnter 0 8]
@[inherit_doc illFormed0] def illFormed3 : List Instr :=
  [.arm 0 32, .cancel 0 32, .confirm 0 32, .drainResume 0 32, .leadinStart 0 512, .valvePulse 0 512, .valveLevel 0 512, .valveRelease
   0 512, .lampSet 0 512, .shutter 0 512, .hostNote 0 512, .peerNote 0 512, .lowsideCheckEnd 0 16 0 none]
@[inherit_doc illFormed0] def illFormed4 : List Instr :=
  [.boostEnd 0 16 0 none, .commandEnd 0 16, .releaseEnd 0 16 0, .bankWaitTimeout 0 4, .chopPeriod 0 16 0 none, .ontimeTrip 0 16,
   .valveOvercurrent 0 16 0, .openCoil 0 16 0, .bootstrapUv 0 4 [], .lampPeriodStart 0 8 {}, .inrushEnd 0 8, .inrushCurrentLimit 0 8 0,
   .lampShort 0 8 0]
@[inherit_doc illFormed0] def illFormed5 : List Instr :=
  [.statusPoll 0 256, .mpReadStatus 0 .a 2, .mpReadId 0 .a 2, .mpReadSfdp 0 .a 2, .mpWriteEnable 0 .a 2, .mpErase4k 0 .a 2,
   .mpErase64k 0 .a 2, .nvWriteDone 0 [16384] [], .nvWriteDone 0 [] [16384]]

theorem test_ill_formed_refused : illFormed0.all (fun c => !c.wf) = true ∧ illFormed1.all (fun c => !c.wf) = true ∧ illFormed2.all
    (fun c => !c.wf) = true ∧ illFormed3.all (fun c => !c.wf) = true ∧ illFormed4.all (fun c => !c.wf) = true ∧ illFormed5.all (fun c
    => !c.wf) = true := by decide +kernel

theorem test_well_formed_accepted :
    ([.sleep 0 7, .wake 0 63, .icAck 0 .a 255 15, .ringEnable 0 31, .stagedWrite 0 .a (.table 0xFFFFFFFC 0#32), .statusPoll 0 255,
      .peerNote 0 511, .nvWriteDone 0 [16383] [16383], .hostFrame 0 { port := .a, part := .rise 16 }] : List Instr).all Instr.wf = true := by decide

/-- No command starts out refused: the queue of the reset state is empty, and a step on it idles (log entry 2). -/
theorem test_empty_queue_idles : step State.reset = .next State.reset := rfl

/-- No row of the table gives bits, so no word spells a command. -/
theorem test_no_word_spells : decodeTableWord 32 0xFFFFFFFF = none ∧ State.reset.withFetchWord 32 0 = State.reset := ⟨rfl, rfl⟩

/-! ## The register table -/

/-- Every field lies inside its word, and the fields of a word do not overlap (R12, R746). -/
theorem test_fields_fit_and_are_disjoint :
    (List.range 256).all (fun i => (fieldsOf i).all (fun f => f.idx == i && decide (f.lo + f.width ≤ 32)) &&
      decide ((fieldsOf i).Pairwise (fun f g => f.lo + f.width ≤ g.lo ∨ g.lo + g.width ≤ f.lo))) = true := by decide +kernel

/-- The reset word of each register is made of its fields' reset values (R20, R746). -/
theorem test_reset_words : (List.range 256).all (fun i => (fieldsOf i).all (fun f =>
    f.get (regsReset.getD i 0#32) == f.reset)) = true := by decide +kernel

/-- The words written out for reset are those of the field tables. -/
theorem test_resetWords : (List.range 256).map (fun i => (resetWord i).toNat) = resetWords := by decide +kernel

/-! ## The land map -/

/-- The signals of the map, row by row. -/
def mapped : List Signal := (List.range 17).flatMap (fun r => (List.range 17).filterMap (signalAt r))

/-- R46, R50, R53: 289 lands in a grid of 17 by 17, 155 of them signals, no two the same, and 49 thermal; GL0 is at F1, GL7 at N1,
GL8 at V3, GL11 at V6 and GL12 at V11. -/
theorem test_land_map :
    (landMap.length = 17 ∧ landMap.all (fun l => l.length == 17) = true) ∧
    (mapped.length = 155 ∧ mapped.Nodup) ∧ landMap.flatten.countP (· == .thermal) = 49 ∧
    signalAt 5 0 = some (.gl 0) ∧ signalAt 12 0 = some (.gl 7) ∧ signalAt 16 2 = some (.gl 8) ∧ signalAt 16 5 = some (.gl 11) ∧
    signalAt 16 10 = some (.gl 12) := by decide +kernel

/-! ## Values that the manual states -/

/-- R158: bits go out least significant first, a 1 as low then high. -/
theorem test_line_code : lineOf [0x03#8] = [false, true, false, true, true, false, true, false, true, false, true, false, true, false, true, false] := by
  decide +kernel

/-- R274: the CRC-32 of the ASCII bytes 123456789. -/
theorem test_crc32_check : crc32 ((List.range 9).map (fun i => BitVec.ofNat 8 (0x31 + i))) = 0xCBF43926 := by decide +kernel

/-- Chapter 04, worked case: the budgets at 200 frames/s, and the zones that DIVIDE 2 admits. -/
theorem test_budget : budgetOf (1, 1) 500000 = 7200000 ∧ budgetOf (1, 2) 500000 = 3600000 ∧
    (takeWhileFits 3600000 (List.replicate 8 (0, 50032) ++ List.replicate 32 (1, 65568) ++ List.replicate 64 (2, 24608))).length = 84 := by
  decide +kernel

/-- Chapter 07, worked case: pixel (500, 300) of frame 40,120, in 1/16 count from stage 1 on. -/
theorem test_pixel_stages :
    let fr := { framed 0 with mem := memReset }
    let px : PixelRecord := { offset := 32483, gain := 17203, drift := -12, a := 61, bad := false, deconvOff := false, shutBad := false, skim := 0 }
    fr.stage2 px 157780 = 27848 ∧ fr.stage3 px 27848 = 29240 ∧ fr.stage4 px 192 29240 = 29276 ∧ fr.stage5 px (some 28892) 29276 = 29396 := by
  dsimp only
  decide +kernel

/-- Chapter 07, worked case: the median of the valid neighbours, and the two radiometric results. -/
theorem test_pixel_output :
    medianOf [29396, 29456, 29432] = some 29432 ∧
    (let le := fun (a _ : Nat) => if a = radioAddr 513 then 35210 else 35274
     radioOf le (fun _ => false) (3283725 / 100) = 35215 ∧ radioOf le (fun _ => false) (328395 / 10) = 35218) := by
  dsimp only
  decide +kernel

/-- Chapter 10, worked case: zone 12's limit state over frames 40,120 to 40,125. -/
theorem test_zone_limits :
    let z := { zoneIn [] 0 with stat := 5, debounce := 2, highLim := 120, lowLim := 0, hyst := 40 }
    ([236, 412, 405, 178, 30, 0].foldl (fun (p : ZoneRun × List (LimitState × Nat)) v =>
      let x := (p.1.update z (some v)).1
      (x, p.2 ++ [(x.s, x.deb)])) ({}, [])).2 = [(.normal, 1), (.high, 0), (.high, 0), (.high, 0), (.high, 1), (.normal, 0)] := by
  dsimp only
  decide +kernel

/-- Chapter 10, worked case: loop 0 at tick 40,121. -/
theorem test_loop_step : loopStep 35500 512 1024 0 3276 117964800 35214 = (118257664, 2376) := by decide +kernel

/-- Chapter 13, worked case: the sense codes of ILIM_INRUSH and ISHORT on 5 mΩ, and the duties under the factor 59,772. -/
theorem test_lamp_codes : senseCode 25000 500 = 1024 ∧ senseCode 45000 500 = 1843 ∧
    ((ready.set R.LD_FACTOR.F 59772).lampDuty 0 { req := 2376 }).applied = 2167 ∧
    ((ready.set R.LD_FACTOR.F 59772).lampDuty 1 { req := 2048 }).applied = 1867 := by decide +kernel

/-- Chapter 14, worked case: the status word after an accepted frame in tick 0x9CBA. -/
theorem test_status_word :
    ({ ready.set R.TB_FRAME.FRAME 40122 with clock := { ready.clock with ticked := true } } : Block).statusWord {} .a false = 0x00BA := by
  decide +kernel

/-- R581: a source that waits for SEQ is taken between handlers, and cleared (R578). -/
theorem test_sources_taken : ((ready.doorbell 2 24).seqTakeSources.irq[0xD8]?).map (·.pending) = some false := by decide +kernel


/-! ## Single commands -/

/-- Whether a command answers a next state that has a property. -/
def leaves (c : Instr) (s : State) (p : State → Bool) : Bool :=
  match exec c s with
  | .next t => p t
  | .fault _ => false
  | .refused _ => false

/-- Chapter 16, worked case: APPLY_OVERLAY(4, 50,000) with tag 0x0041 answers STARTED, 0x0100_0041, and leaves its channel. -/
theorem test_apply_overlay_started :
    leaves (.applyOverlay 0 0) (said [0x10020041#32, 4#32, 0x0000C350#32]) (fun t =>
      t.m.toward 0 0 == [0x01000041#32] && t.m.toward 0 2 == [] && t.m.overlay.want == 4 && t.m.overlay.tick == some 50000) = true := by
  decide +kernel

/-- Chapter 14, worked case: frame A writes WIN_ADDR 0x0091_0180 and WIN_CTL 4 in 80 bits. -/
theorem test_frame_writes_window :
    leaves (.hostFrame 160 { port := .a, part := .rise 16 }) (selected { words := [0x4108, 0x0091, 0x0180, 0x0000, 0x0004] })
      (fun t => t.m.portA.winAddr == 0x00910180 && t.m.portA.winInc == 4 && t.m.portA.lastResult == .ok) = true := by decide +kernel

/-- Chapter 14, worked case: one SCK edge too many and the frame is rejected whole. -/
theorem test_frame_rejected :
    leaves (.hostFrame 160 { port := .a, part := .rise 1 }) (selected { words := [0x4108, 0x0091, 0x0180, 0x0000, 0x0004, 0] })
      (fun t => t.m.portA.winAddr == 0 && t.m.portA.lastResult == .frameRejected && t.m.portA.frameErr && t.m.portA.rejected == 1) = true := by
  decide +kernel

/-- R490, R495: BEGIN opens a transaction, and a second one is refused. -/
theorem test_begin_twice :
    leaves (.beginTxn 0 .b) (holding ready) (fun t => t.m.txn.owner == some 1 && t.m.portB.lastResult == .ok) = true ∧
    leaves (.beginTxn 0 .a) (txned 1) (fun t => t.m.txn.owner == some 1 && t.m.portA.lastResult == .txnRefused) = true := by decide +kernel

/-- R718, R720, R6: an instruction of the TAP that drives the lands in RUN is undefined behaviour, and the next command stops by
name. -/
theorem test_tap_undefined :
    leaves (.tapInstruction 0 .highz false []) (holding ready) (fun t => t.m.undef == some .tap) = true ∧
    exec (.tick 0 {}) (holding { ready with undef := some .tap }) = .fault (.undefinedBehaviour .tap) := ⟨by decide +kernel, rfl⟩

/-- R147: with A leading B the count rises, and DIR_INV turns it round. -/
theorem test_encoder_direction :
    leaves (.encEdge 0 true false 256 256) counting (fun t => t.m.clock.enc.cur.cnt == 1#32) = true ∧
    leaves (.encEdge 0 true false 256 256) (holding (counting.m.setFlag R.TB_ENC_CTL.DIR_INV true))
      (fun t => t.m.clock.enc.cur.cnt == 0xFFFFFFFF#32) = true := by decide +kernel

/-- R494: SEQ's transaction is not rolled back by a host, even with FORCE. -/
theorem test_rollback_refused :
    leaves (.rollback 0 .a true) (txned 2) (fun t => t.m.txn.owner == some 2 && t.m.portA.lastResult == .txnRefused) = true := by
  decide +kernel

/-- R606: an erase of select 0 without S0_WRITE sets CMD_ERR and starts nothing. -/
theorem test_erase_select0 :
    leaves (.mpErase4k 0 .a 0) (holding ready) (fun t => t.m.flag R.MP_STATUS.CMD_ERR && t.m.mp.queued.isNone) = true := by decide +kernel

end Sys2Proof.Tests
end

section
/-! PROOFS. The shapes of a meaning, and the outputs held off after a case of undefined behaviour (R6). -/

namespace Sys2Proof.Proofs

open Sys2Proof.Machine Sys2Proof.Laws

/-- Every valve gate, lamp gate and the shutter bridge is off if a case of undefined behaviour was entered: what R6 asks of every
block that the part can be in. -/
def HeldOff (b : Block) : Prop := b.undef.isSome → b.outputsOff

/-- The shapes of what a command means: time passes and the block changes, with or without the stacks of the interrupt targets,
or the part is reset. -/
inductive Shaped (s : State) : Host.Outcome State Fault Refusal → Prop
  | plain (dt : Nat) (f : Block → Block) : Shaped s (s.run dt f)
  | nests (dt : Nat) (f : Nests → Block → Nests × Block) : Shaped s (s.runNests dt f)
  | powerOn (dt : Nat) (lost : List Rail) : Shaped s (s.runReset dt (fun b => b.stepPowerOn lost))
  | pin (dt : Nat) : Shaped s (s.runReset dt Block.stepPinReset)
  | system (dt : Nat) : Shaped s (s.runReset dt Block.stepSystemReset)

/-- Every command's meaning has one of the shapes. -/
theorem exec_shaped (c : Instr) (s : State) : Shaped s (exec c s) := by
  cases c with
  | powerOnReset dt => exact .powerOn dt _
  | pinReset dt => exact .pin dt
  | systemReset dt =>
    show Shaped s (execSystemReset dt s)
    unfold execSystemReset
    split
    · exact .system dt
    · exact .plain dt id
  | railUv dt rail =>
    show Shaped s (execRailUv dt rail s)
    unfold execRailUv
    split
    · exact .powerOn dt _
    · exact .plain dt _
  | nvWindowWrite dt port items =>
    show Shaped s (execNvWindowWrite dt port items s)
    unfold execNvWindowWrite
    split
    · exact .plain dt _
    · exact .plain dt id
  | stagedWrite dt port entry =>
    show Shaped s (execStagedWrite dt port entry s)
    unfold execStagedWrite
    split
    · exact .plain dt _
    · exact .plain dt id
  | hostFrame | registerWrite | readClear | icAck | icEoi | seqRestart => unfold exec; exact .nests _ _
  | _ => unfold exec; exact .plain _ _

/-- The model's own operation of R6 leaves every output that the statements speak of off. -/
theorem gatesOff_outputsOff (b : Block) : b.gatesOff.outputsOff := by
  refine ⟨fun n hn => ?_, fun k hk => ?_, rfl⟩
  · simp [Block.valve, Block.gatesOff, Vector.getD, hn]
  · simp [Block.lamp, Block.gatesOff, Vector.getD, hk]

/-- What the shape of a meaning ends with holds the outputs off. -/
theorem heldOff_offWhileUndef (b : Block) : HeldOff b.offWhileUndef := by
  intro hu
  rw [offWhileUndef_undef] at hu
  rw [Block.offWhileUndef, if_pos hu]
  exact gatesOff_outputsOff b

theorem heldOff_of_defined {b : Block} (h : b.undef = none) : HeldOff b := by
  simp [HeldOff, h]

/-! A reset ends the aftermath of undefined behaviour; RESET_N low with the part already off changes nothing but the pin. -/

theorem stepPowerOn_undef (b : Block) (lost : List Rail) : (b.stepPowerOn lost).undef = none := rfl

theorem stepSystemReset_undef (b : Block) : b.stepSystemReset.undef = none := rfl

theorem stepPinReset_heldOff (b : Block) (h : HeldOff b) : HeldOff b.stepPinReset := by
  unfold Block.stepPinReset
  simp only []
  split
  · exact h
  · exact heldOff_of_defined rfl

/-- Whatever its shape, a meaning that answers a next state leaves the outputs held off. -/
theorem shaped_next_heldOff {s t : State} {o : Host.Outcome State Fault Refusal} (ho : Shaped s o) (hs : HeldOff s.m)
    (ht : o = .next t) : HeldOff t.m := by
  cases ho with
  | plain dt f =>
    obtain ⟨-, -, hm, -⟩ := run_next f ht
    exact hm ▸ heldOff_offWhileUndef _
  | nests dt f =>
    obtain ⟨-, -, hm, -⟩ := runNests_next f ht
    exact hm ▸ heldOff_offWhileUndef _
  | powerOn dt lost => cases ht; exact heldOff_of_defined (stepPowerOn_undef _ lost)
  | pin dt => cases ht; exact stepPinReset_heldOff _ hs
  | system dt => cases ht; exact heldOff_of_defined (stepSystemReset_undef _)

/-- Settles O2: a meaning ends by holding the outputs off or is a reset, which leaves no case standing or changes no output. -/
theorem undefinedHoldsOutputsOff : Obligations.UndefinedHoldsOutputsOff := by
  intro s t hs ht
  cases hp : s.pending with
  | nil => rw [step_nil hp] at ht; cases ht; exact hs
  | cons c rest =>
    rw [step_cons c rest hp] at ht
    exact shaped_next_heldOff (exec_shaped c { s with pending := rest }) hs ht

/-- Settles O5: after reset no case stands, every stack is empty and nothing waits. -/
theorem invariantsHoldAtReset : Obligations.InvariantsHoldAtReset := by
  refine ⟨heldOff_of_defined rfl, ?_, rfl⟩
  simp [State.reset, Nests.ordered, Nest.ordered, risingBelow]

end Sys2Proof.Proofs
end

section
/-! PROOFS. The register table and what a register write does field by field (R15 to R18). -/

namespace Sys2Proof.Proofs

open Sys2Proof.Machine Sys2Proof.Laws

/-! ## The register table -/

/-- Two fields share no bit of the register file. -/
abbrev Apart (f g : RegField) : Prop := f.idx ≠ g.idx ∨ f.lo + f.width ≤ g.lo ∨ g.lo + g.width ≤ f.lo

theorem Apart.symm {f g : RegField} (h : Apart f g) : Apart g f := by
  unfold Apart at *; omega

/-- The table of registers: every field lies inside its word, and no two of a block share a bit (R12, R746). -/
theorem block_fits_and_apart (hi : Nat) : (∀ f ∈ R.block hi, fits f = true) ∧ (R.block hi).Pairwise Apart := by
  unfold R.block
  split <;> decide +kernel

theorem idx_of_mem_fieldsOf {idx : Nat} {f : RegField} (h : f ∈ fieldsOf idx) : f.idx = idx := by
  simpa using (List.mem_filter.mp h).2

theorem fits_of_mem_fieldsOf {idx : Nat} {f : RegField} (h : f ∈ fieldsOf idx) : fits f = true :=
  (block_fits_and_apart _).1 f (List.mem_filter.mp h).1

theorem fieldsOf_pairwise_apart (idx : Nat) : (fieldsOf idx).Pairwise Apart := (block_fits_and_apart _).2.filter _

/-- Different fields of the table share no bit. -/
theorem apart_of_ne {f g : RegField} (hf : f ∈ fieldsOf f.idx) (hg : g ∈ fieldsOf g.idx) (h : f ≠ g) : Apart f g := by
  by_cases hi : f.idx = g.idx
  · rw [← hi] at hg
    have : Std.Symm Apart := ⟨fun _ _ => Apart.symm⟩
    exact (fieldsOf_pairwise_apart f.idx).forall hf hg h
  · exact .inl hi

/-! ## Stores of a field -/

/-- A field that takes its bits of a word reads them. -/
theorem get_set_of_word (b : Block) (f : RegField) (x : Word) (hf : fits f = true) : (b.set f (f.get x)).get f = f.get x := by
  rw [get_set_self _ _ _ hf, Nat.mod_eq_of_lt (get_lt f x)]

/-- A field of a word with bits cleared depends on its own bits alone. -/
theorem get_andNot_congr (f : RegField) {x y : Word} (w : Word) (h : f.get x = f.get y) : f.get (x &&& ~~~ w) = f.get (y &&& ~~~ w) := by
  apply Nat.eq_of_testBit_eq
  intro i
  have hi : (f.get x).testBit i = (f.get y).testBit i := by rw [h]
  simp only [get_testBit, BitVec.getLsbD_and] at hi ⊢
  grind

/-- A stored field leaves every other register as it was. -/
theorem set_word_other (b : Block) (f : RegField) (v : Nat) {j : Nat} (hf : fits f = true) (hj : f.idx ≠ j) :
    (b.set f v).word j = b.word j := by
  simp only [fits, Bool.and_eq_true, decide_eq_true_eq] at hf
  rw [Block.set, word_setWord _ _ _ _ hf.1, if_neg hj]

/-! ## Writes by access and class (R15 to R18) -/

/-- The result is LOCKED for this field: the write would change an X-class field of a block that runs (R16). -/
def Locks (locked : Bool) (w : Word) (b : Block) (f : RegField) : Prop :=
  locked = true ∧ f.acc = .rw ∧ f.cls = .X ∧ f.get w ≠ b.get f

/-- What one field reads after a write of the word `w`. -/
def written (locked : Bool) (w : Word) (b : Block) (f : RegField) : Nat :=
  match f.acc with
  | .rw => if f.cls = .S ∨ (f.cls = .X ∧ locked = true) then b.get f else f.get w
  | .w1c => f.get (b.word f.idx &&& ~~~ w)
  | _ => b.get f

section
variable (locked : Bool) (w : Word)

/-- A field's write gives LOCKED when the field locks, and keeps the result so far otherwise. -/
theorem putField_result (acc : HostResult × Block) (f : RegField) :
    (Locks locked w acc.2 f → (Block.putField locked w acc f).1 = .locked) ∧
    (¬ Locks locked w acc.2 f → (Block.putField locked w acc f).1 = acc.1) := by
  unfold Locks Block.putField
  cases hacc : f.acc with
  | rw => grind
  | w1c | ro | wo | rc => simp

/-- A field's write leaves the block alone or stores the field. -/
theorem putField_block (acc : HostResult × Block) (f : RegField) :
    (Block.putField locked w acc f).2 = acc.2 ∨ ∃ v, (Block.putField locked w acc f).2 = acc.2.set f v := by
  unfold Block.putField
  cases f.acc with
  | rw => grind
  | w1c => exact .inr ⟨_, rfl⟩
  | ro | wo | rc => exact .inl rfl

/-- A field of a register written reads what it takes from the word. -/
theorem putField_get_self (acc : HostResult × Block) (f : RegField) (hf : fits f = true) :
    (Block.putField locked w acc f).2.get f = written locked w acc.2 f := by
  have hw := get_set_of_word acc.2 f w hf
  unfold written Block.putField
  cases f.acc with
  | rw => grind
  | w1c => exact get_set_of_word _ _ _ hf
  | ro | wo | rc => rfl

/-- A field's write leaves every field beside it as it was. -/
theorem putField_get_other (acc : HostResult × Block) (f g : RegField) (hf : fits f = true) (h : Apart f g) :
    (Block.putField locked w acc f).2.get g = acc.2.get g := by
  obtain hb | ⟨v, hb⟩ := putField_block locked w acc f
  · rw [hb]
  · rw [hb, get_set_other _ _ _ _ hf h]

/-- A field's write leaves every other register as it was. -/
theorem putField_word_other (acc : HostResult × Block) (f : RegField) (hf : fits f = true) {j : Nat} (hj : f.idx ≠ j) :
    (Block.putField locked w acc f).2.word j = acc.2.word j := by
  obtain hb | ⟨v, hb⟩ := putField_block locked w acc f
  · rw [hb]
  · rw [hb, set_word_other _ _ _ hf hj]

/-- What a field takes from a write depends on the block through the field alone. -/
theorem written_congr {a b : Block} {f : RegField} (h : a.get f = b.get f) : written locked w a f = written locked w b f := by
  have hc : f.get (a.word f.idx &&& ~~~ w) = f.get (b.word f.idx &&& ~~~ w) := get_andNot_congr f w h
  unfold written
  rw [h, hc]

/-- Writes of fields apart from `g` leave it alone. -/
theorem putFields_fold_get_other (l : List RegField) (acc : HostResult × Block) (g : RegField) (hl : ∀ f ∈ l, fits f = true ∧ Apart f g) :
    (l.foldl (Block.putField locked w) acc).2.get g = acc.2.get g := by
  induction l generalizing acc with
  | nil => rfl
  | cons f fs ih =>
    obtain ⟨⟨hf, ha⟩, hfs⟩ := List.forall_mem_cons.mp hl
    rw [List.foldl_cons, ih _ hfs, putField_get_other locked w acc f g hf ha]

/-- In a write of fields that share no bit, each is written as if alone. -/
theorem putFields_fold_get (l : List RegField) (acc : HostResult × Block) (hfit : ∀ f ∈ l, fits f = true) (hl : l.Pairwise Apart)
    {f : RegField} (hf : f ∈ l) : (l.foldl (Block.putField locked w) acc).2.get f = written locked w acc.2 f := by
  induction l generalizing acc with
  | nil => cases hf
  | cons g gs ih =>
    obtain ⟨hg, hgs⟩ := List.forall_mem_cons.mp hfit
    obtain ⟨hga, hgsa⟩ := List.pairwise_cons.mp hl
    rw [List.foldl_cons]
    rcases List.mem_cons.mp hf with rfl | hmem
    · rw [putFields_fold_get_other locked w gs _ f (fun x hx => ⟨hgs x hx, (hga x hx).symm⟩), putField_get_self locked w acc f hg]
    · rw [ih _ hgs hgsa hmem, written_congr locked w (putField_get_other locked w acc g f hg (hga f hmem))]

/-- Writes of fields of other registers leave a register as it was. -/
theorem putFields_fold_word_other (l : List RegField) (acc : HostResult × Block) {j : Nat} (hl : ∀ f ∈ l, fits f = true ∧ f.idx ≠ j) :
    (l.foldl (Block.putField locked w) acc).2.word j = acc.2.word j := by
  induction l generalizing acc with
  | nil => rfl
  | cons f fs ih =>
    obtain ⟨⟨hf, hj⟩, hfs⟩ := List.forall_mem_cons.mp hl
    rw [List.foldl_cons, ih _ hfs, putField_word_other locked w acc f hf hj]

/-- The result of a write is LOCKED when some field of it locks, and the result before it otherwise. -/
theorem putFields_fold_result (l : List RegField) (acc : HostResult × Block) (hfit : ∀ f ∈ l, fits f = true) (hl : l.Pairwise Apart) :
    ((∃ f ∈ l, Locks locked w acc.2 f) → (l.foldl (Block.putField locked w) acc).1 = .locked) ∧
    ((∀ f ∈ l, ¬ Locks locked w acc.2 f) → (l.foldl (Block.putField locked w) acc).1 = acc.1) := by
  induction l generalizing acc with
  | nil => exact ⟨fun ⟨_, h, _⟩ => (by cases h), fun _ => rfl⟩
  | cons g gs ih =>
    obtain ⟨hg, hgs⟩ := List.forall_mem_cons.mp hfit
    obtain ⟨hga, hgsa⟩ := List.pairwise_cons.mp hl
    obtain ⟨hlock, hkeep⟩ := putField_result locked w acc g
    obtain ⟨ihLock, ihKeep⟩ := ih (Block.putField locked w acc g) hgs hgsa
    have hsame : ∀ f ∈ gs, (Locks locked w (Block.putField locked w acc g).2 f ↔ Locks locked w acc.2 f) := fun f hf => by
      unfold Locks; rw [putField_get_other locked w acc g f hg (hga f hf)]
    rw [List.foldl_cons]
    constructor
    · rintro ⟨f, hf, hL⟩
      by_cases hx : ∃ x ∈ gs, Locks locked w acc.2 x
      · obtain ⟨x, hx, hxL⟩ := hx
        exact ihLock ⟨x, hx, (hsame x hx).mpr hxL⟩
      · rw [ihKeep fun x hx' hl => hx ⟨x, hx', (hsame x hx').mp hl⟩]
        rcases List.mem_cons.mp hf with rfl | hm
        · exact hlock hL
        · exact absurd ⟨f, hm, hL⟩ hx
    · intro hno
      rw [ihKeep fun x hx hl => hno x (List.mem_cons_of_mem _ hx) ((hsame x hx).mp hl), hkeep (hno g List.mem_cons_self)]

end

/-- The fields of a register after a write. -/
theorem putFields_get (b : Block) {idx : Nat} (w : Word) {f : RegField} (hf : f ∈ fieldsOf idx) :
    (b.putFields idx w).2.get f = written (b.ownerRuns idx) w b f :=
  putFields_fold_get _ _ _ _ (fun _ => fits_of_mem_fieldsOf) (fieldsOf_pairwise_apart idx) hf

/-- Other registers after a write. -/
theorem putFields_word_other (b : Block) (idx : Nat) (w : Word) {j : Nat} (hj : j ≠ idx) : (b.putFields idx w).2.word j = b.word j :=
  putFields_fold_word_other _ _ _ _ (fun _ hf => ⟨fits_of_mem_fieldsOf hf, idx_of_mem_fieldsOf hf ▸ hj.symm⟩)

/-- R16: the result of a register's fields. -/
theorem putFields_result (b : Block) (idx : Nat) (w : Word) :
    ((∃ f ∈ fieldsOf idx, Locks (b.ownerRuns idx) w b f) → (b.putFields idx w).1 = .locked) ∧
    ((∀ f ∈ fieldsOf idx, ¬ Locks (b.ownerRuns idx) w b f) → (b.putFields idx w).1 = .ok) :=
  putFields_fold_result _ _ _ (.ok, b) (fun _ => fits_of_mem_fieldsOf) (fieldsOf_pairwise_apart idx)

/-- Settles O20: the fields of a register share no bit, so each is written as if alone, by its access code and class. -/
theorem registerFieldsByClass : Obligations.RegisterFieldsByClass := by
  refine ⟨fun b idx w f hf => ?_, fun b idx w => ?_⟩
  · have hidx := idx_of_mem_fieldsOf hf
    rw [putFields_get b w hf]
    unfold written
    refine ⟨fun ha hS hX => ?_, fun ha hX hrun => ?_, fun ha => ?_, fun ha hS => ?_, fun ha => ?_,
      fun j => putFields_word_other b idx w⟩
    · simp [ha, hS, hX]
    · simp [ha, hX, hrun]
    · simp [ha, hidx]
    · simp [ha, hS]
    · rcases ha with ha | ha | ha <;> simp [ha]
  · obtain ⟨hlock, hok⟩ := putFields_result b idx w
    by_cases h : ∃ f ∈ fieldsOf idx, Locks (b.ownerRuns idx) w b f
    · obtain ⟨f, hf, hr, ha, hX, hne⟩ := h
      exact ⟨⟨fun _ => ⟨hr, f, hf, ha, hX, hne⟩, fun _ => hlock ⟨f, hf, hr, ha, hX, hne⟩⟩, .inl (hlock ⟨f, hf, hr, ha, hX, hne⟩)⟩
    · have hres := hok (fun f hf hl => h ⟨f, hf, hl⟩)
      refine ⟨⟨fun hl => ?_, fun ⟨hr, f, hf, ha, hX, hne⟩ => absurd ⟨f, hf, hr, ha, hX, hne⟩ h⟩, .inr hres⟩
      rw [hres] at hl; cases hl

end Sys2Proof.Proofs
end

section
/-! PROOFS. The single accesses of a host: REGISTER_WRITE, READ_CLEAR and PT_CAPTURE (chapters 00, 04 and 14). -/

namespace Sys2Proof.Proofs

open Sys2Proof.Machine Sys2Proof.Laws

/-! ## One write item as a frame of its own (R463, R470, R471) -/

/-- The registers whose writes are not `Block.writeReg`: SYS_CTL, WIN_DATA, PW_CTL and the two ends of interrupt. -/
def ownWrites : List Nat := [0x05, 0x0A, 0x11, 0xC5, 0xC7]

/-- A write item of a register of its own meaning: the register is written, and its result stands as item `i`'s. -/
theorem writeRegister_eq (p : Port) (x : WriteRun) (i idx : Nat) (w : Word) (n : Nests) (b : Block) (h : idx < 256) (ho : idx ∉ ownWrites) :
    writeRegister p x i idx w n b =
      ({ x with run := (b.writeReg p x.run idx w).2.1, results := x.results ++ [(i, (b.writeReg p x.run idx w).1, none)],
                clears := if idx = 0x0B ∧ R.WIN_STATUS.FAULT.get w = 1 then x.clears ++ [i] else x.clears },
       n, (b.writeReg p x.run idx w).2.2) := by
  have h255 : ¬ 0xFF < idx := by omega
  simp only [ownWrites, List.mem_cons, List.not_mem_nil, or_false, not_or] at ho
  obtain ⟨h05, h0A, h11, hC5, hC7⟩ := ho
  unfold writeRegister
  simp only [h255, h05, h0A, h11, hC5, hC7, if_false]
  split <;> rfl

/-- The result of a frame of one item is the item's. -/
theorem firstResult_one (i : Nat) (r : HostResult) (a : Option Nat) : firstResult [(i, r, a)] = r := by
  cases r <;> rfl

/-- A frame of one item that is no access of the window changes no fault of the window but by clearing it. -/
theorem endItems_one (b : Block) (p : Port) (run : FrameRun) (i : Nat) (r : HostResult) (clears : List Nat)
    (hc : clears = [] ∨ clears = [i]) (hb : clears = [i] → b.setPort p (fun x => { x with winFault := false }) = b) :
    b.endItems p { run := run, results := [(i, r, none)], clears := clears } = (r, b) := by
  unfold Block.endItems Block.storeItems Block.pageItems Block.frameFaults
  rcases hc with rfl | rfl
  · simp [firstResult_one, sortBy, insertBy]
  · simp [firstResult_one, sortBy, insertBy, hb rfl]

/-- A write of WIN_STATUS with 1 at FAULT leaves FAULT clear (R486). -/
theorem writeReg_winStatus_fault (b : Block) (p : Port) (run : FrameRun) (w : Word) (hw : R.WIN_STATUS.FAULT.get w = 1) :
    (b.writeReg p run 0x0B w).2.2.setPort p (fun x => { x with winFault := false }) = (b.writeReg p run 0x0B w).2.2 := by
  have ha : assigned 0x0B = true := by decide +kernel
  have hn : nvGated 0x0B = false := rfl
  simp only [Block.writeReg, ha, hn, Block.writeView, hw]
  cases p <;> simp [Block.setPort]

/-- REGISTER_WRITE of a register of its own meaning is one write item whose result the port keeps (R470, R471). -/
theorem singleWrite_eq (p : Port) (idx : Nat) (w : Word) (n : Nests) (b : Block) (hp : b.portsAnswer = true) (h : idx < 256)
    (ho : idx ∉ ownWrites) : singleWrite p idx w n b =
      (n, (portResult p ((b.settleWire.writeReg p {} idx w).1, (b.settleWire.writeReg p {} idx w).2.2)).endRefused) := by
  have hitem : writeItem p 1 idx ({}, n, b.settleWire) (0, w) = writeRegister p {} 0 idx w n b.settleWire := rfl
  have hend := endItems_one (b.settleWire.writeReg p {} idx w).2.2 p (b.settleWire.writeReg p {} idx w).2.1 0
    (b.settleWire.writeReg p {} idx w).1 (if idx = 0x0B ∧ R.WIN_STATUS.FAULT.get w = 1 then [0] else [])
    (by split <;> simp) (fun hc => by
      have hcond : idx = 0x0B ∧ R.WIN_STATUS.FAULT.get w = 1 := by by_contra hn; simp [hn] at hc
      obtain ⟨rfl, hw⟩ := hcond
      exact writeReg_winStatus_fault _ p {} w hw)
  simp only [singleWrite, hp, hitem, writeRegister_eq p {} 0 idx w n _ h ho]
  simp only [Bool.not_true, Bool.false_eq_true, if_false, List.nil_append, hend]

/-- R470: a write of an unassigned index is BAD_INDEX and writes nothing. -/
theorem writeReg_unassigned (b : Block) (p : Port) (run : FrameRun) (idx : Nat) (w : Word) (h : assigned idx = false) :
    b.writeReg p run idx w = (.badIndex, { run with next := none }, b) := by
  simp [Block.writeReg, h]

/-- A field that is a whole word takes the word. -/
theorem put_get_whole (f : RegField) (v w : Word) (hlo : f.lo = 0) (hw : f.width = 32) : f.put v (f.get w) = w := by
  apply BitVec.eq_of_getLsbD_eq
  intro i hi
  rw [put_getLsbD f v _ _ (by omega), if_pos (by omega), get_testBit, hlo, hw]
  simp [hi]

/-- SYS_SCRATCH keeps the word written to it (R486). -/
theorem writeReg_scratch (b : Block) (p : Port) (run : FrameRun) (w : Word) :
    b.writeReg p run 0x06 w = (.ok, { run with next := none }, b.setWord 0x06 w) := by
  have hf : fieldsOf 0x06 = [R.SYS_SCRATCH.SCRATCH] := by decide +kernel
  have hs : stagedReg 0x06 = false := by decide +kernel
  have hput : b.putFields 0x06 w = (.ok, b.setWord 0x06 w) := by
    have hwhole := put_get_whole R.SYS_SCRATCH.SCRATCH (b.word 0x06) w rfl rfl
    rw [Block.putFields, hf]
    show (HostResult.ok, b.setWord 0x06 (R.SYS_SCRATCH.SCRATCH.put (b.word 0x06) (R.SYS_SCRATCH.SCRATCH.get w))) = _
    rw [hwhole]
  have ha : assigned 0x06 = true := by rw [assigned, hf]; rfl
  have hplain : b.writePlain p.mid run 0x06 w = (.ok, { run with next := none }, b.setWord 0x06 w) := by
    simp [Block.writePlain, hput, hs, Block.clearedLatches, undefWrite]
  rw [← hplain, Block.writeReg, ha]
  rfl

/-! ## Read-clear (R11, R474) -/

/-- The registers whose read-clear does something of its own: SYS_PORT, RG_LOST, MB_RX and the two acknowledges. -/
def ownClears : List Nat := [0x07, 0xA7, 0xB5, 0xC4, 0xC6]

/-- R474: a read-clear of any other register reduces the stored read-clear fields that were shifted out whole. -/
theorem clearRead_fields (p : Port) (idx : Nat) (v shifted : Word) (n : Nests) (b : Block) (h : idx ∉ ownClears) :
    clearRead p idx v shifted n b = (n, (rcFields idx shifted).foldl (Block.rcField v) b) := by
  simp only [ownClears, List.mem_cons, List.not_mem_nil, or_false, not_or] at h
  unfold clearRead
  cases hfs : rcFields idx shifted with
  | nil => rfl
  | cons f fs => grind

/-- R550: a read of MB_RX that shifted its word out whole takes the word from the queue. -/
theorem clearRead_mbRx (p : Port) (v : Word) (n : Nests) (b : Block) :
    clearRead p 0xB5 v (BitVec.allOnes 32) n b = (n, b.mbReceive p) := by
  have hfs : rcFields 0xB5 (BitVec.allOnes 32) = [R.MB_RX.WORD] := by decide +kernel
  unfold clearRead
  rw [hfs]
  rfl

/-- READ_CLEAR outside undefined behaviour while the ports answer. -/
theorem readClear_result {s : State} (dt : Nat) (p : Port) (idx : Nat) (v : Word) (b : Block) (hs : s.defined)
    (hp : s.m.portsAnswer = true) (hc : clearRead p idx v (BitVec.allOnes 32) s.nests (s.m.elapse dt) = (s.nests, b)) :
    exec (.readClear dt p idx v) s = .next (s.result b) := by
  show execReadClear dt p idx v s = _
  rw [execReadClear, runNests_result _ hs, portsAnswer_elapse, if_pos hp, hc]

/-- A read-clear field that does not restart from what is held now is stored, reduced by the value read. -/
theorem rcField_eq (b : Block) (w : Word) (f : RegField) (hp : f ≠ R.AS_COUNT.PEAK) (hb : f ≠ R.VO_STATUS.BUF_PEAK) :
    b.rcField w f = b.set f (if rcBits.contains f then f.get (b.word f.idx &&& ~~~ w) else b.get f - f.get w) := by
  unfold Block.rcField
  rw [if_neg hp, if_neg hb]
  split <;> rfl

/-- A field of separate flags loses the bits read as 1. -/
theorem rcField_get_flags (b : Block) (w : Word) (f : RegField) (hp : f ≠ R.AS_COUNT.PEAK) (hb : f ≠ R.VO_STATUS.BUF_PEAK)
    (hf : fits f = true) (hc : rcBits.contains f = true) : (b.rcField w f).get f = f.get (b.word f.idx &&& ~~~ w) := by
  rw [rcField_eq b w f hp hb, if_pos hc, get_set_of_word _ _ _ hf]

/-- A counter keeps what it gained since it was read. -/
theorem rcField_get_counter (b : Block) (w : Word) (f : RegField) (hp : f ≠ R.AS_COUNT.PEAK) (hb : f ≠ R.VO_STATUS.BUF_PEAK)
    (hf : fits f = true) (hc : rcBits.contains f = false) : (b.rcField w f).get f = b.get f - f.get w := by
  have hlt : b.get f < 2 ^ f.width := get_lt f _
  rw [rcField_eq b w f hp hb, if_neg (ne_true_of_eq_false hc), get_set_self _ _ _ hf, Nat.mod_eq_of_lt (by omega)]

/-- A read-clear of one field leaves every field beside it as it was. -/
theorem rcField_get_other (b : Block) (w : Word) (f g : RegField) (hp : f ≠ R.AS_COUNT.PEAK) (hb : f ≠ R.VO_STATUS.BUF_PEAK)
    (hf : fits f = true) (h : Apart f g) : (b.rcField w f).get g = b.get g := by
  rw [rcField_eq b w f hp hb, get_set_other _ _ _ _ hf h]

/-- REGISTER_WRITE outside undefined behaviour while the ports answer. -/
theorem registerWrite_result {s : State} (dt : Nat) (p : Port) (idx : Nat) (v : Word) (hs : s.defined)
    (hp : s.m.portsAnswer = true) (hi : idx < 256) (ho : idx ∉ ownWrites) :
    exec (.registerWrite dt p idx v) s = .next (s.result (portResult p
      (((s.m.elapse dt).settleWire.writeReg p {} idx v).1, ((s.m.elapse dt).settleWire.writeReg p {} idx v).2.2)).endRefused) := by
  show execRegisterWrite dt p idx v s = _
  rw [execRegisterWrite, runNests_result _ hs, singleWrite_eq p idx v s.nests (s.m.elapse dt) hp hi ho]

/-- The registers with writes of their own are all assigned. -/
theorem assigned_of_ownWrites {idx : Nat} (h : idx ∈ ownWrites) : assigned idx = true := by
  have hall : ∀ i ∈ ownWrites, assigned i = true := by decide +kernel
  exact hall idx h

/-- Settles O21: a register write is one item whose result the port keeps, and a read-clear stores each field that it reduces. -/
theorem registerAccessCompletes : Obligations.RegisterAccessCompletes := by
  refine ⟨⟨fun dt p idx v s hs hp hi ho => registerWrite_result dt p idx v hs hp hi ho,
    fun dt p idx v s hs hp hi ha => ?unassigned, fun dt p v s hs hp => ?scratch⟩,
    ⟨fun dt p idx v s hs hp ho => readClear_result dt p idx v _ hs hp (clearRead_fields p idx v _ _ _ ho),
      fun b w f hf hpk hbk => ?fields,
      fun dt p v s hs hp => readClear_result dt p 0xB5 v _ hs hp (clearRead_mbRx p v _ _)⟩,
    fun dt p s hs hp => ?capture⟩
  case unassigned =>
    have ho : idx ∉ ownWrites := fun hm => by simp [assigned_of_ownWrites hm] at ha
    rw [registerWrite_result dt p idx v hs hp hi ho, writeReg_unassigned _ _ _ _ _ ha]
  case scratch =>
    rw [registerWrite_result dt p 0x06 v hs hp (by decide) (by decide), writeReg_scratch]
  case capture =>
    show execPtCapture dt p s = _
    rw [execPtCapture, runPort_result p _ hs hp]
    rfl
  case fields =>
    have hfit := fits_of_mem_fieldsOf hf
    exact ⟨rcField_get_counter b w f hpk hbk hfit, rcField_get_flags b w f hpk hbk hfit,
      fun g hg hne => rcField_get_other b w f g hpk hbk hfit (apart_of_ne hf hg hne.symm)⟩

end Sys2Proof.Proofs
end

section
/-! PROOFS. The lands follow the state (chapters 02, 09, 12 and 21): the gates of a channel, the gates of the part, the shutter
bridge, the columns of the rest states and the lands themselves. -/

namespace Sys2Proof.Proofs

open Sys2Proof.Machine Sys2Proof.Laws

/-! ## Gates of a channel (R382, R383, R386) -/

/-- The gates with the bank's switches held off, as in a dead time (R383). -/
def bankOff (g : Gates) : Gates := { g with gb := false, gh := false, gf := false }

/-- A drive state has GLn on in every state but RECOVERY and OFF, and each switch of the bank in its own states (R382, R407). -/
theorem driveState_gates (d : DriveState) :
    (d.gates.gl = true ↔ d ≠ .off ∧ d ≠ .recovery) ∧ (d.gates.gb = true ↔ d = .boost) ∧ (d.gates.gh = true ↔ d = .on) ∧
    (d.gates.gf = true ↔ d = .freewheel ∨ d = .slowDecay) := by
  cases d <;> decide

/-- A drive state drives at most one switch of the bank. -/
theorem driveState_gates_exclusive (d : DriveState) :
    (d.gates.gb && d.gates.gh) = false ∧ (d.gates.gb && d.gates.gf) = false ∧ (d.gates.gh && d.gates.gf) = false := by
  cases d <;> decide

/-- FREEWHEEL follows ON alone, and every other drive state is the one that was entered. -/
theorem driveNow_cases (c : ValveChannel) (now : Nat) : (c.drive = .on ∧ c.driveNow now = .freewheel) ∨ c.driveNow now = c.drive := by
  unfold ValveChannel.driveNow ValveChannel.chopped
  split
  · rename_i h
    simp only [Bool.and_eq_true, beq_iff_eq] at h
    exact .inl ⟨h.1, rfl⟩
  · exact .inr rfl

/-- FREEWHEEL follows by itself on no drive state but ON (R390, R391). -/
theorem driveNow_of_drive_ne_on {c : ValveChannel} (now : Nat) (h : c.drive ≠ .on) : c.chopped now = false ∧ c.driveNow now = c.drive := by
  have hc : c.chopped now = false := by simp [ValveChannel.chopped, h]
  exact ⟨hc, by simp [ValveChannel.driveNow, hc]⟩

/-- The gates of a channel are those of its drive state now, or those with the bank's switches held off in the dead time. -/
theorem channel_gates_cases (c : ValveChannel) (now : Nat) :
    c.gates now = (c.driveNow now).gates ∨ c.gates now = bankOff (c.driveNow now).gates := by
  unfold ValveChannel.gates ValveChannel.driveNow
  split <;> dsimp only <;> split
  · exact .inl rfl
  · exact .inr rfl
  · exact .inl rfl
  · exact .inr rfl

/-- The dead time holds no low side off. -/
theorem channel_gates_gl (c : ValveChannel) (now : Nat) :
    (c.gates now).gl = true ↔ c.drive ≠ .off ∧ c.drive ≠ .recovery := by
  have hgl : (c.gates now).gl = (c.driveNow now).gates.gl := by
    obtain h | h := channel_gates_cases c now
    · rw [h]
    · rw [h]; rfl
  rw [hgl, (driveState_gates _).1]
  obtain ⟨hon, hnow⟩ | hnow := driveNow_cases c now
  · simp [hon, hnow]
  · rw [hnow]

/-- A switch of the bank that a channel drives is one of its drive state now. -/
theorem channel_gates_le (c : ValveChannel) (now : Nat) :
    ((c.gates now).gb = true → (c.driveNow now).gates.gb = true) ∧ ((c.gates now).gh = true → (c.driveNow now).gates.gh = true) ∧
    ((c.gates now).gf = true → (c.driveNow now).gates.gf = true) := by
  obtain h | h := channel_gates_cases c now
  · rw [h]; exact ⟨id, id, id⟩
  · simp [h, bankOff]

/-- One channel drives at most one switch of its bank (R382). -/
theorem channel_gates_exclusive (c : ValveChannel) (now : Nat) :
    ((c.gates now).gb && (c.gates now).gh) = false ∧ ((c.gates now).gb && (c.gates now).gf) = false ∧
    ((c.gates now).gh && (c.gates now).gf) = false := by
  obtain h | h := channel_gates_cases c now <;> rw [h]
  · exact driveState_gates_exclusive _
  · exact ⟨rfl, rfl, rfl⟩

/-- The drive states in which a channel drives each switch of its bank. -/
theorem channel_gates_drive (c : ValveChannel) (now : Nat) :
    ((c.gates now).gb = true → c.drive = .boost) ∧ ((c.gates now).gh = true → c.driveNow now = .on) ∧
    ((c.gates now).gf = true → c.driveNow now = .freewheel ∨ c.driveNow now = .slowDecay) := by
  obtain ⟨hb, hh, hf⟩ := channel_gates_le c now
  obtain ⟨-, gb, gh, gf⟩ := driveState_gates (c.driveNow now)
  refine ⟨fun h => ?_, fun h => gh.mp (hh h), fun h => gf.mp (hf h)⟩
  have hboost := gb.mp (hb h)
  obtain ⟨-, hnow⟩ | hnow := driveNow_cases c now
  · rw [hnow] at hboost; cases hboost
  · rw [← hnow, hboost]

/-- The gates of a channel that entered a drive state but ON: the bank's switches wait for the dead time after the state before. -/
theorem enter_gates (c : ValveChannel) (t now : Nat) (d : DriveState) (hat : c.driveAt ≠ t) (hd : d ≠ .on) (hle : t ≤ now) :
    (c.enter t d).gates now =
      if deadTime c.profile.deadNs (c.driveNow t) d ≤ 10 * (now - t) then d.gates else bankOff d.gates := by
  have hchop : (c.enter t d).chopped now = false := (driveNow_of_drive_ne_on (c := c.enter t d) now hd).1
  have hcast : ((deadTime c.profile.deadNs (c.driveNow t) d : Rat) ≤ 10 * ((now : Rat) - (t : Rat))) ↔
      deadTime c.profile.deadNs (c.driveNow t) d ≤ 10 * (now - t) := by
    rw [← Nat.cast_sub hle]; exact_mod_cast Iff.rfl
  have hwas : (c.enter t d).was = c.driveNow t := by simp [ValveChannel.enter, hat]
  unfold ValveChannel.gates
  simp only [hchop, hwas, Bool.false_eq_true, if_false]
  exact if_congr hcast rfl rfl

/-- `enter_gates` gate by gate (R383). -/
theorem enter_gates_deadTime (c : ValveChannel) (t now dead : Nat) (d : DriveState) (hat : c.driveAt ≠ t) (hd : d ≠ .on) (hle : t ≤ now)
    (hdead : dead = deadTime c.profile.deadNs (c.driveNow t) d) : ((c.enter t d).gates now).gl = d.gates.gl ∧
    (10 * (now - t) < dead → ((c.enter t d).gates now).gb = false ∧ ((c.enter t d).gates now).gf = false) ∧
    (dead ≤ 10 * (now - t) → (c.enter t d).gates now = d.gates) := by
  rw [enter_gates c t now d hat hd hle, ← hdead]
  split
  · exact ⟨rfl, fun h => by omega, fun _ => rfl⟩
  · exact ⟨rfl, fun _ => ⟨rfl, rfl⟩, fun h => by omega⟩

/-- R383: DEAD between the supply and the freewheel switch, at least 100 ns between either and the boost switch. -/
theorem deadTime_values (d : Nat) : deadTime d .on .freewheel = d ∧ deadTime d .freewheel .on = d ∧ deadTime d .boost .on = max 100 d ∧
    deadTime d .on .boost = max 100 d ∧ deadTime d .boost .freewheel = max 100 d ∧ deadTime d .lowSide .boost = 0 :=
  ⟨rfl, rfl, rfl, rfl, rfl, rfl⟩

/-! ## Gates of the part (R6, R58, R64, R382, R386, R407, R424) -/

section
variable (b : Block)

/-- With the valve drive running GLn follows its channel's drive state, and the low-side check turns it on alone (R382, R386). -/
theorem glOn_iff (n : Nat) (h : b.valveGatesLive = true) :
    b.glOn n = true ↔ ((b.valve n).drive ≠ .off ∧ (b.valve n).drive ≠ .recovery) ∨ (b.valve n).checking = true := by
  rw [Block.glOn, h, Bool.true_and, Bool.or_eq_true, channel_gates_gl]

/-- A switch of a bank is on while some channel of the bank drives it. -/
theorem bankGate_iff (x : Nat) (f : Gates → Bool) (h : b.valveGatesLive = true) :
    b.bankGate x f = true ↔ ∃ i < 4, f ((b.valve (4 * x + i)).gates b.now) = true := by
  simp [Block.bankGate, h]

/-- No valve gate is on while the valve gates follow nothing. -/
theorem valveGates_off (h : b.valveGatesLive = false) (n : Nat) :
    b.glOn n = false ∧ b.gbOn n = false ∧ b.ghOn n = false ∧ b.gfOn n = false := by
  simp [Block.glOn, Block.gbOn, Block.ghOn, Block.gfOn, Block.bankGate, h]

/-- The gates follow nothing in undefined behaviour, outside RUN and without VDRV. -/
theorem gatesLive_eq_false (h : b.undef.isSome = true ∨ b.power.mode ≠ .run ∨ b.power.valid.contains .vdrv = false) :
    b.gatesLive = false := by
  rcases h with h | h | h
  · simp [Block.gatesLive, Option.isSome_iff_ne_none.mp h]
  · simp [Block.gatesLive, h]
  · rw [Block.gatesLive, h, Bool.and_false]

/-- R6, R64, R58: while the gates follow nothing every gate of the part is off. -/
theorem allGates_off (h : b.gatesLive = false) : b.bstSwitches = false ∧
    ∀ n : Nat, b.glOn n = false ∧ b.gbOn n = false ∧ b.ghOn n = false ∧ b.gfOn n = false ∧ b.lgOn n = false := by
  have hv : b.valveGatesLive = false := by simp [Block.valveGatesLive, h]
  refine ⟨by simp [Block.bstSwitches, h], fun n => ?_⟩
  obtain ⟨hgl, hgb, hgh, hgf⟩ := valveGates_off b hv n
  exact ⟨hgl, hgb, hgh, hgf, by simp [Block.lgOn, h]⟩

/-- A drive block that does not run has its gates off (R64, R424). -/
theorem stoppedDrives_off :
    (b.valves.running = false → ∀ n : Nat, b.glOn n = false ∧ b.gbOn n = false ∧ b.ghOn n = false ∧ b.gfOn n = false) ∧
    (b.lamps.running = false → ∀ n : Nat, b.lgOn n = false) ∧ (b.valves.boost.running = false → b.bstSwitches = false) :=
  ⟨fun h => valveGates_off b (by simp [Block.valveGatesLive, h]), fun h n => by simp [Block.lgOn, h],
    fun h => by simp [Block.bstSwitches, h]⟩

/-! ## The shutter bridge (R67, R287) -/

/-- The bridge is low in undefined behaviour, outside RUN, without VSHT and outside a pulse. -/
theorem shutterLands_low (h : b.undef.isSome = true ∨ b.power.mode ≠ .run ∨ b.power.valid.contains .vsht = false ∨ b.shut.pulse = none) :
    b.shutterLands = (false, false) := by
  unfold Block.shutterLands
  split
  · rfl
  · rename_i hn
    have hp : b.shut.pulse = none := by
      rcases h with h | h | h | h
      · exact absurd (by rw [h]; rfl) hn
      · exact absurd (by simp [h]) hn
      · exact absurd (by rw [h]; simp) hn
      · exact h
    rw [hp]

/-- In a pulse the land of its direction is high, DIR_INV swapping the two. -/
theorem shutterLands_pulse (p : ShutterPulse) (hu : b.undef = none) (hm : b.power.mode = .run)
    (hv : b.power.valid.contains .vsht = true) (hp : b.shut.pulse = some p) : b.shutterLands =
      (if b.flag R.CP_SHT_CTL.DIR_INV then (p.dir == .open, p.dir == .close) else (p.dir == .close, p.dir == .open)) := by
  obtain ⟨dir, width, source, startedAt⟩ := p
  rw [Block.shutterLands, hu, hm, hv, hp]
  cases dir <;> cases b.flag R.CP_SHT_CTL.DIR_INV <;> rfl

/-! ## The columns of the rest states (R56 to R58, R80) -/

/-- What each column of the rest states that a mode alone does not give says of the mode and the rails. -/
theorem column_meaning :
    (b.column = .run → b.power.mode = .idle ∨ (b.power.mode = .run ∧ b.phase ≠ 0)) ∧
    (b.column = .nap → b.power.mode = .nap ∧ ∀ r ∈ allRails, b.present r = true) ∧
    (b.column = .deep → b.power.mode = .deep ∧ ∀ r ∈ allRails, b.present r = true) := by
  unfold Block.column
  dsimp only
  split
  · simp
  split
  · simp
  cases b.power.mode with
  | off | inReset | idle => simp
  | run => by_cases h : b.phase = 0 <;> simp [h]
  | nap =>
    by_cases h : allRails.all b.present = true
    · simpa [h] using List.all_eq_true.mp h
    · simp [h]
  | deep =>
    by_cases h : allRails.all b.present = true
    · simpa [h] using List.all_eq_true.mp h
    · simp [h]

/-- FAULT_N is driven low in RUN, IDLE and NAP alone, while a fault indication is in force (R56, R713). -/
theorem faultLow_iff :
    b.faultLow = true ↔ (b.column = .run ∨ b.column = .nap) ∧ b.present .vddioA = true ∧ b.faultInForce = true := by
  simp [Block.faultLow, Block.h3Live, and_assoc]

/-- DUSK_N is high in RUN and IDLE alone. -/
theorem duskHighNow_iff : b.duskHighNow = true ↔ (b.power.mode = .run ∨ b.power.mode = .idle) ∧ b.power.duskHigh = true := by
  simp [Block.duskHighNow]

/-! ## The state of a land (R56 to R58, R61, R64, R66 to R69) -/

variable (n : Nests)

/-- No boundary cell drives a land whose type has none. -/
theorem boundaryDrive_none {s : Signal} (h : boundaryCell s = false) : b.boundaryDrive s = none := by
  simp [Block.boundaryDrive, h]

/-- A land that no boundary cell drives does what its own function says. -/
theorem land_own {s : Signal} (h : b.boundaryDrive s = none) : b.land n s = b.ownLand n s := by
  rw [Block.land, h]

/-- The cells of the gates, the bridge, the lanes and the analogue lands are observe-only (R66). -/
theorem boundaryCell_observeOnly (s : Signal) (h : landClass s ∈ [LandClass.d1, .d2, .b1, .p1, .a1, .a2]) : boundaryCell s = false := by
  revert h
  cases s <;> simp [landClass, boundaryCell, landType]

/-- A land whose rail is absent is off: a gate passively, the bridge by its resistors, every other land high-impedance. -/
theorem land_absent (s : Signal) (hb : b.boundaryDrive s = none) (ha : b.absent s = true) : b.land n s =
    { drive := if landClass s = .d1 ∨ landClass s = .d2 then .offPassive else if landClass s = .b1 then .lowBy10k else .z } := by
  rw [land_own b n hb]
  unfold Block.ownLand
  rw [if_pos ha]
  cases landClass s <;> rfl

/-- SDO of a port: driven in a frame that the ports answer, and else high-impedance (R61). -/
theorem land_sdo_drive (p : Port) (hb : b.boundaryDrive (.hpSdo p) = none) :
    (b.land n (.hpSdo p)).drive = if b.present .vddioA && b.sdoDriven p then .driven else .z := by
  rw [land_own b n hb]
  cases hp : b.present .vddioA <;> simp [Block.ownLand, Block.absent, landReference, landClass, hp]

/-- The ports answer, and the frame in progress on the port is answered (R61). -/
theorem sdoDriven_iff (p : Port) : b.sdoDriven p = true ↔ b.portsAnswer = true ∧ ∃ f, (b.port p).cs = some f ∧ f.answered = true := by
  cases h : (b.port p).cs <;> simp [Block.sdoDriven, h]

/-- A lane of the CSI-2 output rests at LP-11 (R69). -/
theorem land_lane (i : Nat) (x : Bool) (h : b.present .vddphy = true) : (b.land n (.csiD i x)).drive = .lp11 := by
  rw [land_own b n (boundaryDrive_none b rfl)]
  simp [Block.ownLand, Block.absent, landReference, landClass, h, Block.laneDrive]

/-- Valve gate lands with VDRV present are held off actively while the drive does not run (R64). -/
theorem land_valveGates_offActive (i : Nat) (hp : b.present .vdrv = true) (hl : b.valveGatesLive = false) :
    (b.land n (.gl i)).drive = .offActive ∧ (b.land n (.gb i)).drive = .offActive ∧ (b.land n (.gh i)).drive = .offActive ∧
    (b.land n (.gf i)).drive = .offActive := by
  refine ⟨?_, ?_, ?_, ?_⟩ <;> rw [land_own b n (boundaryDrive_none b rfl)] <;>
    simp [Block.ownLand, Block.absent, landReference, landClass, hp, Block.gateDrive, gateState, hl]

/-- A chip select of a host port is used in RUN, and watched in NAP and DEEP. -/
theorem land_select_use (p : Port) (hp : b.present .vddioA = true) : (b.land n (.hpCs p)).use =
    (if b.column = .run then .input else if b.column = .nap ∨ b.column = .deep then .watched else .none) := by
  rw [land_own b n (boundaryDrive_none b rfl)]
  simp [Block.ownLand, Block.absent, landReference, landClass, hp]

end

/-- Settles O46, clause by clause from the rules of the gates, the bridge, the rest columns and the lands. -/
theorem landsFollowState : Obligations.LandsFollowState := by
  refine ⟨⟨fun b n => glOn_iff b n, fun d => ?states, fun c now => ?channel, fun c t now dead d => enter_gates_deadTime c t now dead d,
    deadTime_values, fun b x h => ⟨bankGate_iff b x Gates.gb h, bankGate_iff b x Gates.gh h, bankGate_iff b x Gates.gf h⟩,
    fun b h => allGates_off b (gatesLive_eq_false b h), stoppedDrives_off, shutterLands_low, shutterLands_pulse⟩,
    faultLow_iff, duskHighNow_iff, column_meaning, fun b s h => boundaryDrive_none b (boundaryCell_observeOnly s h),
    land_absent, fun b n p hb => ?sdo, land_lane, land_valveGates_offActive, land_select_use⟩
  case states =>
    obtain ⟨-, hb, hh, hf⟩ := driveState_gates d
    obtain ⟨hbh, hbf, hhf⟩ := driveState_gates_exclusive d
    exact ⟨hbh, hbf, hhf, hb, hh, hf⟩
  case channel =>
    obtain ⟨hbh, hbf, hhf⟩ := channel_gates_exclusive c now
    exact ⟨hbh, hbf, hhf, channel_gates_drive c now⟩
  case sdo =>
    rw [land_sdo_drive b n p hb, ← sdoDriven_iff, ← Bool.and_eq_true]
    cases b.present .vddioA && b.sdoDriven p <;> simp

end Sys2Proof.Proofs
end

section
/-! PROOFS. The queue of commands: a step takes its front, and no meaning touches it (R38, log entry 2). -/

namespace Sys2Proof.Proofs

open Sys2Proof.Machine Sys2Proof.Laws

/-- Whatever its shape, a meaning that answers a next state leaves the queue as it was. -/
theorem shaped_next_pending {s t : State} {o : Host.Outcome State Fault Refusal} (ho : Shaped s o) (ht : o = .next t) :
    t.pending = s.pending := by
  cases ho with
  | plain dt f =>
    obtain ⟨-, hq, -, -⟩ := run_next f ht
    exact hq
  | nests dt f =>
    obtain ⟨-, hq, -, -⟩ := runNests_next f ht
    exact hq
  | powerOn | pin | system => cases ht; rfl

/-- Settles O1: a step is the meaning of the front command, and every shape of a meaning keeps the queue. -/
theorem stepRunsFrontCommand : Obligations.StepRunsFrontCommand :=
  ⟨⟨fun c rest _ => step_cons c rest rfl, fun _ => step_nil⟩, fun c s _ => shaped_next_pending (exec_shaped c s)⟩

end Sys2Proof.Proofs
end

section
/-! PROOFS. Messages, doorbells and acknowledges of the interrupt controller (chapters 01, 16 and 17). -/

namespace Sys2Proof.Proofs

open Sys2Proof.Machine Sys2Proof.Laws

/-! ## Messages (R34, R566, R567) -/

/-- Replacing the element at an index by a function of it, where the element is known. -/
theorem updAt_of_getElem? {α : Type} {n : Nat} {v : Vector α n} {i : Nat} {x : α} (f : α → α) (h : v[i]? = some x) :
    updAt v i f = v.setIfInBounds i (f x) := by
  obtain ⟨hi, rfl⟩ := Vector.getElem?_eq_some_iff.mp h
  simp [updAt, Vector.setIfInBounds, Vector.set, Array.setIfInBounds, hi]

section
variable {b : Block} {src : Nat}

/-- An accepted message sets the pending bit of its source, or counts when it was set (R566, R567). -/
theorem message_accepted {x : IrqSource} (h0 : 0 < src) (hphase : b.phase ≠ 0) (hx : b.irq[src]? = some x) :
    b.message src = if x.pending then b.inc R.IC_STAT.COALESCED
      else { b with irq := b.irq.setIfInBounds src { x with pending := true } } := by
  have hacc : ¬ (src = 0 ∨ b.phase = 0) := by omega
  rw [Block.message, hx]
  simp only [hacc, if_false, updAt_of_getElem? _ hx]

/-- Number 0 and a message before the end of D0 are not accepted (R566). -/
theorem message_refused (h : src = 0 ∨ b.phase = 0) : b.message src = b := by
  unfold Block.message
  split
  · rfl
  · rw [if_pos h]

end

/-- A window write to the interrupt message address sends the messages 0xE0 to 0xEF and no others (R34). -/
theorem windowWrite_interrupt (b : Block) (mid : Nat) (run : FrameRun) (w : Word) : b.windowWrite mid run 0x00C00000 w =
    if 0xE0 ≤ w.toNat ∧ w.toNat ≤ 0xEF then (.ok, { run with next := none }, b.message w.toNat)
    else (.windowFault, { run with next := none }, b) := by
  have hr : regionOf 0x00C00000 = .interrupt := by decide +kernel
  rw [Block.windowWrite, hr]

/-- SOFTWARE_INTERRUPT of a port that answers, with the result and the block of its window write. -/
theorem softwareInterrupt_result {s : State} (dt : Nat) (p : Port) (v : Word) (hs : s.defined) (hp : s.m.portsAnswer = true) :
    exec (.softwareInterrupt dt p v) s =
      if 0xE0 ≤ v.toNat ∧ v.toNat ≤ 0xEF then .next (s.portResult p .ok ((s.m.elapse dt).message v.toNat))
      else .next (s.portResult p .windowFault
        ((s.m.elapse dt).setPort p (fun x => { x with winFault := true, winFaultAddr := 0x00C00000 }))) := by
  show execSoftwareInterrupt dt p v s = _
  rw [execSoftwareInterrupt, runPort_result p _ hs hp, windowWrite_interrupt]
  split <;> rfl

/-! ## Doorbells (R542, R543) -/

/-- SEQ's mask has the bits 0 to 26 (R542). -/
theorem bitOf_seqMask {i : Nat} (h : i < 32) : bitOf seqMask i = decide (i < 27) := by
  have hall : ∀ k < 32, bitOf seqMask k = decide (k < 27) := by decide
  exact hall i h

/-- SEQ's doorbell sends the messages of the bits 0 to 26 (R543). -/
theorem doorbell_seq (b : Block) {i : Nat} (h : i < 32) : b.doorbell 2 i =
    if i < 27 then ({ b with dbSeq := b.dbSeq ||| BitVec.ofNat 32 (2 ^ i) } : Block).message (0xC0 + i)
    else { b with dbSeq := b.dbSeq ||| BitVec.ofNat 32 (2 ^ i) } := by
  simp only [Block.doorbell, bitOf_seqMask h, decide_eq_true_eq]

/-! ## Acknowledges (R62, R573) -/

/-- A port's stack put back where it stands changes nothing. -/
theorem nests_setPort_port (n : Nests) (p : Port) : n.setPort p (n.port p) = n := by
  cases p <;> rfl

section
variable (p : Port) {src prio : Nat} {n : Nests} {b : Block} {x : IrqSource}

/-- An acknowledge of a pending source above the running priority takes it (R573). -/
theorem ackPort_taken (hx : b.irq[src]? = some x) (hpend : x.pending = true) (hrun : (n.port p).running < prio) :
    ackPort p src prio n b = (n.setPort p { running := prio, stack := (n.port p).running :: (n.port p).stack },
      { b with irq := b.irq.setIfInBounds src { x with pending := false } }) := by
  simp only [ackPort, Block.acknowledge, hx, hpend, hrun, decide_true, Bool.and_self, if_true, Block.clearPending,
    updAt_of_getElem? _ hx]

/-- Any other acknowledge does nothing (R573). -/
theorem ackPort_ignored (hx : b.irq[src]? = some x) (h : x.pending = false ∨ prio ≤ (n.port p).running) :
    ackPort p src prio n b = (n, b) := by
  have hno : (x.pending && decide ((n.port p).running < prio)) = false := by
    rcases h with h | h
    · rw [h, Bool.false_and]
    · rw [decide_eq_false (by omega), Bool.and_false]
  simp only [ackPort, Block.acknowledge, hx, hno, Bool.false_eq_true, if_false, nests_setPort_port]

end

section
variable {s : State} (hs : s.defined)
include hs

/-- IC_ACK at a port that answers. -/
theorem icAck_result (dt : Nat) (p : Port) (src prio : Nat) (hp : s.m.portsAnswer = true) : exec (.icAck dt p src prio) s =
    .next ({ s with nests := (ackPort p src prio s.nests (s.m.elapse dt)).1 }.result (ackPort p src prio s.nests (s.m.elapse dt)).2) := by
  show execIcAck dt p src prio s = _
  rw [execIcAck, runNests_result _ hs, portsAnswer_elapse, if_pos hp]

/-- A command of the stacks that acts only while the ports answer does nothing while they do not (R62). -/
theorem runNests_unanswered (dt : Nat) (f : Nests → Block → Nests × Block) (hp : s.m.portsAnswer = false) :
    s.runNests dt (fun n b => if b.portsAnswer then f n b else (n, b)) = .next (s.result (s.m.elapse dt)) := by
  rw [runNests_result _ hs, portsAnswer_elapse, if_neg (ne_true_of_eq_false hp)]

end

/-- Settles O24: messages and doorbells by what a message does to its source, acknowledges by what they do to the port's stack. -/
theorem messagesAndAcknowledges : Obligations.MessagesAndAcknowledges := by
  refine ⟨⟨fun dt src x s hs h0 hphase hx => ?accepted, fun dt src s hs _ href => ?refused,
      fun dt p v s hs hp hlo hhi => ?sent, fun dt p v s hs hp hout => ?faulted⟩,
    fun b i hi => ⟨rfl, rfl, doorbell_seq b hi⟩,
    fun dt p src prio x s hs hp hx => ⟨fun hpend hrun => ?taken, fun hno => ?ignored⟩,
    fun dt src prio p s hs hp c hc => ?unanswered⟩
  case accepted =>
    show execInterruptMessage dt src s = _
    rw [execInterruptMessage, run_result _ hs, message_accepted (b := s.m.elapse dt) h0 hphase hx]
    rfl
  case refused =>
    show execInterruptMessage dt src s = _
    rw [execInterruptMessage, run_result _ hs, message_refused (b := s.m.elapse dt) href]
  case sent => rw [softwareInterrupt_result dt p v hs hp, if_pos ⟨hlo, hhi⟩]
  case faulted => rw [softwareInterrupt_result dt p v hs hp, if_neg (by omega)]
  case taken =>
    rw [icAck_result hs dt p src prio hp, ackPort_taken (b := s.m.elapse dt) p hx hpend hrun]
    rfl
  case ignored => rw [icAck_result hs dt p src prio hp, ackPort_ignored (b := s.m.elapse dt) p hx hno]
  case unanswered =>
    simp only [List.mem_cons, List.not_mem_nil, or_false] at hc
    rcases hc with rfl | rfl
    · exact runNests_unanswered hs dt (ackPort p src prio) hp
    · exact runNests_unanswered hs dt (eoiPort p) hp

end Sys2Proof.Proofs
end

section
/-! PROOFS. The test access port: what selecting an instruction does (R56, R66, R718, R720). -/

namespace Sys2Proof.Proofs

open Sys2Proof.Machine Sys2Proof.Laws

/-- The block once the port has selected an instruction: the port holds it, with its shift state, and the cells of one that selects
the boundary register (log entry 161). -/
def tapSelected (i : TapInstr) (sh : Bool) (cells : List (Signal × Option Bool)) (b : Block) : Block :=
  { b with tap := { instr := i, shifting := sh, cells := if i = .sample ∨ i = .extest then cells else b.tap.cells } }

/-- BYPASS, IDCODE and SAMPLE are the instructions that R720 allows in RUN and IDLE. -/
theorem tapSafe_iff (i : TapInstr) : tapSafe i = true ↔ i ∈ [TapInstr.bypass, .idcode, .sample] := by
  cases i <;> simp [tapSafe]

section
variable (i : TapInstr) (sh : Bool) (cells : List (Signal × Option Bool)) {b : Block}

/-- A port that is not alive takes no instruction (R56). -/
theorem stepTap_dead (h : b.tapAlive = false) : b.stepTap i sh cells = b := by
  simp [Block.stepTap, h]

/-- A port that is alive selects the instruction, and undefined behaviour follows one that R720 forbids in RUN and IDLE. -/
theorem stepTap_alive (h : b.tapAlive = true) : b.stepTap i sh cells =
    if i ∉ [TapInstr.bypass, .idcode, .sample] ∧ b.inRun = true then (tapSelected i sh cells b).enterUndef .tap
    else tapSelected i sh cells b := by
  have hrun : (tapSelected i sh cells b).inRun = b.inRun := rfl
  simp only [← tapSafe_iff, ← hrun]
  simp [Block.stepTap, tapSelected, h]

end

/-- TAP_INSTRUCTION is the port's step once the time has passed. -/
theorem tapInstruction_result {s : State} (dt : Nat) (i : TapInstr) (sh : Bool) (cells : List (Signal × Option Bool)) (hs : s.defined) :
    exec (.tapInstruction dt i sh cells) s = .next (s.result ((s.m.elapse dt).stepTap i sh cells)) :=
  run_result (Block.stepTap i sh cells) hs

/-- The cells of the gates, the shutter bridge and the CSI-2 lanes are observe-only, whatever instruction the port holds (R66). -/
theorem boundaryDrive_observeOnly (b : Block) (n : Nat) (k : Bool) :
    ∀ x ∈ [Signal.gl n, .gb n, .gh n, .gf n, .lg n, .bstGate, .shA, .shB, .csiCk k, .csiD n k], b.boundaryDrive x = none := by
  have hclass : ∀ x ∈ [Signal.gl n, .gb n, .gh n, .gf n, .lg n, .bstGate, .shA, .shB, .csiCk k, .csiD n k],
      landClass x ∈ [LandClass.d1, .d2, .b1, .p1, .a1, .a2] := by simp [landClass]
  exact fun x hx => boundaryDrive_none b (boundaryCell_observeOnly x (hclass x hx))

/-- Settles O29: the clauses on commands by what the port's step does alive and dead, the last by the observe-only cells. -/
theorem tapInstructions : Obligations.TapInstructions := by
  refine ⟨fun dt i sh cells s hs halive hok => ?allowed, fun dt i sh cells s hs hdead => ?dead,
    fun dt i sh cells s hs halive hrun hbad => ?undefined, boundaryDrive_observeOnly⟩
  case allowed =>
    have hno : ¬ (i ∉ [TapInstr.bypass, .idcode, .sample] ∧ (s.m.elapse dt).inRun = true) := fun ⟨hbad, hrun⟩ =>
      hok.elim hbad (ne_true_of_eq_false · hrun)
    rw [tapInstruction_result dt i sh cells hs, stepTap_alive (b := s.m.elapse dt) i sh cells halive, if_neg hno]
    rfl
  case dead =>
    rw [tapInstruction_result dt i sh cells hs, stepTap_dead (b := s.m.elapse dt) i sh cells hdead]
  case undefined =>
    rw [tapInstruction_result dt i sh cells hs, stepTap_alive (b := s.m.elapse dt) i sh cells halive, if_pos ⟨hbad, hrun⟩]
    exact ⟨_, rfl, rfl, heldOff_offWhileUndef _ rfl, rfl⟩

end Sys2Proof.Proofs
end

section
/-! PROOFS. What the mailbox traffic of the sequencer leaves alone: taking commands, replies and reports (chapters 16, 17 and 22). -/

namespace Sys2Proof.Proofs

open Sys2Proof.Machine Sys2Proof.Laws

/-- What reports and the sequencer's mailbox traffic may change: what a report may, the mailboxes, and the sequencer's place among
its channels with the words it discards and the replies that wait (R33, R554, R558, R561). -/
structure Exchanged (a b : Block) : Prop where
  rest : b = { a with regs := b.regs, mem := b.mem, rings := b.rings, dbA := b.dbA, dbB := b.dbB, dbSeq := b.dbSeq, irq := b.irq,
                      nv := { a.nv with log := b.nv.log, nextSeq := b.nv.nextSeq }, mail := b.mail,
                      seq := { a.seq with visited := b.seq.visited, discard := b.seq.discard, waiting := b.seq.waiting } }
  words : ∀ i, i ≠ 0xCB → b.word i = a.word i

namespace Exchanged

variable {a b c : Block}

theorem refl (a : Block) : Exchanged a a := ⟨rfl, fun _ _ => rfl⟩

theorem trans (h : Exchanged a b) (k : Exchanged b c) : Exchanged a c where
  rest := by rw [k.rest, h.rest]
  words i hi := by rw [k.words i hi, h.words i hi]

theorem of_reported (h : a.Reported b) : Exchanged a b where
  rest := by rw [h.rest]
  words := h.words

theorem foldl {α : Type} (f : Block → α → Block) (h : ∀ (b : Block) (x : α), Exchanged b (f b x)) (l : List α) (b : Block) :
    Exchanged b (l.foldl f b) := by
  induction l generalizing b with
  | nil => exact refl b
  | cons x xs ih => exact (h b x).trans (ih (f b x))

/-! ### What stays -/

variable (h : Exchanged a b)
include h

theorem now : b.now = a.now := by rw [h.rest]
theorem power : b.power = a.power := by rw [h.rest]
theorem night : b.night = a.night := by rw [h.rest]
theorem txn : b.txn = a.txn := by rw [h.rest]
theorem nv_op : b.nv.op = a.nv.op := by rw [h.rest]
theorem routine : b.seq.routine = a.seq.routine := by rw [h.rest]
theorem held : b.seq.held = a.seq.held := by rw [h.rest]

/-- A field of any register but IC_STAT. -/
theorem get {f : RegField} (hf : f.idx ≠ 0xCB) : b.get f = a.get f := by
  unfold Block.get; rw [h.words _ hf]

/-- A flag of any register but IC_STAT. -/
theorem flag {f : RegField} (hf : f.idx ≠ 0xCB) : b.flag f = a.flag f := by
  unfold Block.flag; rw [h.get hf]

theorem dawned : b.dawned = a.dawned := h.flag (by decide)

theorem mayStart : b.mayStart = a.mayStart := by
  unfold Block.mayStart Block.seqFree; rw [h.routine, h.held, h.dawned]

theorem overlayArmed : b.overlayArmed = a.overlayArmed := by
  unfold Block.overlayArmed; rw [h.txn, h.get (by decide)]

theorem sleepRefused (target : PowerMode) : b.sleepRefused target = a.sleepRefused target := by
  unfold Block.sleepRefused; rw [h.dawned, h.txn, h.words 0x12 (by decide)]

end Exchanged

section
variable (b : Block)

/-! ### Mailboxes -/

theorem doorbell_exchanged (mid i : Nat) : Exchanged b (b.doorbell mid i) := .of_reported (doorbell_reported b mid i)

theorem setToward_exchanged (c mid : Nat) (ws : List Word) : Exchanged b (b.setToward c mid ws) := by
  unfold Block.setToward
  split <;> exact ⟨rfl, fun _ _ => rfl⟩

theorem enqueue_exchanged (c mid : Nat) (ws : List Word) : Exchanged b (b.enqueue c mid ws) := by
  unfold Block.enqueue
  simp only []
  split
  · exact (setToward_exchanged b c mid _).trans (doorbell_exchanged _ _ _)
  · exact setToward_exchanged b c mid _

theorem spaceBell_exchanged (sender was : Nat) : Exchanged b (b.spaceBell sender was) := by
  unfold Block.spaceBell
  split
  · exact doorbell_exchanged _ _ _
  · exact .refl b

theorem dequeue_exchanged (c mid n : Nat) : Exchanged b (b.dequeue c mid n) := by
  have h := setToward_exchanged b c mid ((b.toward c mid).drop n)
  unfold Block.dequeue
  simp only []
  split
  · split
    · exact h.trans (spaceBell_exchanged _ _ _)
    · exact h
  · exact h

/-! ### Replies -/

theorem enterReply_exchanged (c : Nat) : Exchanged b (b.enterReply c) := by
  unfold Block.enterReply
  split
  · split
    · have h := enqueue_exchanged b c ‹Nat› ‹List Word›
      exact ⟨by rw [h.rest], h.words⟩
    · exact .refl b
  · exact ⟨rfl, fun _ _ => rfl⟩
  · exact .refl b

theorem reply_exchanged (dst : ReplyTo) (status : Nat) (ws : List Nat) : Exchanged b (b.reply dst status ws) := by
  have h (l : List (Nat × List Word)) : Exchanged b { b with seq := { b.seq with waiting := l } } := ⟨rfl, fun _ _ => rfl⟩
  unfold Block.reply
  simp only []
  split
  · exact (h _).trans (enterReply_exchanged _ _)
  · exact h _

theorem replyOpt_exchanged (dst : Option ReplyTo) (status : Nat) (ws : List Nat) : Exchanged b (b.replyOpt dst status ws) := by
  cases dst with
  | none => exact .refl b
  | some r => exact reply_exchanged b r status ws

/-! ### Commands -/

theorem visiting_exchanged (ch : Nat) : Exchanged b (b.visiting ch) := ⟨rfl, fun _ _ => rfl⟩

theorem settleDiscard_exchanged (c : Nat) : Exchanged b (b.settleDiscard c) := by
  unfold Block.settleDiscard
  simp only []
  split
  · exact .refl b
  · exact (dequeue_exchanged _ _ _ _).trans ⟨rfl, fun _ _ => rfl⟩

theorem seqTake_exchanged (src : Nat) : Exchanged b (b.seqTake src) := by
  have h : Exchanged b (b.clearPending src) := ⟨rfl, fun _ _ => rfl⟩
  unfold Block.seqTake
  simp only []
  split
  · exact h.trans ⟨rfl, fun _ _ => rfl⟩
  · exact h.trans ⟨rfl, fun i hi => set_word_other _ R.IC_STAT.SEQ_DISCARD _ rfl hi.symm⟩

theorem standingAt_exchanged (ch : Nat) : Exchanged b (b.standingAt ch) :=
  (visiting_exchanged b ch).trans (settleDiscard_exchanged _ ch)

theorem takeCommand_exchanged (ch : Nat) (args : List Word) : Exchanged b (b.takeCommand ch args) :=
  (Exchanged.foldl Block.seqTake seqTake_exchanged _ b).trans (dequeue_exchanged _ ch 2 _)

end

end Sys2Proof.Proofs
end

section
/-! PROOFS. Commands of the sequencer that start a routine, and SLEEP (chapters 03, 15, 16 and 19). -/

namespace Sys2Proof.Proofs

open Sys2Proof.Machine Sys2Proof.Laws

/-! ## A command at the front of the channel visited (R554, R557) -/

section
variable {b t : Block} {ch op : Nat} {dst : ReplyTo} {args : List Nat}

/-- Taking a command leaves everything but the mailbox traffic. -/
theorem commandAt_exchanged (h : b.commandAt ch op dst args t) : Exchanged b t := by
  obtain ⟨-, w, ws, -, -, -, rfl⟩ := h
  exact (standingAt_exchanged b ch).trans (takeCommand_exchanged _ ch ws)

/-- A command that starts no routine runs. -/
theorem visit_plainCommand (h : b.commandAt ch op dst args t) (f : CmdBody) :
    Block.visit ch (fun x => x.plainCommand ch op f) b = f dst args t := by
  obtain ⟨hvisit, w, ws, hgood, rfl, rfl, rfl⟩ := h
  unfold Block.standingAt at hgood ⊢
  simp only [Block.visit, Block.plainCommand, hvisit, if_true, hgood]

/-- A routine command runs when a routine may start. -/
theorem visit_routineCommand (h : b.commandAt ch op dst args t) (hmay : b.mayStart = true) (f : CmdBody) :
    Block.visit ch (fun x => x.routineCommand ch op f) b = f dst args t := by
  have hstart : (b.standingAt ch).mayStart = true := (standingAt_exchanged b ch).mayStart.trans hmay
  obtain ⟨hvisit, w, ws, hgood, rfl, rfl, rfl⟩ := h
  unfold Block.standingAt at hgood hstart ⊢
  simp only [Block.visit, Block.routineCommand, hvisit, if_true, hgood, hstart]

theorem mayStart_routine (hmay : b.mayStart = true) : b.seq.routine = none := by
  simp only [Block.mayStart, Block.seqFree, Bool.and_eq_true] at hmay
  exact Option.isNone_iff_eq_none.mp hmay.1.1

theorem mayStart_dawned (hmay : b.mayStart = true) : b.dawned = true := by
  simp only [Block.mayStart, Bool.and_eq_true] at hmay
  exact hmay.2

/-- APPLY_OVERLAY or COMMIT_ARMED runs like any routine command while no Midnight cycle runs. -/
theorem visit_overlayCommand (h : b.commandAt ch op dst args t) (hmay : b.mayStart = true) (f : CmdBody) :
    Block.visit ch (fun x => x.overlayCommand ch op f) b = f dst args t := by
  have hnight : (b.visiting ch).seq.routine ≠ some .midnight := by
    rw [(visiting_exchanged b ch).routine, mayStart_routine hmay]; simp
  rw [← visit_routineCommand h hmay f]
  simp only [Block.visit, Block.overlayCommand, hnight, if_false]

/-- SLEEP is a routine command from D6 on. -/
theorem visit_sleepCommand (h : b.commandAt ch 0x40 dst args t) (hmay : b.mayStart = true) (f : CmdBody) :
    Block.visit ch (fun x => x.sleepCommand ch f) b = f dst args t := by
  have hdawn : (b.visiting ch).dawned = true := (visiting_exchanged b ch).dawned.trans (mayStart_dawned hmay)
  rw [← visit_routineCommand h hmay f]
  simp only [Block.visit, Block.sleepCommand, hdawn, if_true]

/-- SLEEP before D6 is judged at once (R99). -/
theorem visit_sleepCommand_early (h : b.commandAt ch 0x40 dst args t) (hdawn : b.dawned = false) (f : CmdBody) :
    Block.visit ch (fun x => x.sleepCommand ch f) b = f dst args t := by
  have hno : (b.visiting ch).dawned = false := (visiting_exchanged b ch).dawned.trans hdawn
  rw [← visit_plainCommand h f]
  simp only [Block.visit, Block.sleepCommand, hno, Bool.false_eq_true, if_false]

end

/-! ## What the commands do (R559) -/

section
variable (t : Block) (dst : ReplyTo)

/-- An overlay id in range, or the one that asks for the base, is taken. -/
theorem overlayId_taken {id : Nat} (h : id < 64 ∨ id = 255) : id % 256 = id ∧ (badOverlay id && id != 0xFF) = false := by
  refine ⟨by omega, ?_⟩
  rcases h with h | rfl
  · simp [badOverlay, show ¬ 63 < id by omega]
  · rfl

/-- Any other id is not. -/
theorem overlayId_refused {id : Nat} (hlo : 64 ≤ id) (hhi : id < 255) : id % 256 = id ∧ (badOverlay id && id != 0xFF) = true := by
  refine ⟨by omega, ?_⟩
  simp [badOverlay, show 63 < id by omega, show id ≠ 255 by omega]

theorem runApply_taken {id : Nat} (tick : Nat) (h : id < 64 ∨ id = 255) : runApply dst [id, tick] t =
    ((t.startRoutine .overlay 1 (some dst)).setOv (fun x => { x with
      want := (if id = 255 then 0x7F else id), stop := false, tick := commitTick tick, got := [] })).reply dst 1 [] := by
  obtain ⟨hmod, hok⟩ := overlayId_taken h
  simp [runApply, hmod, hok, Block.startApply, Block.replyOpt]

theorem runArm_taken {id : Nat} (h : id < 64 ∨ id = 255) : runArm dst [id] t =
    (t.startRoutine .overlay 1 (some dst)).setOv (fun x => { x with
      want := (if id = 255 then 0x7F else id), stop := true, tick := none, got := [] }) := by
  obtain ⟨hmod, hok⟩ := overlayId_taken h
  simp [runArm, hmod, hok, Block.startApply]

theorem runApply_refused {id : Nat} (tick : Nat) (hlo : 64 ≤ id) (hhi : id < 255) : runApply dst [id, tick] t = t.reply dst 3 [] := by
  obtain ⟨hmod, hbad⟩ := overlayId_refused hlo hhi
  simp [runApply, hmod, hbad]

theorem runArm_refused {id : Nat} (hlo : 64 ≤ id) (hhi : id < 255) : runArm dst [id] t = t.reply dst 3 [] := by
  obtain ⟨hmod, hbad⟩ := overlayId_refused hlo hhi
  simp [runArm, hmod, hbad]

theorem runCommitArmed_eq {tick : Nat} (h : t.seq.routine = none) : runCommitArmed dst [tick] t =
    if t.overlayArmed then ((t.startRoutine .overlay 5 (some dst)).setOv (fun x => { x with tick := commitTick tick })).reply dst 1 []
    else t.reply dst 4 [] := by
  simp [runCommitArmed, Block.startCommitArmed, Block.replyOpt, h]

/-- A flush starts its segment at once while the store is free (R638). -/
theorem startFlush_free (cause : Nat) (h : t.nv.op = none) : t.startFlush cause (some dst) =
    ((t.setNv (fun x => { x with flushCause := cause })).startRoutine .flush 0 (some dst)).startSegment cause true := by
  have hdisown : (t.setNv (fun x => { x with flushCause := cause })).disownFlush = t.setNv (fun x => { x with flushCause := cause }) := by
    simp only [Block.disownFlush, Block.setNv, h, Option.map_none]
  rw [Block.startFlush, hdisown, Block.flushStart, if_pos ⟨rfl, rfl, by simp [Block.nvBusy, Block.startRoutine, h]⟩]
  rfl

/-- It waits in F0 while the store is busy (R638). -/
theorem startFlush_busy (cause : Nat) {op : NvOp} (h : t.nv.op = some op) : t.startFlush cause (some dst) =
    (t.setNv (fun x => { x with flushCause := cause, op := some { op with flush := false } })).startRoutine .flush 0 (some dst) := by
  have hdisown : (t.setNv (fun x => { x with flushCause := cause })).disownFlush =
      t.setNv (fun x => { x with flushCause := cause, op := some { op with flush := false } }) := by
    simp only [Block.disownFlush, Block.setNv, h, Option.map_some]
  rw [Block.startFlush, hdisown, Block.flushStart, if_neg (by simp [Block.nvBusy, Block.startRoutine])]

/-! ### SLEEP (R98 to R100, R108) -/

/-- SLEEP is refused exactly before D6, with a transaction open, or without a wake source for NAP and DEEP (R99). -/
theorem sleepRefused_iff (target : PowerMode) : t.sleepRefused target = true ↔
    t.dawned = false ∨ t.txn.owner.isSome = true ∨ (target ≠ .idle ∧ (t.word 0x12).toNat % 64 = 0) := by
  simp [Block.sleepRefused, or_assoc]

theorem sleepTarget_ne_run {code : Nat} (h : code ∈ [1, 2, 3]) : code % 4 = code ∧ sleepTarget code ≠ .run := by
  simp only [List.mem_cons, List.not_mem_nil, or_false] at h
  rcases h with rfl | rfl | rfl <;> decide

theorem runSleep_refused {code : Nat} (hcode : code ∈ [1, 2, 3]) (h : t.sleepRefused (sleepTarget code) = true) :
    runSleep dst [code] t = t.reply dst 4 [] := by
  obtain ⟨hmod, hrun⟩ := sleepTarget_ne_run hcode
  simp [runSleep, Block.stepSleep, Block.replyOpt, hmod, hrun, h]

/-- A SLEEP accepted is answered and sleep entry begins, no wake source having signalled. -/
theorem runSleep_accepted {code : Nat} (hcode : code ∈ [1, 2, 3]) (h : t.sleepRefused (sleepTarget code) = false)
    (hsignal : t.power.signal = none) : runSleep dst [code] t =
      ((((t.reply dst 0 []).setPower (fun x => { x with
          target := sleepTarget code, wakeSrc := 0, wakeEn := (t.word 0x12).toNat, flushStarted := false })).setEnc
        (fun e => { e with moved := 0 })).setPhase 9).startRoutine .sleepEntry 1 none := by
  obtain ⟨hmod, hrun⟩ := sleepTarget_ne_run hcode
  have hreply := reply_exchanged t dst 0 []
  have hquiet : (t.reply dst 0 []).power.signal = none := by rw [hreply.power]; exact hsignal
  simp [runSleep, Block.stepSleep, Block.replyOpt, hmod, hrun, h, Block.sleepAccept, Block.wakeNow, hquiet, hreply.words 0x12 (by decide)]

/-- SLEEP to RUN wakes the part from IDLE. -/
theorem runSleep_run : runSleep dst [0] t = (if t.power.mode = .idle then t.wakeIdle 0 else t).reply dst 0 [] := rfl

end

/-- Settles O15: every clause is the command's body on the block that took the command from its queue. -/
theorem routineCommandsStart : Obligations.RoutineCommandsStart := by
  refine ⟨⟨fun dt ch id tick dst t s hs hcmd hmay hid => ?apply, fun dt ch id dst t s hs hcmd hmay hid => ?arm,
      fun dt ch id tick dst t s hs hmay hlo hhi => ⟨fun hcmd => ?badApply, fun hcmd => ?badArm⟩,
      fun dt ch tick dst t s hs hcmd hmay => ?commit, fun dt ch dst args t s hs hcmd hmay => ?night,
      fun dt ch dst args t s hs hmay c hc hcmd => ?flush⟩,
    fun dt ch code dst t s hs hcmd hmay hcode => ⟨fun href => ?refused, fun hok hsignal => ?accepted⟩,
    fun dt ch dst t s hs hcmd hmay => ?toRun, fun dt ch code dst t s hs hcmd hdawn hcode => ?early, sleepRefused_iff⟩
  case apply => exact (run_result _ hs).trans (by rw [visit_overlayCommand hcmd hmay, runApply_taken t dst tick hid]; rfl)
  case arm => exact (run_result _ hs).trans (by rw [visit_routineCommand hcmd hmay, runArm_taken t dst hid])
  case badApply => exact (run_result _ hs).trans (by rw [visit_overlayCommand hcmd hmay, runApply_refused t dst tick hlo hhi])
  case badArm => exact (run_result _ hs).trans (by rw [visit_routineCommand hcmd hmay, runArm_refused t dst hlo hhi])
  case commit =>
    have hx := commandAt_exchanged hcmd
    have hroutine : t.seq.routine = none := hx.routine.trans (mayStart_routine hmay)
    have harmed : t.overlayArmed = s.m.overlayArmed := hx.overlayArmed
    exact (run_result _ hs).trans (by rw [visit_overlayCommand hcmd hmay, runCommitArmed_eq t dst hroutine, harmed]; rfl)
  case night => exact (run_result _ hs).trans (by rw [visit_routineCommand hcmd hmay]; rfl)
  case flush =>
    have hop : t.nv.op = s.m.nv.op := (commandAt_exchanged hcmd).nv_op
    have hexec : exec c.2.2 s = .next (s.result (t.startFlush c.2.1 (some dst))) := by
      simp only [List.mem_cons, List.not_mem_nil, or_false] at hc
      rcases hc with rfl | rfl <;> exact (run_result _ hs).trans (by rw [visit_routineCommand hcmd hmay]; rfl)
    exact ⟨fun hfree => by rw [hexec, startFlush_free t dst c.2.1 (hop.trans hfree)],
      fun op hbusy => by rw [hexec, startFlush_busy t dst c.2.1 (hop.trans hbusy)]⟩
  case refused =>
    have hno : t.sleepRefused (sleepTarget code) = true := ((commandAt_exchanged hcmd).sleepRefused _).trans href
    exact (run_result _ hs).trans (by rw [visit_sleepCommand hcmd hmay, runSleep_refused t dst hcode hno])
  case accepted =>
    have hx := commandAt_exchanged hcmd
    have hyes : t.sleepRefused (sleepTarget code) = false := (hx.sleepRefused _).trans hok
    have hquiet : t.power.signal = none := by rw [hx.power]; exact hsignal
    have hword : t.word 0x12 = s.m.word 0x12 := hx.words 0x12 (by decide)
    exact (run_result _ hs).trans (by rw [visit_sleepCommand hcmd hmay, runSleep_accepted t dst hcode hyes hquiet, hword])
  case toRun =>
    have hmode : t.power.mode = s.m.power.mode := by rw [(commandAt_exchanged hcmd).power]; rfl
    exact (run_result _ hs).trans (by rw [visit_sleepCommand hcmd hmay, runSleep_run, hmode])
  case early =>
    have hno : t.sleepRefused (sleepTarget code) = true :=
      ((commandAt_exchanged hcmd).sleepRefused _).trans ((sleepRefused_iff _ _).mpr (.inl hdawn))
    exact (run_result _ hs).trans (by rw [visit_sleepCommand_early hcmd hdawn, runSleep_refused t dst hcode hno])

end Sys2Proof.Proofs
end

section
/-! PROOFS. The resets and what releases them (R78, R82, R486). -/

namespace Sys2Proof.Proofs

open Sys2Proof.Machine Sys2Proof.Laws

/-! ## What a reset clears -/

/-- Without a write of the store to cut, a reset keeps what it keeps as it stands (R78, R644). -/
theorem cleared_eq (b : Block) (h : b.nv.op = none) : b.cleared = { Block.reset with
    now := b.now, free := b.free, tap := b.tap, nv := { cells := b.nv.cells, bad := b.nv.bad, soft := b.nv.soft },
    power := { valid := b.power.valid ++ b.power.restoring, resetLow := b.power.resetLow },
    clock := { enc := { levelA := b.clock.enc.levelA, levelB := b.clock.enc.levelB } } } := by
  have hcut : b.tearWrite = b := by rw [Block.tearWrite, h]
  rw [Block.cleared, hcut]

/-- RESET_N low outside a power-on reset resets the part, which stays in reset. -/
theorem stepPinReset_on (b : Block) (h : b.power.mode ≠ .off) : b.stepPinReset =
    ((b.setPower (fun x => { x with resetLow := true })).resetKeeping 1).setPower (fun x => { x with mode := .inReset }) := by
  rw [Block.stepPinReset]
  exact if_neg h

/-- RESET_N low in a power-on reset is noted and no more. -/
theorem stepPinReset_off (b : Block) (h : b.power.mode = .off) : b.stepPinReset = b.setPower (fun x => { x with resetLow := true }) := by
  rw [Block.stepPinReset]
  exact if_pos h

/-- The release of a power-on reset starts Dawn, or leaves the part to RESET_N. -/
theorem stepPowerOnRelease_off (b : Block) (h : b.power.mode = .off) : b.stepPowerOnRelease =
    if b.power.resetLow then b.setPower (fun x => { (x.addRail .vaon).addRail .vcore with mode := .inReset })
    else (b.setPower (fun x => (x.addRail .vaon).addRail .vcore)).startD0 := by
  rw [Block.stepPowerOnRelease, if_neg (not_not.mpr h)]
  rfl

/-- RESET_N high ends its reset. -/
theorem stepResetRise_inReset (b : Block) (h : b.power.mode = .inReset) :
    b.stepResetRise = (b.setPower (fun x => { x with resetLow := false })).startD0 := by
  rw [Block.stepResetRise]
  exact if_pos h

/-! ## The system reset -/

/-- RESET_KEY is the low byte of SYS_CTL. -/
theorem resetKey_get_iff (v : Word) : R.SYS_CTL.RESET_KEY.get v = 0xC3 ↔ v &&& 0xFF#32 = 0xC3#32 := by
  have hlow : (v &&& 0xFF#32).toNat = v.toNat % 2 ^ 8 := by
    rw [BitVec.toNat_and]
    exact Nat.and_two_pow_sub_one_eq_mod v.toNat 8
  have hget : R.SYS_CTL.RESET_KEY.get v = v.toNat % 2 ^ 8 := by simp [RegField.get, R.SYS_CTL.RESET_KEY]
  rw [← BitVec.toNat_inj, hlow, hget]
  rfl

/-- The write of SYS_CTL requests a reset 10 µs later with the key, and does nothing else. -/
theorem writeSysCtl_eq (b : Block) (v : Word) : b.writeSysCtl v =
    if v &&& 0xFF#32 = 0xC3#32 then b.setPower (fun x => { x with resetAt := some (b.now + 1000) }) else b :=
  if_congr (resetKey_get_iff v) rfl rfl

/-- Settles O6: what a reset clears, the resets that need no requirement, the release, and the key. -/
theorem resetsAndRelease : Obligations.ResetsAndRelease := by
  refine ⟨⟨cleared_eq, fun b => ⟨rfl, rfl, rfl, rfl, rfl, rfl⟩, fun dt s => rfl, fun dt r s hr hvalid => ?rail,
      fun dt s hon => ?pin, fun dt s hoff => ?pinOff, fun dt s hdue => ?system, fun dt s hs hdue => ?notDue⟩,
    ⟨fun dt s hs hoff hhigh => ?release, fun dt s hs hoff hlow => ?releaseLow, fun dt s hs hreset => ?rise⟩,
    fun dt p v s hs hp => ?key⟩
  case rail =>
    show execRailUv dt r s = _
    rw [execRailUv, if_pos ⟨hr, hvalid⟩]
    rfl
  case pin =>
    show execPinReset dt s = _
    rw [execPinReset, runReset_result, stepPinReset_on (s.m.elapse dt) hon]
    rfl
  case pinOff =>
    show execPinReset dt s = _
    rw [execPinReset, runReset_result, stepPinReset_off (s.m.elapse dt) hoff]
  case system =>
    show execSystemReset dt s = _
    rw [execSystemReset, if_pos hdue]
    rfl
  case notDue =>
    show execSystemReset dt s = _
    rw [execSystemReset, if_neg (ne_true_of_eq_false hdue), run_result _ hs]
    rfl
  case release =>
    refine (run_result _ hs).trans ?_
    rw [stepPowerOnRelease_off (s.m.elapse dt) hoff, block_elapse_power, if_neg (ne_true_of_eq_false hhigh)]
    rfl
  case releaseLow =>
    refine (run_result _ hs).trans ?_
    rw [stepPowerOnRelease_off (s.m.elapse dt) hoff, block_elapse_power, if_pos hlow]
  case rise =>
    refine (run_result _ hs).trans ?_
    rw [stepResetRise_inReset (s.m.elapse dt) hreset]
    rfl
  case key =>
    show execResetKey dt p v s = _
    rw [execResetKey, runPort_result p _ hs hp, writeSysCtl_eq]
    rfl

end Sys2Proof.Proofs
end

section
/-! PROOFS. The start of a Dusk: what it sets, and what it abandons (R75, R77, R88 to R90, R95). -/

namespace Sys2Proof.Proofs

open Sys2Proof.Machine Sys2Proof.Laws

/-- The power state, the time and the registers of chapter 03 (PW_STATUS to PW_RESET_CAUSE) stay. -/
structure PowerKept (a b : Block) : Prop where
  power : b.power = a.power
  now : b.now = a.now
  words : ∀ i, 0x10 ≤ i → i ≤ 0x16 → b.word i = a.word i

namespace PowerKept

variable {a b c : Block}

theorem refl (a : Block) : PowerKept a a := ⟨rfl, rfl, fun _ _ _ => rfl⟩

theorem trans (h : PowerKept a b) (k : PowerKept b c) : PowerKept a c :=
  ⟨k.power.trans h.power, k.now.trans h.now, fun i hlo hhi => (k.words i hlo hhi).trans (h.words i hlo hhi)⟩

theorem of_exchanged (h : Exchanged a b) : PowerKept a b := ⟨h.power, h.now, fun i _ _ => h.words i (by omega)⟩

theorem foldl {α : Type} (f : Block → α → Block) (h : ∀ (b : Block) (x : α), PowerKept b (f b x)) (l : List α) (b : Block) :
    PowerKept b (l.foldl f b) := by
  induction l generalizing b with
  | nil => exact refl b
  | cons x xs ih => exact (h b x).trans (ih (f b x))

/-- A change that touches no register and neither the power state nor the time. -/
theorem of_regs (hpower : b.power = a.power) (hnow : b.now = a.now) (hregs : b.regs = a.regs) : PowerKept a b :=
  ⟨hpower, hnow, fun _ _ _ => by unfold Block.word; rw [hregs]⟩

/-- A store of a field elsewhere in the register file. -/
theorem of_set (b : Block) (f : RegField) (v : Nat) (hf : fits f = true) (hi : f.idx < 0x10 ∨ 0x16 < f.idx) : PowerKept b (b.set f v) :=
  ⟨rfl, rfl, fun _ _ _ => set_word_other b f v hf (by omega)⟩

/-- A counter elsewhere in the register file moves on. -/
theorem of_inc (b : Block) (f : RegField) (hf : fits f = true) (hi : f.idx < 0x10 ∨ 0x16 < f.idx) : PowerKept b (b.inc f) :=
  of_set b f _ hf hi

/-- A field of those registers. -/
theorem get (h : PowerKept a b) {f : RegField} (hlo : 0x10 ≤ f.idx) (hhi : f.idx ≤ 0x16) : b.get f = a.get f := by
  unfold Block.get; rw [h.words _ hlo hhi]

end PowerKept

/-! ## What a Dusk abandons (R90) -/

section
variable (b : Block)

theorem event_powerKept (code : Nat) (payload : List Byte) : PowerKept b (b.event code payload) :=
  .of_exchanged (.of_reported (event_reported b code payload))

theorem setBrk_powerKept (f : Brackets → Brackets) : PowerKept b (b.setBrk f) := .of_regs rfl rfl rfl

theorem idleShadow_powerKept : PowerKept b b.idleShadow := .of_regs rfl rfl rfl

theorem askFill_powerKept (who : FillFor) (addr : Nat) : PowerKept b (b.askFill who addr) := .of_regs rfl rfl rfl

theorem startLoad_powerKept (k : Nat) (late ahead up : Bool) : PowerKept b (b.startLoad k late ahead up) := by
  unfold Block.startLoad
  exact (setBrk_powerKept b _).trans ((PowerKept.of_set _ R.CP_BRK_STATUS.PROGRESS 0 rfl (.inr (by decide))).trans
    ((PowerKept.of_inc _ R.CP_BRK_COUNT.LOADS rfl (.inr (by decide))).trans (askFill_powerKept _ _ _)))

theorem forceDue_powerKept : PowerKept b b.forceDue := by
  unfold Block.forceDue
  split
  · split
    · exact (setBrk_powerKept b _).trans (startLoad_powerKept _ _ _ _ _)
    · exact .refl b
  · exact .refl b

theorem releaseShadow_powerKept : PowerKept b b.releaseShadow := by
  unfold Block.releaseShadow
  split
  · exact .refl b
  · exact ((idleShadow_powerKept b).trans (setBrk_powerKept _ _)).trans (forceDue_powerKept _)

theorem nightShadow_powerKept : PowerKept b b.nightShadow := by
  unfold Block.nightShadow
  split
  · exact releaseShadow_powerKept b
  · exact .refl b

theorem netOffNext_powerKept : PowerKept b b.netOffNext := by
  unfold Block.netOffNext
  split
  · exact .of_regs rfl rfl rfl
  · exact .refl b

theorem abandonNight_powerKept : PowerKept b b.abandonNight := by
  unfold Block.abandonNight
  simp only []
  split
  · exact .refl b
  · have hwithdrawn : PowerKept b b.withdrawPulses := .of_regs rfl rfl rfl
    exact (hwithdrawn.trans ((nightShadow_powerKept _).trans (netOffNext_powerKept _))).trans
      ((PowerKept.of_set _ R.CP_MN_STATUS.STEP 0 rfl (.inr (by decide))).trans (.of_regs rfl rfl rfl))

/-- No Midnight cycle runs once it is abandoned. -/
theorem abandonNight_running : b.abandonNight.night.running = false := by
  unfold Block.abandonNight
  simp only []
  split
  · rename_i h
    simp only [Bool.and_eq_true, Bool.not_eq_true'] at h
    exact h.1
  · rfl

/-- The end of a routine changes the sequencer alone. -/
theorem endRoutine_rest (how : RoutineEnd) : b.endRoutine how = { b with seq := (b.endRoutine how).seq } := by
  unfold Block.endRoutine
  split <;> rfl

theorem endRoutine_powerKept (how : RoutineEnd) : PowerKept b (b.endRoutine how) := by
  rw [endRoutine_rest]
  exact .of_regs rfl rfl rfl

theorem finishRoutine_powerKept (how : RoutineEnd) (status : Nat) (ws : List Nat) : PowerKept b (b.finishRoutine how status ws) :=
  (PowerKept.of_exchanged (replyOpt_exchanged b _ _ _)).trans (endRoutine_powerKept _ _)

theorem finishRoutine_night (how : RoutineEnd) (status : Nat) (ws : List Nat) : (b.finishRoutine how status ws).night = b.night := by
  unfold Block.finishRoutine
  rw [endRoutine_rest]
  exact (replyOpt_exchanged b _ _ _).night

theorem dropRead_powerKept : PowerKept b b.dropRead := by
  unfold Block.dropRead
  simp only []
  split
  · split <;> exact .of_regs rfl rfl rfl
  · exact .of_regs rfl rfl rfl

theorem abandonRoutine_powerKept : PowerKept b b.abandonRoutine := by
  unfold Block.abandonRoutine
  refine PowerKept.trans ?_ ((abandonNight_powerKept _).trans (finishRoutine_powerKept _ _ _ _))
  split
  · exact dropRead_powerKept b
  · exact .refl b

theorem abandonRoutine_running : b.abandonRoutine.night.running = false := by
  unfold Block.abandonRoutine
  rw [finishRoutine_night, abandonNight_running]

/-! ## The transaction and the store's operation -/

theorem disarm_powerKept : PowerKept b b.disarm :=
  (PowerKept.of_set b R.CFG_OVERLAY.ARMED _ rfl (.inr (by decide))).trans (.of_set _ R.CFG_OVERLAY.STATE _ rfl (.inr (by decide)))

/-- The block once a transaction is closed with its outcome, its count and its event. -/
def txnClosed (owner cause : Nat) (b : Block) : Block :=
  ((b.closeTxn.set R.CFG_STATUS.LAST_OUTCOME (2 + cause)).inc R.CFG_COUNT.ROLLBACKS).event 0x0902 (leBytes 1 owner ++ leBytes 1 cause)

theorem rollbackTxn_none (cause : Nat) (h : b.txn.owner = none) : b.rollbackTxn cause = b := by
  rw [Block.rollbackTxn, h]

theorem rollbackTxn_some (cause : Nat) {o : Nat} (h : b.txn.owner = some o) :
    b.rollbackTxn cause = if o = 2 then (txnClosed o cause b).disarm else txnClosed o cause b := by
  rw [Block.rollbackTxn, h]
  rfl

theorem closeTxn_powerKept : PowerKept b b.closeTxn := .of_regs rfl rfl rfl

theorem txnClosed_powerKept (o cause : Nat) : PowerKept b (txnClosed o cause b) :=
  ((closeTxn_powerKept b).trans ((PowerKept.of_set _ R.CFG_STATUS.LAST_OUTCOME _ rfl (.inr (by decide))).trans
    (.of_inc _ R.CFG_COUNT.ROLLBACKS rfl (.inr (by decide))))).trans (event_powerKept _ _ _)

theorem txnClosed_owner (o cause : Nat) : (txnClosed o cause b).txn.owner = none := by
  rw [txnClosed, block_event_txn]
  rfl

theorem txnClosed_night (o cause : Nat) : (txnClosed o cause b).night = b.night := by
  rw [txnClosed, block_event_night]
  rfl

theorem rollbackTxn_powerKept (cause : Nat) : PowerKept b (b.rollbackTxn cause) := by
  cases h : b.txn.owner with
  | none => rw [rollbackTxn_none b cause h]; exact .refl b
  | some o =>
    rw [rollbackTxn_some b cause h]
    split
    · exact (txnClosed_powerKept b o cause).trans (disarm_powerKept _)
    · exact txnClosed_powerKept b o cause

/-- A roll-back leaves no transaction open, and the Midnight cycle as it was. -/
theorem rollbackTxn_owner (cause : Nat) : (b.rollbackTxn cause).txn.owner = none ∧ (b.rollbackTxn cause).night = b.night := by
  cases h : b.txn.owner with
  | none => rw [rollbackTxn_none b cause h]; exact ⟨h, rfl⟩
  | some o =>
    rw [rollbackTxn_some b cause h]
    split <;> exact ⟨txnClosed_owner b o cause, txnClosed_night b o cause⟩

/-- The store's operation is halted, and nothing else. -/
theorem haltNvOp_rest : b.haltNvOp = { b with nv := b.haltNvOp.nv } := by
  unfold Block.haltNvOp
  split
  · split <;> rfl
  · rfl

theorem haltNvOp_powerKept : PowerKept b b.haltNvOp := by
  rw [haltNvOp_rest]
  exact .of_regs rfl rfl rfl

end

/-! ## The start -/

/-- The block as a Dusk of cause `c` finds it entered, before it abandons what runs (R88, R90). -/
def duskEntered (c : DuskCause) (b : Block) : Block :=
  let b := ((b.setBit R.PW_RESET_CAUSE.CAUSE c.bit).setPhase 7).set R.PW_STATUS.DUSK_STEP 0
  let b := b.setPower (fun x => { x with
    mode := .run, dusk := some { cause := c, startedAt := b.now }, resumeTick := false, flushStarted := false })
  let b := { b with sched := { b.sched with resumeTick := false }, clock := { b.clock with ptRun := b.clock.ptRun || b.clock.ticked } }
  if c = .thermal then b.setFlag R.TH_STATUS.SD_MARK true else b

/-- What a Dusk leaves of the routine, the cycle and the transaction that it abandons. -/
def duskAbandoned (c : DuskCause) (b : Block) : Block :=
  (((duskEntered c b).event 0x0103 (leBytes 1 c.bit)).abandonRoutine.rollbackTxn 3).haltNvOp

section
variable (b : Block) (c : DuskCause)

theorem startDusk_eq (hno : b.power.dusk = none) (hmode : b.power.mode.lost = false) :
    b.startDusk c = (duskAbandoned c b).startRoutine .dusk 1 none := by
  simp only [Block.startDusk, hno, hmode, Option.isSome_none, Bool.or_self, Bool.false_eq_true, if_false]
  rfl

/-- A Dusk in progress goes on, and a state that lost its memory has none (R77, R95). -/
theorem startDusk_ignored (h : b.power.dusk.isSome = true ∨ b.power.mode.lost = true) : b.startDusk c = b := by
  rw [Block.startDusk, if_pos (by simpa using h)]

/-- The entry sets the mode, the cause, the phase and the step of Dusk. -/
theorem duskEntered_power : (duskEntered c b).power.mode = .run ∧ (duskEntered c b).power.dusk = some { cause := c, startedAt := b.now } := by
  unfold duskEntered
  simp only []
  split <;> exact ⟨rfl, rfl⟩

theorem duskEntered_get (f : RegField) (hf : f.idx ≠ 0x1C) : (duskEntered c b).get f =
    (((b.setBit R.PW_RESET_CAUSE.CAUSE c.bit).setPhase 7).set R.PW_STATUS.DUSK_STEP 0).get f := by
  unfold duskEntered
  simp only []
  split
  · exact get_setFlag_other _ R.TH_STATUS.SD_MARK f true rfl (.inl hf.symm)
  · rfl

theorem duskEntered_phase : (duskEntered c b).phase = 7 := by
  rw [Block.phase, duskEntered_get b c _ (by decide), get_set_other _ _ _ _ rfl (by decide)]
  exact get_set_self _ R.PW_STATUS.PHASE 7 rfl

theorem duskEntered_step : (duskEntered c b).get R.PW_STATUS.DUSK_STEP = 0 := by
  rw [duskEntered_get b c _ (by decide)]
  exact get_set_self _ _ 0 rfl

theorem duskEntered_cause : (duskEntered c b).get R.PW_RESET_CAUSE.CAUSE = orBit (b.get R.PW_RESET_CAUSE.CAUSE) c.bit % 1024 := by
  rw [duskEntered_get b c _ (by decide), get_set_other _ _ _ _ rfl (by decide), Block.setPhase, get_set_other _ _ _ _ rfl (by decide)]
  exact get_set_self b R.PW_RESET_CAUSE.CAUSE _ rfl

theorem duskAbandoned_powerKept : PowerKept (duskEntered c b) (duskAbandoned c b) :=
  (event_powerKept _ _ _).trans ((abandonRoutine_powerKept _).trans ((rollbackTxn_powerKept _ _).trans (haltNvOp_powerKept _)))

theorem duskAbandoned_owner : (duskAbandoned c b).txn.owner = none := by
  rw [duskAbandoned, haltNvOp_rest]
  exact (rollbackTxn_owner _ _).1

theorem duskAbandoned_running : (duskAbandoned c b).night.running = false := by
  rw [duskAbandoned, haltNvOp_rest]
  show (Block.rollbackTxn _ _).night.running = false
  rw [(rollbackTxn_owner _ _).2, abandonRoutine_running]

end

/-! ## What starts one (R75, R77, R88) -/

/-- The key alone in PW_CTL starts a Dusk by request. -/
theorem writePwCtl_duskKey (b : Block) (v : Word) (hretry : R.PW_CTL.DAWN_RETRY.get v = 0) (hkey : R.PW_CTL.DUSK_KEY.get v = 0xD5) :
    b.writePwCtl v = ((b.putFields 0x11 v).2).startDusk .request := by
  simp [Block.writePwCtl, hretry, hkey]

/-- The block once rail `r` is below its threshold and noted so in PW_RAIL (R75). -/
def railLost (r : Rail) (b : Block) : Block :=
  (b.setPower (fun x => { x with valid := x.valid.filter (· != r), restoring := x.restoring.filter (· != r) })).setBit
    R.PW_RAIL.UV_SEEN (Rail.bit r)

/-- The loss of a rail that was valid starts a Dusk for VDDA and VDRV, and else is reported and stops the rail's functions. -/
theorem stepRailUv_valid (b : Block) (r : Rail) (hvalid : b.power.valid.contains r = true) (hmode : b.power.mode.lost = false) :
    b.stepRailUv r = if r = .vdda ∨ r = .vdrv then (railLost r b).startDusk .rail
      else ((railLost r b).event 0x0107 (leBytes 1 (Rail.bit r))).railStops r := by
  have hin : (b.power.valid ++ b.power.restoring).contains r = true := by rw [List.contains_append, hvalid, Bool.true_or]
  have hkept : (b.setPower (fun x => { x with valid := x.valid.filter (· != r), restoring := x.restoring.filter (· != r) })).power.mode.lost
      = false := hmode
  simp only [Block.stepRailUv, hin, hkept, hvalid, Bool.not_true, Bool.false_eq_true, if_false, if_true]
  rfl

/-- RAIL_UV of a rail that resets nothing is its step. -/
theorem railUv_result {s : State} (dt : Nat) (r : Rail) (hs : s.defined) (haon : r ≠ .vaon) (hcore : r ≠ .vcore) :
    exec (.railUv dt r) s = .next (s.result ((s.m.elapse dt).stepRailUv r)) := by
  show execRailUv dt r s = _
  rw [execRailUv, if_neg (fun h => h.1.elim haon hcore), run_result _ hs]

/-- Settles O9: the three starts, then the parts of a start: what it enters and what it abandons. -/
theorem duskStarts : Obligations.DuskStarts := by
  refine ⟨⟨fun dt s hs => run_result _ hs, fun dt p v s hs hp hretry hkey => ?key, fun dt r s hs hr hvalid hmode => ?rail⟩,
    fun b c hno hmode => ?start, startDusk_ignored⟩
  case key =>
    show execDuskKey dt p v s = _
    rw [execDuskKey, runPort_result p _ hs hp, writePwCtl_duskKey _ v hretry hkey]
  case rail =>
    have hother : r ≠ .vaon ∧ r ≠ .vcore := by rcases hr with rfl | rfl <;> decide
    rw [railUv_result dt r hs hother.1 hother.2, stepRailUv_valid (s.m.elapse dt) r hvalid hmode, if_pos hr]
    rfl
  case start =>
    have hkept := duskAbandoned_powerKept b c
    obtain ⟨hrun, hdusk⟩ := duskEntered_power b c
    rw [startDusk_eq b c hno hmode]
    exact ⟨rfl, rfl, hkept.power ▸ hrun, hkept.power ▸ hdusk, (hkept.get (by decide) (by decide)).trans (duskEntered_phase b c),
      (hkept.get (by decide) (by decide)).trans (duskEntered_step b c), (hkept.get (by decide) (by decide)).trans (duskEntered_cause b c),
      duskAbandoned_owner b c, duskAbandoned_running b c⟩

end Sys2Proof.Proofs
end

section
/-! PROOFS. The end of a Dusk, what DEEP keeps, and the rails whose loss starts no Dusk (R75, R76, R92, R96, R97, R184, R292). -/

namespace Sys2Proof.Proofs

open Sys2Proof.Machine Sys2Proof.Laws

/-! ## The end of a Dusk -/

section
variable {b : Block} {d : Dusk}

/-- Step 5 of a Dusk by PFAIL_N or a rail ends once 6.5 ms have passed since its start (R92). -/
theorem stepStep5Cut_eq (hd : b.power.dusk = some d) (hcause : d.cause = .pfail ∨ d.cause = .rail) (hroutine : b.seq.routine = some .dusk)
    (hstep : b.seq.step = 5) : b.stepStep5Cut = if d.startedAt + 650000 ≤ b.now then b.duskDone 5 else b := by
  simp [Block.stepStep5Cut, hd, hcause, hroutine, hstep]

/-- After step 7 a power-fail Dusk whose cause is gone leads to a warm Dawn (R96). -/
theorem stepDuskEnd_warm (hd : b.power.dusk = some d) (hseven : b.get R.PW_STATUS.DUSK_STEP = 7) (hcause : d.cause = .pfail ∨ d.cause = .rail)
    (hrails : b.railsValid = true) : b.stepDuskEnd true =
      if b.flag R.NV_STATUS.BASE_WRITTEN then ((b.endRoutine .completed).setBit R.PW_RESET_CAUSE.CAUSE 4).startDawn .warmD1 1
      else ((b.endRoutine .completed).setBit R.PW_RESET_CAUSE.CAUSE 4).startDawn .warmD2 2 := by
  have hend := endRoutine_rest b .completed
  have hvalid : (b.endRoutine .completed).railsValid = true := by rw [hend]; exact hrails
  have hbase : ((b.endRoutine .completed).setBit R.PW_RESET_CAUSE.CAUSE 4).flag R.NV_STATUS.BASE_WRITTEN = b.flag R.NV_STATUS.BASE_WRITTEN := by
    unfold Block.flag Block.setBit
    rw [get_set_other _ _ _ _ rfl (by decide), hend]
    rfl
  simp [Block.stepDuskEnd, hd, hseven, hcause, hvalid, hbase]

/-- After step 7 every other Dusk ends in DEEP (R96). -/
theorem stepDuskEnd_deep (high : Bool) (hd : b.power.dusk = some d) (hseven : b.get R.PW_STATUS.DUSK_STEP = 7)
    (h : (d.cause ≠ .pfail ∧ d.cause ≠ .rail) ∨ high = false ∨ b.railsValid = false) :
    b.stepDuskEnd high = (b.endRoutine .completed).enterDeep := by
  have hvalid : (b.endRoutine .completed).railsValid = b.railsValid := by rw [endRoutine_rest]; rfl
  have hno : ¬ ((d.cause = .pfail ∨ d.cause = .rail) ∧ high = true ∧ (b.endRoutine .completed).railsValid = true) := by
    rw [hvalid]
    rintro ⟨hcause, hhigh, hrails⟩
    rcases h with ⟨hp, hr⟩ | h | h
    · exact hcause.elim hp hr
    · exact absurd hhigh (ne_true_of_eq_false h)
    · exact absurd hrails (ne_true_of_eq_false h)
  simp only [Block.stepDuskEnd, hd, hseven, ne_eq, not_true_eq_false, if_false, if_neg hno]

end

/-! ## What DEEP keeps (R97, R184, R292) -/

/-- The reset state with the registers that DEEP keeps: those of the AON block, SD_MARK and LAST_SLEEP. -/
def deepKept (b : Block) : Block :=
  ((((Block.reset.setWord 0x12 (b.word 0x12)).setWord 0x14 (b.word 0x14)).setWord 0x16 (b.word 0x16)).set R.TH_STATUS.SD_MARK
    (b.get R.TH_STATUS.SD_MARK)).set R.PW_STATUS.LAST_SLEEP 3

section
variable (b : Block)

theorem enterDeep_regs : b.enterDeep.regs = (deepKept b).regs := rfl

theorem deepKept_word {i : Nat} (hs : R.TH_STATUS.SD_MARK.idx ≠ i) (hl : R.PW_STATUS.LAST_SLEEP.idx ≠ i) : (deepKept b).word i =
    if 0x16 = i then b.word 0x16 else if 0x14 = i then b.word 0x14 else if 0x12 = i then b.word 0x12 else regsReset.getD i 0#32 := by
  rw [deepKept, set_word_other _ _ _ rfl hl, set_word_other _ _ _ rfl hs, word_setWord _ _ _ _ (by decide), word_setWord _ _ _ _ (by decide),
    word_setWord _ _ _ _ (by decide)]
  rfl

theorem enterDeep_word (i : Nat) : b.enterDeep.word i = (deepKept b).word i := rfl

/-- Every register that DEEP does not keep is at its reset value. -/
theorem enterDeep_word_reset {i : Nat} (h : i ∉ [0x12, 0x14, 0x16, R.PW_STATUS.LAST_SLEEP.idx, R.TH_STATUS.SD_MARK.idx]) :
    b.enterDeep.word i = regsReset.getD i 0#32 := by
  simp only [List.mem_cons, List.not_mem_nil, or_false, not_or] at h
  obtain ⟨h12, h14, h16, hlast, hmark⟩ := h
  rw [enterDeep_word, deepKept_word b (Ne.symm hmark) (Ne.symm hlast), if_neg (Ne.symm h16), if_neg (Ne.symm h14), if_neg (Ne.symm h12)]

theorem enterDeep_lastSleep : b.enterDeep.get R.PW_STATUS.LAST_SLEEP = 3 :=
  (get_congr (enterDeep_regs b) _).trans (get_set_self _ _ 3 rfl)

theorem enterDeep_sdMark : b.enterDeep.get R.TH_STATUS.SD_MARK = b.get R.TH_STATUS.SD_MARK := by
  rw [get_congr (enterDeep_regs b), deepKept, get_set_other _ _ _ _ rfl (by decide)]
  exact get_set_of_word _ R.TH_STATUS.SD_MARK _ rfl

/-- With no operation in progress the store keeps its cells as they are. -/
theorem enterDeep_nv (h : b.nv.op = none) : b.enterDeep.nv = { cells := b.nv.cells, bad := b.nv.bad, soft := b.nv.soft } := by
  unfold Block.enterDeep
  rw [h]
  rfl

end

/-- Settles O10: the cut of step 5, the two ends of a Dusk, and the registers and parts that DEEP keeps. -/
theorem duskEnds : Obligations.DuskEnds := by
  refine ⟨⟨fun dt d s hs hd hcause hroutine hstep => ?cut, fun dt d s hs hd hseven hcause hrails => ?warm,
      fun dt d high s hs hd hseven h => ?deep⟩,
    fun b => ⟨rfl, rfl, ?word12, ?word14, ?word16, rfl, enterDeep_lastSleep b, enterDeep_sdMark b, rfl, rfl, rfl, rfl, enterDeep_nv b,
      fun i hi => enterDeep_word_reset b hi⟩⟩
  case cut => exact (run_result _ hs).trans (by rw [stepStep5Cut_eq (b := s.m.elapse dt) hd hcause hroutine hstep]; rfl)
  case warm => exact (run_result (Block.stepDuskEnd · true) hs).trans (by rw [stepDuskEnd_warm (b := s.m.elapse dt) hd hseven hcause hrails]; rfl)
  case deep => exact (run_result (Block.stepDuskEnd · high) hs).trans (by rw [stepDuskEnd_deep (b := s.m.elapse dt) high hd hseven h])
  case word12 | word14 | word16 =>
    rw [enterDeep_word, deepKept_word b (by decide) (by decide)]
    rfl

/-! ## The loss and the return of another rail (R75, R76) -/

/-- The return of a rail other than VDDA and VDRV is reported; its functions resume at the next tick, or at once. -/
theorem stepRailRestored_lost (b : Block) (r : Rail) (hdda : r ≠ .vdda) (hdrv : r ≠ .vdrv)
    (hlost : (b.power.valid ++ b.power.restoring).contains r = false) (hmode : b.power.mode.lost = false) : b.stepRailRestored r =
      if (b.event 0x0108 (leBytes 1 (Rail.bit r))).ticking then
        (b.event 0x0108 (leBytes 1 (Rail.bit r))).setPower (fun x => { x with restoring := x.restoring ++ [r] })
      else (b.event 0x0108 (leBytes 1 (Rail.bit r))).setPower (fun x => x.addRail r) := by
  simp only [Block.stepRailRestored, hlost, hmode, hdda, hdrv, Bool.false_eq_true, or_self, if_false]

/-- Settles O11: the steps of RAIL_UV and RAIL_RESTORED for a rail whose loss starts no Dusk. -/
theorem railsLostAndRestored : Obligations.RailsLostAndRestored := by
  refine ⟨fun dt r s hs haon hcore hdda hdrv hvalid hmode => ?lost, fun dt r s hs hdda hdrv hlost hmode => ?restored⟩
  case lost =>
    rw [railUv_result dt r hs haon hcore, stepRailUv_valid (s.m.elapse dt) r hvalid hmode, if_neg (not_or.mpr ⟨hdda, hdrv⟩)]
    rfl
  case restored =>
    exact (run_result (Block.stepRailRestored · r) hs).trans (by rw [stepRailRestored_lost (s.m.elapse dt) r hdda hdrv hlost hmode])

end Sys2Proof.Proofs
end

section
/-! PROOFS. The settle, the bias ramp and the 1 ms samples of Dawn (R104, R215, R670, R675). -/

namespace Sys2Proof.Proofs

open Sys2Proof.Machine Sys2Proof.Laws

section
variable (b : Block)

/-- The settle ends from 20 ms on once the substrate is steady, and at 150 ms at the latest (R670). -/
theorem stepSettle_settling (h : b.settling = true) : b.stepSettle =
    if (20 ≤ b.settleMs ∧ (b.img.lastGood - b.thermal.latched0).natAbs ≤ 64 ∧ (b.thermal.latchedH - b.thermal.latched0).natAbs ≤ 25) ∨
        150 ≤ b.settleMs then
      (b.set R.PW_DAWN_TIME.SETTLE_MS b.settleMs).setPower (fun p => { p with settled := true })
    else b := by
  simp [Block.stepSettle, h]

theorem stepSettle_idle (h : b.settling = false) : b.stepSettle = b := by
  simp [Block.stepSettle, h]

/-! ## The bias ramp (R215) -/

theorem biasAmplitude_parked (h : b.power.bias = false) : b.biasAmplitude = 0 := by
  simp [Block.biasAmplitude, h]

/-- The ramp of 10 ms starts at 1.0 V. -/
theorem biasAmplitude_rampStart (h : b.power.bias = true) (hphase : b.phase = 3) (hnow : b.now = b.power.phaseAt) :
    b.biasAmplitude = 1000000 := by
  simp [Block.biasAmplitude, h, hphase, hnow, msec]

/-- Ten milliseconds later it is over. -/
theorem biasAmplitude_rampOver (h : b.power.bias = true) (hnow : b.power.phaseAt + 1000000 ≤ b.now) :
    b.biasAmplitude = biasMicro (b.get R.FP_BIAS.LEVEL) := by
  have hover : ¬ b.now - b.power.phaseAt < msec 10 := by
    have hten : msec 10 = 1000000 := rfl
    omega
  simp [Block.biasAmplitude, h, hover]

/-! ## The samples (R215, R670, R675) -/

/-- With the array not biased a sample takes the die sites alone. -/
theorem step1ms_parked (inp : TickInput) (h : b.samples1ms = true) (hbias : b.power.bias = false) : b.step1ms inp =
    if (b.thermalSample inp.sites).2 then (b.thermalSample inp.sites).1.startDusk .thermal else (b.thermalSample inp.sites).1 := by
  simp [Block.step1ms, h, hbias]

/-- The block once a sample has read the thermistor, which it does before D5 (R670). -/
def thermistorRead (inp : TickInput) (b : Block) : Block :=
  if b.phase = 5 then b else (b.thermistor (b.get R.TB_FRAME.FRAME) inp.thermistor.sum).1

/-- With the array biased it takes the power sample and the model too, and the thermistor before D5. -/
theorem step1ms_biased (inp : TickInput) (h : b.samples1ms = true) (hbias : b.power.bias = true)
    (hcool : ((thermistorRead inp b).thermalSample inp.sites).2 = false) : b.step1ms inp =
      if (((thermistorRead inp b).thermalSample inp.sites).1.powerSample inp.iCode inp.vcore).thermal.started then
        (((thermistorRead inp b).thermalSample inp.sites).1.powerSample inp.iCode inp.vcore).modelUpdate true
      else (((thermistorRead inp b).thermalSample inp.sites).1.powerSample inp.iCode inp.vcore).startModel.latchModel false := by
  have hread : (if b.power.bias = true ∧ b.phase ≠ 5 then (b.thermistor (b.get R.TB_FRAME.FRAME) inp.thermistor.sum).1 else b) =
      thermistorRead inp b := by
    by_cases hphase : b.phase = 5 <;> simp [thermistorRead, hbias, hphase]
  simp only [Block.step1ms, h, Bool.not_true, Bool.false_eq_true, if_false, hread, hcool]
  simp only [hbias, Bool.not_true, Bool.false_eq_true, if_false]

end

/-- Settles O12: the settle in and out of its time, the ends of the ramp, and a sample with the array parked and biased. -/
theorem settleAndDawnSamples : Obligations.SettleAndDawnSamples := by
  refine ⟨fun dt s hs h => ?settling, fun dt s hs h => ?idle,
    fun b => ⟨biasAmplitude_parked b, biasAmplitude_rampStart b, fun hbias _ hnow => biasAmplitude_rampOver b hbias hnow⟩,
    fun dt inp s hs h hbias => ?parked, fun dt inp x s hs h hbias hx hcool => ?biased⟩
  case settling => exact (run_result _ hs).trans (by rw [stepSettle_settling (s.m.elapse dt) h]; rfl)
  case idle => exact (run_result _ hs).trans (by rw [stepSettle_idle (s.m.elapse dt) h])
  case parked => exact (run_result (Block.step1ms · inp) hs).trans (by rw [step1ms_parked (s.m.elapse dt) inp h hbias])
  case biased =>
    obtain rfl : x = thermistorRead inp (s.m.elapse dt) := hx
    exact (run_result (Block.step1ms · inp) hs).trans (by rw [step1ms_biased (s.m.elapse dt) inp h hbias hcool])

end Sys2Proof.Proofs
end

section
/-! PROOFS. What an enabled wake source does in each state, and when the AON timer wakes the part (R98, R102 to R110). -/

namespace Sys2Proof.Proofs

open Sys2Proof.Machine Sys2Proof.Laws

/-! ## The sources that hit (R102) -/

/-- The number whose bits below `n` are those that `p` picks. -/
def pickedBits (p : Nat → Bool) (n : Nat) : Nat := (((List.range n).filter p).map (fun k => 2 ^ k)).sum

theorem pickedBits_succ (p : Nat → Bool) (n : Nat) : pickedBits p (n + 1) = pickedBits p n + if p n then 2 ^ n else 0 := by
  rw [pickedBits, List.range_succ, List.filter_append, List.map_append, List.sum_append]
  cases hp : p n <;> simp [pickedBits, hp]

theorem pickedBits_lt (p : Nat → Bool) (n : Nat) : pickedBits p n < 2 ^ n := by
  induction n with
  | zero => exact Nat.zero_lt_one
  | succ n ih =>
    rw [pickedBits_succ]
    split <;> omega

theorem pickedBits_testBit (p : Nat → Bool) {n i : Nat} (hi : i < n) : (pickedBits p n).testBit i = p i := by
  induction n with
  | zero => omega
  | succ n ih =>
    have htop : (pickedBits p n).testBit n = false := Nat.testBit_lt_two_pow (pickedBits_lt p n)
    rw [pickedBits_succ, Nat.add_comm]
    rcases Nat.lt_succ_iff_lt_or_eq.mp hi with hlow | rfl
    · split
      · rw [Nat.testBit_two_pow_add_gt hlow, ih hlow]
      · rw [Nat.zero_add, ih hlow]
    · cases hp : p i
      · simp [htop]
      · simp [Nat.testBit_two_pow_add_eq, htop]

theorem bitOf_eq_testBit (v i : Nat) : bitOf v i = v.testBit i := by
  rw [Nat.testBit_eq_decide_div_mod_eq]
  rfl

/-- A source hits when it is enabled, signals and can be detected. -/
theorem wakeHits_iff (b : Block) (sources i : Nat) (hi : i < 6) : bitOf (b.wakeHits sources) i = true ↔
    bitOf b.wakeEnable.toNat i = true ∧ bitOf sources i = true ∧ b.wakeSeen b.wakeEnable i = true := by
  have hpicked : bitOf (b.wakeHits sources) i = (bitOf b.wakeEnable.toNat i && bitOf sources i && b.wakeSeen b.wakeEnable i) :=
    (bitOf_eq_testBit _ i).trans (pickedBits_testBit _ hi)
  simp [hpicked, and_assoc]

/-! ## What a wake does -/

section
variable {b : Block} {hits : Nat} (hhits : hits ≠ 0)
include hhits

theorem wakeBy_idle (hroutine : b.seq.routine = none) (hmode : b.power.mode = .idle) : b.wakeBy hits = b.wakeIdle hits := by
  simp [Block.wakeBy, hhits, hroutine, hmode]

theorem wakeBy_nap (hroutine : b.seq.routine = none) (hmode : b.power.mode = .nap) : b.wakeBy hits = b.wakeNap hits := by
  simp [Block.wakeBy, hhits, hroutine, hmode]

theorem wakeBy_deep (hroutine : b.seq.routine = none) (hmode : b.power.mode = .deep) : b.wakeBy hits = b.wakeDeep hits := by
  simp [Block.wakeBy, hhits, hroutine, hmode]

/-- In sleep entry the sources are kept for the next step boundary (R108, R109). -/
theorem wakeBy_sleepEntry (hroutine : b.seq.routine = some .sleepEntry) :
    b.wakeBy hits = b.setPower (fun x => { x with wakeSrc := x.wakeSrc ||| hits }) := by
  simp [Block.wakeBy, hhits, hroutine]

/-- In sleep exit they join PW_WAKE_SRC (R110). -/
theorem wakeBy_sleepExit (hroutine : b.seq.routine = some .sleepExit) :
    b.wakeBy hits = b.set R.PW_WAKE_SRC.SRC (b.get R.PW_WAKE_SRC.SRC ||| hits) := by
  simp [Block.wakeBy, hhits, hroutine]

end

theorem wakeBy_none (b : Block) : b.wakeBy 0 = b := rfl

/-- The block once a signal outside sleep is noted with its AON clock (R108). -/
def signalNoted (src : Nat) (b : Block) : Block := b.setPower (fun x => { x with signal := some (aonClock b.now, src % 32) })

section
variable {s : State} (dt src : Nat) (hs : s.defined)
include hs

/-- WAKE in RUN and IDLE: the signal is noted, and the enabled sources in it act. -/
theorem wake_noted (h : s.m.power.mode = .run ∨ s.m.power.mode = .idle) :
    exec (.wake dt src) s = .next (s.result ((signalNoted src (s.m.elapse dt)).wakeBy (s.m.wakeHits (src % 32)))) := by
  show execWake dt src s = _
  rw [execWake, run_result _ hs, Block.stepWake, block_elapse_power, if_pos h]
  rfl

/-- WAKE in any other state: the enabled sources act. -/
theorem wake_asleep (h : ¬ (s.m.power.mode = .run ∨ s.m.power.mode = .idle)) :
    exec (.wake dt src) s = .next (s.result ((s.m.elapse dt).wakeBy (s.m.wakeHits (src % 32)))) := by
  show execWake dt src s = _
  rw [execWake, run_result _ hs, Block.stepWake, block_elapse_power, if_neg h]
  rfl

end

/-- The AON timer acts as source 5 once PERIOD of its clocks have passed in a sleep state (R102). -/
theorem stepAonTimer_due (b : Block) (hasleep : b.power.mode ∈ [PowerMode.idle, .nap, .deep]) (hroutine : b.seq.routine = none)
    (hdue : 100000000 * b.get R.PW_AON_TIMER.PERIOD ≤ 32768 * (b.now - b.power.pubAt)) : b.stepAonTimer = b.wakeBy (b.wakeHits 32) := by
  simp only [List.mem_cons, List.not_mem_nil, or_false] at hasleep
  rw [Block.stepAonTimer]
  exact if_pos ⟨by simpa [or_assoc] using hasleep, by simp [hroutine], hdue⟩

theorem stepAonTimer_early (b : Block) (h : 32768 * (b.now - b.power.pubAt) < 100000000 * b.get R.PW_AON_TIMER.PERIOD) :
    b.stepAonTimer = b := by
  rw [Block.stepAonTimer]
  exact if_neg (fun hdue => by omega)

/-! ## The states a wake leads to (R103 to R106) -/

section
variable (b : Block) (left hits : Nat)

theorem boostSync_powerKept : PowerKept b b.boostSync := by
  unfold Block.boostSync
  simp only []
  split
  · split
    · exact .refl b
    · exact .of_regs rfl rfl rfl
  · exact .of_regs rfl rfl rfl

theorem startValves_powerKept : PowerKept b b.startValves := by
  have hrun : PowerKept b { b with valves := { b.valves with running := true } } := .of_regs rfl rfl rfl
  exact hrun.trans (boostSync_powerKept _)

theorem startLamps_powerKept : PowerKept b b.startLamps := by
  have hrun : PowerKept b { b with lamps := { b.lamps with running := true, startedAt := b.now } } := .of_regs rfl rfl rfl
  unfold Block.startLamps
  split
  · exact .refl b
  · refine hrun.trans (PowerKept.foldl _ (fun x k => ?_) _ _)
    split
    · exact .of_regs rfl rfl rfl
    · exact .refl x

theorem startDrives_powerKept : PowerKept b b.startDrives :=
  (startValves_powerKept b).trans ((startLamps_powerKept _).trans (setBrk_powerKept _ _))

/-- RUN is entered again in phase 6. -/
theorem resumeRun_run : b.resumeRun.power.mode = .run ∧ b.resumeRun.phase = 6 := by
  unfold Block.resumeRun
  have hkept := startDrives_powerKept
    (let x := (b.setPower (fun x => { x with mode := .run, duskHigh := true, resumeTick := true, wakeSrc := 0 })).setPhase 6
     { x with sched := { x.sched with resumeTick := true }, clock := { b.clock with ptRun := b.clock.ticked } })
  exact ⟨hkept.power ▸ rfl, (hkept.get (by decide) (by decide)).trans (get_set_self _ R.PW_STATUS.PHASE 6 rfl)⟩

/-- The WAKE event names the sources that PW_WAKE_SRC takes (R106). -/
theorem wakeEvent_src : (b.wakeEvent left hits).get R.PW_WAKE_SRC.SRC = hits % 64 := by
  rw [Block.wakeEvent, reported_get (event_reported _ _ _) (by decide)]
  exact get_set_self b R.PW_WAKE_SRC.SRC hits rfl

theorem wakeEvent_power : (b.wakeEvent left hits).power = b.power := by
  rw [Block.wakeEvent, block_event_power, block_set_power]

theorem wakeEvent_seq : (b.wakeEvent left hits).seq = b.seq := by
  rw [Block.wakeEvent, block_event_seq, block_set_seq]

theorem wakeEvent_phase : (b.wakeEvent left hits).phase = b.phase :=
  ((event_powerKept _ _ _).get (by decide) (by decide)).trans (get_set_other b R.PW_WAKE_SRC.SRC _ _ rfl (by decide))

/-- A wake from IDLE is RUN with its event; that it ended a sleep is noted where no routine runs. -/
theorem wakeIdle_powerKept : PowerKept (b.resumeRun.wakeEvent 1 hits) (b.wakeIdle hits) := by
  unfold Block.wakeIdle
  simp only []
  split
  · exact .of_regs rfl rfl rfl
  · exact .refl _

theorem wakeIdle_run : (b.wakeIdle hits).power.mode = .run ∧ (b.wakeIdle hits).phase = 6 ∧
    (b.wakeIdle hits).get R.PW_WAKE_SRC.SRC = hits % 64 := by
  have hkept := wakeIdle_powerKept b hits
  obtain ⟨hmode, hphase⟩ := resumeRun_run b
  exact ⟨by rw [hkept.power, wakeEvent_power, hmode], (hkept.get (by decide) (by decide)).trans ((wakeEvent_phase _ _ _).trans hphase),
    (hkept.get (by decide) (by decide)).trans (wakeEvent_src _ _ _)⟩

theorem wakeNap_exit : (b.wakeNap hits).seq.routine = some .sleepExit ∧ (b.wakeNap hits).phase = 10 ∧
    (b.wakeNap hits).get R.PW_WAKE_SRC.SRC = hits % 64 := by
  unfold Block.wakeNap
  exact ⟨by rw [wakeEvent_seq]; rfl, (wakeEvent_phase _ _ _).trans (get_set_self _ R.PW_STATUS.PHASE 10 rfl), wakeEvent_src _ _ _⟩

theorem cpStop_power : b.cpStop.power = b.power := by
  unfold Block.cpStop
  split <;> rfl

/-- A Dawn starts in RUN as the Dawn routine, of its kind. -/
theorem startDawn_run (k : DawnKind) (phase : Nat) : (b.startDawn k phase).seq.routine = some .dawn ∧
    (b.startDawn k phase).power.mode = .run ∧ (b.startDawn k phase).power.kind = k := by
  unfold Block.startDawn
  refine ⟨rfl, ?_⟩
  simp only [Block.startRoutine, block_setSeq_power, cpStop_power, and_self]

theorem wakeDeep_dawn : (b.wakeDeep hits).power.kind = .deepWake ∧ (b.wakeDeep hits).seq.routine = some .dawn ∧
    (b.wakeDeep hits).power.mode = .run ∧ (b.wakeDeep hits).get R.PW_WAKE_SRC.SRC = hits % 64 := by
  unfold Block.wakeDeep
  obtain ⟨hroutine, hmode, hkind⟩ := startDawn_run (b.setBit R.PW_RESET_CAUSE.CAUSE 3) .deepWake 1
  exact ⟨by rw [wakeEvent_power, hkind], by rw [wakeEvent_seq, hroutine], by rw [wakeEvent_power, hmode], wakeEvent_src _ _ _⟩

end

/-- AON_TIMER_WAKE, once its time has come in a sleep state, wakes the part by source 5. -/
theorem aonTimerWake_due {s : State} (dt : Nat) (hs : s.defined) (hasleep : s.m.power.mode ∈ [PowerMode.idle, .nap, .deep])
    (hroutine : s.m.seq.routine = none)
    (hdue : 100000000 * s.m.get R.PW_AON_TIMER.PERIOD ≤ 32768 * (s.m.now + dt - s.m.power.pubAt)) :
    exec (.aonTimerWake dt) s = .next (s.result ((s.m.elapse dt).wakeBy (s.m.wakeHits 32))) :=
  (run_result _ hs).trans (by rw [stepAonTimer_due (s.m.elapse dt) hasleep hroutine hdue]; rfl)

/-- Settles O13: WAKE state by state, the sources that hit, the AON timer, and what the wakes lead to. -/
theorem wakesResume : Obligations.WakesResume := by
  refine ⟨⟨fun dt src s hs hmode hroutine hhits => ?nap, fun dt src s hs hmode hroutine hhits => ?deep,
      fun dt src s hs hmode hroutine hhits => ?idle, fun dt src s hs hmode hroutine hhits => ?entry,
      fun dt src s hs hmode hroutine hhits => ?exit, fun dt src s hs hrun hidle hnone => ?asleepNone,
      fun dt src s hs hmode hnone => ?awakeNone, wakeHits_iff⟩,
    ⟨fun dt s hs hmode hroutine hhits hdue => ?napTimer, fun dt s hs hmode hroutine hhits hdue => ?deepTimer,
      fun dt s hs hmode hroutine hhits hdue => ?idleTimer, fun dt s hs hearly => ?early⟩,
    fun b hits => ?states⟩
  case nap => rw [wake_asleep dt src hs (by simp [hmode]), wakeBy_nap (b := s.m.elapse dt) hhits hroutine hmode]
  case deep => rw [wake_asleep dt src hs (by simp [hmode]), wakeBy_deep (b := s.m.elapse dt) hhits hroutine hmode]
  case idle =>
    rw [wake_noted dt src hs (.inr hmode), wakeBy_idle (b := signalNoted src (s.m.elapse dt)) hhits hroutine hmode]
    rfl
  case entry =>
    rw [wake_noted dt src hs (.inl hmode), wakeBy_sleepEntry (b := signalNoted src (s.m.elapse dt)) hhits hroutine]
    rfl
  case exit =>
    rw [wake_asleep dt src hs (by simp [hmode]), wakeBy_sleepExit (b := s.m.elapse dt) hhits hroutine]
    rfl
  case asleepNone => rw [wake_asleep dt src hs (not_or.mpr ⟨hrun, hidle⟩), hnone, wakeBy_none]
  case awakeNone =>
    rw [wake_noted dt src hs hmode, hnone, wakeBy_none]
    rfl
  case napTimer => rw [aonTimerWake_due dt hs (by simp [hmode]) hroutine hdue, wakeBy_nap (b := s.m.elapse dt) hhits hroutine hmode]
  case deepTimer => rw [aonTimerWake_due dt hs (by simp [hmode]) hroutine hdue, wakeBy_deep (b := s.m.elapse dt) hhits hroutine hmode]
  case idleTimer => rw [aonTimerWake_due dt hs (by simp [hmode]) hroutine hdue, wakeBy_idle (b := s.m.elapse dt) hhits hroutine hmode]
  case early => exact (run_result _ hs).trans (by rw [stepAonTimer_early (s.m.elapse dt) hearly])
  case states =>
    obtain ⟨hexit, hten, hnapSrc⟩ := wakeNap_exit b hits
    obtain ⟨hkind, hdawn, hrunDeep, hdeepSrc⟩ := wakeDeep_dawn b hits
    obtain ⟨hrunIdle, hsix, hidleSrc⟩ := wakeIdle_run b hits
    exact ⟨hexit, hten, hkind, hdawn, hrunDeep, hrunIdle, hsix, hidleSrc, hnapSrc, hdeepSrc⟩

end Sys2Proof.Proofs
end

section
/-! PROOFS. When a tick falls and what it stamps (R31, R87, R122, R123, R129, R139, R142, R144, R153 to R155, R165). -/

namespace Sys2Proof.Proofs

open Sys2Proof.Machine Sys2Proof.Laws

/-! ## When a tick falls (R122, R139, R153 to R155, R165) -/

section
variable {b : Block}

/-- A tick command whose kind of tick is due makes it. -/
theorem stepTick_due {k : TickKind} (inp : TickInput) (h : b.tickKind = some k) : b.stepTick k inp = b.latchWps.tickFalls k inp := if_pos h

/-- A tick command whose kind of tick is not due changes nothing. -/
theorem stepTick_notDue {k : TickKind} (inp : TickInput) (h : b.tickKind ≠ some k) : b.stepTick k inp = b := if_neg h

theorem mayTick_of_ticked (hticked : b.clock.ticked = true) (hmode : b.power.mode = .run ∨ b.power.mode = .idle) : b.mayTick = true := by
  rcases hmode with h | h <;> simp [Block.mayTick, Block.ticking, hticked, h]

/-- Before tick 0, which may fall in D5 alone, no tick falls (R87, R139). -/
theorem tickKind_beforeD5 (hticking : b.ticking = false)
    (h : b.power.mode ≠ .run ∨ b.phase ≠ 5 ∨ b.power.dusk ≠ none ∨ b.dawnPulse = true) : b.tickKind = none := by
  have hmay : b.mayTick = false := by
    rcases h with h | h | h | h <;> simp [Block.mayTick, hticking, h]
  simp [Block.tickKind, hmay]

/-- Off the sync bus a tick is timed from the one before it (R122, R172). -/
theorem tickBase_ownSource (hsrc : b.tickSource ≠ 1) : b.tickBase = b.clock.lastTick := if_neg hsrc

/-- After tick 0 no tick falls at once. -/
theorem atOnce_ticked (hticked : b.clock.ticked = true) : b.atOnce = false := by
  simp [Block.atOnce, hticked]

/-- While ticks are issued an internal tick is due one period after the last one (R122). -/
theorem tickKind_internal (hsrc : b.get R.TB_CTL.TICK_SRC = 0) (hticked : b.clock.ticked = true)
    (hmode : b.power.mode = .run ∨ b.power.mode = .idle) :
    b.tickKind = if b.clock.lastTick + b.periodInForce ≤ b.now then some .plain else none := by
  have htick : b.tickSource = 0 := by simp [Block.tickSource, hsrc]
  have henc : b.encTicks = false := by simp [Block.encTicks, hsrc]
  simp [Block.tickKind, mayTick_of_ticked hticked hmode, htick, henc, atOnce_ticked hticked, tickBase_ownSource (b := b) (by simp [htick])]

/-- While ticks are issued the encoder's ticks fall as R153 to R155 say. -/
theorem tickKind_encoder (hsrc : b.get R.TB_CTL.TICK_SRC = 2) (hticked : b.clock.ticked = true)
    (hmode : b.power.mode = .run ∨ b.power.mode = .idle) : b.tickKind = b.encTick ∧ b.tickBase = b.clock.lastTick := by
  have htick : b.tickSource = 2 := by simp [Block.tickSource, hsrc]
  have henc : b.encTicks = true := by simp [Block.encTicks, hsrc]
  exact ⟨by simp [Block.tickKind, mayTick_of_ticked hticked hmode, htick, henc], tickBase_ownSource (by simp [htick])⟩

/-- No encoder tick falls before MIN_PERIOD (R154). -/
theorem encTick_beforeMin (hticked : b.clock.ticked = true) (h : b.now < b.tickBase + b.periodInForce) : b.encTick = none := by
  simp [Block.encTick, atOnce_ticked hticked, h]

/-- WP has come to its target: the tick is plain where it did so between MIN_PERIOD and MAX_PERIOD (R153 to R155). -/
theorem encTick_reached {t : Nat} (hticked : b.clock.ticked = true) (hmin : b.tickBase + b.periodInForce ≤ b.now)
    (htarget : b.clock.enc.targeted = true) (ht : b.reachedAt = some t) : b.encTick = some
      (if b.tickBase + b.encMax < t then .forced else if t < b.tickBase + b.periodInForce then .deferred else .plain) := by
  by_cases hmax : b.tickBase + b.encMax < t
  · simp [Block.encTick, atOnce_ticked hticked, Nat.not_lt.mpr hmin, htarget, ht, hmax, Nat.not_le.mpr hmax]
  · simp [Block.encTick, atOnce_ticked hticked, Nat.not_lt.mpr hmin, htarget, ht, hmax, Nat.not_lt.mp hmax]

/-- WP has not come to its target: the tick is forced at MAX_PERIOD (R155). -/
theorem encTick_notReached (hticked : b.clock.ticked = true) (hmin : b.tickBase + b.periodInForce ≤ b.now)
    (htarget : b.clock.enc.targeted = true) (ht : b.reachedAt = none) :
    b.encTick = if b.tickBase + b.encMax ≤ b.now then some .forced else none := by
  simp [Block.encTick, atOnce_ticked hticked, Nat.not_lt.mpr hmin, htarget, ht]

/-- A unit on the sync bus that is not master has the ticks it predicts and no other (R165). -/
theorem tickKind_notMaster (hsrc : b.get R.TB_CTL.TICK_SRC = 1) (hrole : b.role ≠ 3) : b.tickKind =
    if b.mayTick = true ∧ b.role = 2 ∧ b.clock.sync.hasPred = true ∧ b.clock.sync.predicted ≤ 10 * (b.now : Int) then some .plain
    else none := by
  have htick : b.tickSource = 1 := by simp [Block.tickSource, hsrc]
  cases hmay : b.mayTick <;> simp [Block.tickKind, hmay, htick, hrole]

end

/-! ## The stamps of a tick (R87, R123, R129, R144) -/

section
variable (b : Block)

/-- The start of PT at tick 0 changes the clocks alone. -/
theorem firstPt_rest : b.firstPt = { b with clock := b.firstPt.clock } := by
  unfold Block.firstPt
  cases b.clock.sync.ptAdjust with
  | none => rfl
  | some pt => simp only []; split <;> rfl

/-- Without a master's PT to take, PT starts at 0. -/
theorem firstPt_zero (h : b.clock.sync.ptAdjust = none) :
    b.firstPt.clock.pt = 0#48 ∧ b.firstPt.clock.ptRun = true ∧ b.firstPt.clock.sync.ptAdjust = none := by
  unfold Block.firstPt
  rw [h]
  exact ⟨rfl, rfl, h⟩

/-- Without a master's PT to take the tick leaves PT to count on. -/
theorem followPt_none (h : b.clock.sync.ptAdjust = none) : b.followPt = b := by
  simp [Block.followPt, h]

/-- A master's PT that asks for a step is taken, with PT_STEP (R168). -/
theorem followPt_step {pt : PT} {e : Int} (hpt : b.clock.sync.ptAdjust = some pt) (hstep : b.clock.sync.ptStep = some e) :
    b.followPt.clock.pt = pt := by
  simp [Block.followPt, hpt, hstep]

/-- The PT of a follower's tick leaves the time and every register but IC_STAT alone. -/
theorem followPt_now_get : b.followPt.now = b.now ∧ ∀ f : RegField, f.idx ≠ 0xCB → b.followPt.get f = b.get f := by
  unfold Block.followPt
  cases b.clock.sync.ptAdjust with
  | none => exact ⟨rfl, fun _ _ => rfl⟩
  | some pt =>
    cases hstep : b.clock.sync.ptStep with
    | none => exact ⟨rfl, fun _ _ => rfl⟩
    | some e => exact ⟨block_event_now .., fun f hf => block_event_get _ _ _ hf⟩

/-- The block of a tick once TB_FRAME has its number, PT started if it is tick 0, before a master's PT is taken (R87, R123). -/
def tickNumbered : Block :=
  if b.clock.ticked then b.set R.TB_FRAME.FRAME b.tickNext else (b.set R.TB_FRAME.FRAME b.tickNext).firstPt

theorem tickNumbered_ticked (h : b.clock.ticked = true) : tickNumbered b = b.set R.TB_FRAME.FRAME b.tickNext := if_pos h

theorem tickNumbered_first (h : b.clock.ticked = false) : tickNumbered b = (b.set R.TB_FRAME.FRAME b.tickNext).firstPt :=
  if_neg (by simp [h])

/-- What a tick stamps: the TIME clock and the PT it falls at, and ROW0_DELAY as it acts (R123, R129). -/
theorem stampTick_eq : b.stampTick = { (tickNumbered b).followPt with
    clock := { (tickNumbered b).followPt.clock with
      lastTick := (tickNumbered b).followPt.now, tickPt := (tickNumbered b).followPt.clock.pt, ticked := true,
      row0 := max 120 (min 1000 ((tickNumbered b).followPt.get R.TB_ROW0.ROW0_DELAY)) } } := by
  unfold Block.stampTick tickNumbered
  cases b.clock.ticked <;> rfl

theorem tickNumbered_now : (tickNumbered b).now = b.now := by
  unfold tickNumbered
  split
  · rfl
  · rw [firstPt_rest]; rfl

/-- TB_FRAME takes the next number, which starts again at 0 after 2^32 − 1 (R123, R124). -/
theorem tickNumbered_frame : (tickNumbered b).get R.TB_FRAME.FRAME = b.tickNext := by
  have hset : (b.set R.TB_FRAME.FRAME b.tickNext).get R.TB_FRAME.FRAME = b.tickNext := by
    rw [get_set_self _ _ _ rfl]
    exact Nat.mod_eq_of_lt (Nat.mod_lt _ (Nat.two_pow_pos 32))
  unfold tickNumbered
  split
  · exact hset
  · rw [firstPt_rest]; exact hset

/-- A tick stamps its number, its time and its PT, and takes ROW0_DELAY (R123, R129). -/
theorem stampTick_stamps : b.stampTick.get R.TB_FRAME.FRAME = b.tickNext ∧ b.stampTick.clock.lastTick = b.now ∧
    b.stampTick.clock.ticked = true ∧ b.stampTick.clock.tickPt = b.stampTick.clock.pt ∧ b.stampTick.now = b.now ∧
    120 ≤ b.stampTick.clock.row0 ∧ b.stampTick.clock.row0 ≤ 1000 := by
  obtain ⟨hnow, hget⟩ := followPt_now_get (tickNumbered b)
  have hn := hnow.trans (tickNumbered_now b)
  have hf := (hget R.TB_FRAME.FRAME (by decide)).trans (tickNumbered_frame b)
  rw [stampTick_eq]
  exact ⟨hf, hn, rfl, rfl, hn, by simp only []; omega, by simp only []; omega⟩

/-- The PT of a tick is what taking a master's PT leaves. -/
theorem stampTick_pt : b.stampTick.clock.pt = (tickNumbered b).followPt.clock.pt := by rw [stampTick_eq]

end

/-! ## The tick period in force (R27, R31, R142, R185) -/

section
variable (b : Block)

/-- The period that acts where enforcement does not lies within the limits of R142 and R185. -/
theorem ownPeriod_bounds : 125000 ≤ b.ownPeriod ∧ b.ownPeriod ≤ 4000000 := by
  unfold Block.ownPeriod Block.encMinSet Block.periodSet
  split <;> omega

theorem periodInForce_bounds : 125000 ≤ b.periodInForce ∧ b.periodInForce ≤ 4000000 := by
  have hown := ownPeriod_bounds b
  unfold Block.periodInForce Block.fallbackHeld
  split <;> omega

theorem ownPeriod_internal (hsrc : b.get R.TB_CTL.TICK_SRC = 0) : b.ownPeriod = b.periodSet := by
  simp [Block.ownPeriod, Block.encTicks, hsrc]

theorem periodInForce_notEnforced (h : b.thermal.enforced = false) : b.periodInForce = b.ownPeriod := by
  simp [Block.periodInForce, h]

/-- A unit that is no follower keeps the longer of its own period and FALLBACK_PERIOD under enforcement (R660, R663). -/
theorem periodInForce_enforced (h : b.thermal.enforced = true) (hfollower : b.follower = false) :
    b.periodInForce = max b.ownPeriod b.fallbackHeld := by
  simp [Block.periodInForce, h, hfollower]

theorem configAbort_rest : b.configAbort = { b with night := b.configAbort.night } := by
  unfold Block.configAbort
  split <;> rfl

/-- A commit window takes ENFORCING and FALLBACK_PERIOD as they stand there (R31). -/
theorem throttleRate_takes :
    b.throttleRate.thermal.enforced = b.flag R.TH_STATUS.ENFORCING ∧ b.throttleRate.thermal.fallback = b.get R.TH_FALLBACK.PERIOD := by
  unfold Block.throttleRate
  simp only []
  split
  · exact ⟨rfl, rfl⟩
  · rw [configAbort_rest]; exact ⟨rfl, rfl⟩

end

/-- Settles O50: the tick commands, when a tick of each source is due, the stamps, and the period in force. -/
theorem ticksFall : Obligations.TicksFall := by
  refine ⟨⟨fun dt inp s hs p hp => ?commands, fun b hsrc hticked hmode => ?internal, fun b hsrc hticked hmode => ?encoder,
      fun b hsrc hrole => ?notMaster, fun b => tickKind_beforeD5⟩,
    stampTick_stamps, fun b hticked hnone => ?countsOn, fun b pt e hticked hpt hstep => ?taken, fun b hfirst hnone => ?zero,
    fun b => ?period, throttleRate_takes⟩
  case commands =>
    have hexec : exec p.2 s = .next (s.result ((s.m.elapse dt).stepTick p.1 inp)) := by
      simp only [List.mem_cons, List.not_mem_nil, or_false] at hp
      rcases hp with rfl | rfl | rfl <;> exact run_result (Block.stepTick · _ inp) hs
    exact ⟨fun h => by rw [hexec, stepTick_due inp h], fun h => by rw [hexec, stepTick_notDue inp h]⟩
  case internal =>
    rw [tickKind_internal hsrc hticked hmode]
    exact ⟨fun h => if_pos h, fun h => if_neg (Nat.not_le.mpr h)⟩
  case encoder =>
    obtain ⟨hkind, hbase⟩ := tickKind_encoder hsrc hticked hmode
    rw [hkind, ← hbase]
    exact ⟨encTick_beforeMin hticked, fun hmin htarget =>
      ⟨fun t => encTick_reached hticked hmin htarget, encTick_notReached hticked hmin htarget⟩⟩
  case notMaster =>
    rw [tickKind_notMaster hsrc hrole]
    split <;> simp [*]
  case countsOn => rw [stampTick_pt, tickNumbered_ticked b hticked, followPt_none (b.set R.TB_FRAME.FRAME b.tickNext) hnone]; rfl
  case taken => rw [stampTick_pt, tickNumbered_ticked b hticked, followPt_step (b.set R.TB_FRAME.FRAME b.tickNext) hpt hstep]
  case zero =>
    obtain ⟨hpt, hrun, hadjust⟩ := firstPt_zero (b.set R.TB_FRAME.FRAME b.tickNext) hnone
    rw [stampTick_eq, tickNumbered_first b hfirst, followPt_none _ hadjust]
    exact ⟨hpt, hrun⟩
  case period =>
    refine ⟨(periodInForce_bounds b).1, (periodInForce_bounds b).2, fun hsrc henf => ?_, fun hsrc henf => ?_⟩
    · rw [periodInForce_notEnforced b henf, ownPeriod_internal b hsrc]; rfl
    · rw [periodInForce_enforced b henf (by simp [Block.follower, hsrc]), ownPeriod_internal b hsrc]; rfl

end Sys2Proof.Proofs
end

section
/-! PROOFS. Frames start, their slots are read, and the thermistor and column check (R126, R190, R194, R199, R203, R205, R210 to
R212, R216). -/

namespace Sys2Proof.Proofs

open Sys2Proof.Machine Sys2Proof.Laws

/-! ## Stores and reports in a frame -/

section
variable {a b : Block}

/-- A stored flag leaves every other flag as it was. -/
theorem flag_setFlag_other (b : Block) (f g : RegField) (v : Bool) (hf : fits f = true) (h : Apart f g) :
    (b.setFlag f v).flag g = b.flag g := by
  rw [Block.flag, get_setFlag_other _ _ _ _ hf h, Block.flag]

theorem frameEvent_reported (b : Block) (fr : Frame) (code : Nat) (payload : List Byte) : b.Reported (b.frameEvent fr code payload) :=
  emit_reported _ _ _ _

/-- A report made where a condition holds, and left out elsewhere. -/
theorem reported_ite {c : Prop} [Decidable c] (h : a.Reported b) : a.Reported (if c then b else a) := by
  split
  · exact h
  · exact reported_refl

/-- A report left out where a condition holds. -/
theorem reported_ite_not {c : Prop} [Decidable c] (h : a.Reported b) : a.Reported (if c then a else b) := by
  split
  · exact reported_refl
  · exact h

end

/-! ## The start of a frame (R29, R126, R205) -/

section
variable (b : Block)

/-- The frame of the last tick may start: frames may, it has not, and ROW0_DELAY has passed (R126). -/
def FrameDue : Prop := b.img.enabled = true ∧ b.clock.ticked = true ∧ b.power.mode = .run ∧
  b.img.lastStart ≠ some (b.get R.TB_FRAME.FRAME) ∧ b.clock.lastTick + 100 * b.clock.row0 ≤ b.now

/-- A frame with BIAS_CLIP as its first row finds it (R195). -/
def clipMarked (fr : Frame) : Frame := { fr with flags := { fr.flags with biasClip := fr.biasClips } }

/-- The block once a frame has started, before BIAS_CLIP (R205, R214, R249). -/
def frameStarted (fr : Frame) : Block :=
  ((b.setImg (fun x => { x with
    frames := x.frames ++ [fr], lastStart := some (b.get R.TB_FRAME.FRAME), reading := true, cpRun := true, restart := false })).setFlag
      R.FP_STATUS.READING true).setFlag R.CP_STATUS.RUNNING true

variable {b}

/-- FRAME_START when a frame is due: undefined behaviour where slots overlap, nothing while a frame is read, and else the frame
starts. -/
theorem stepFrameStart_due (h : FrameDue b) : b.stepFrameStart =
    if b.img.frames.any (fun x => decide (b.newFrame.startAt < x.startAt + x.slots * x.rowClocks)) then b.enterUndef .readoutMinimum
    else if b.img.frames.any (fun x => decide (x.slot < x.slots)) then b
    else (frameStarted b (clipMarked b.newFrame)).biasClip (clipMarked b.newFrame) := by
  obtain ⟨hen, hticked, hmode, hlast, htime⟩ := h
  have hlate : ¬ b.now < b.clock.lastTick + usec b.clock.row0 := Nat.not_lt.mpr htime
  unfold Block.stepFrameStart
  rw [if_neg (by simp [hen, hticked, hmode, hlast, hlate])]
  rfl

/-- With no frame in flight the frame starts. -/
theorem stepFrameStart_empty (h : FrameDue b) (hempty : b.img.frames = []) :
    b.stepFrameStart = (frameStarted b (clipMarked b.newFrame)).biasClip (clipMarked b.newFrame) := by
  rw [stepFrameStart_due h, hempty]
  rfl

/-- A frame whose slots would overlap those of one in flight is the undefined case of R205. -/
theorem stepFrameStart_overlap (h : FrameDue b) {x : Frame} (hx : x ∈ b.img.frames)
    (hover : b.newFrame.startAt < x.startAt + x.slots * x.rowClocks) : b.stepFrameStart = b.enterUndef .readoutMinimum := by
  rw [stepFrameStart_due h, if_pos (List.any_eq_true.mpr ⟨x, hx, decide_eq_true hover⟩)]

/-- BIAS_CLIP of a frame is its flag and its event (R195). -/
theorem biasClip_reported (b : Block) (fr : Frame) :
    ((b.setImg (fun x => { x with clipPrev := fr.biasClips })).setFlag R.FP_STATUS.BIAS_CLIP fr.biasClips).Reported (b.biasClip fr) :=
  reported_ite (frameEvent_reported _ _ _ _)

/-- What the start of a frame leaves: the frame is the last in flight, and FP and CP run (R214, R249). -/
theorem frameStarted_shows (fr : Frame) :
    ((frameStarted b fr).biasClip fr).img.frames = b.img.frames ++ [fr] ∧
    ((frameStarted b fr).biasClip fr).img.lastStart = some (b.get R.TB_FRAME.FRAME) ∧
    ((frameStarted b fr).biasClip fr).flag R.FP_STATUS.READING = true ∧
    ((frameStarted b fr).biasClip fr).flag R.CP_STATUS.RUNNING = true ∧ ((frameStarted b fr).biasClip fr).undef = b.undef := by
  have hrep := biasClip_reported (frameStarted b fr) fr
  have hflag : ∀ f : RegField, f.idx ≠ 0xCB → Apart R.FP_STATUS.BIAS_CLIP f →
      ((frameStarted b fr).biasClip fr).flag f = (frameStarted b fr).flag f := fun f hf ha =>
    (reported_flag hrep hf).trans (flag_setFlag_other _ R.FP_STATUS.BIAS_CLIP f _ rfl ha)
  refine ⟨by rw [reported_img hrep]; rfl, by rw [reported_img hrep]; rfl, ?_, ?_, by rw [reported_undef hrep]; rfl⟩
  · rw [hflag _ (by decide) (by decide), frameStarted, flag_setFlag_other _ _ _ _ rfl (by decide)]
    exact flag_setFlag_self _ _ true rfl rfl
  · rw [hflag _ (by decide) (by decide)]
    exact flag_setFlag_self _ _ true rfl rfl

end

/-! ## The slots of a frame (R190, R194, R216) -/

section
variable {b : Block}

/-- With every frame in flight read, none is being read once the web positions are latched. -/
theorem latchWps_readingFrame_none (h : ∀ x ∈ b.img.frames, x.slots ≤ x.slot) : b.latchWps.readingFrame = none := by
  refine List.find?_eq_none.mpr fun y hy => ?_
  obtain ⟨x, hx, hxy⟩ := List.mem_map.mp hy
  rw [if_pos (h x hx)] at hxy
  rw [← hxy, decide_eq_true_eq]
  exact Nat.not_lt.mpr (h x hx)

/-- ROW_SLOT with no frame being read: the row that IDLE reads, where it is due (R216). -/
theorem stepRowSlot_noFrame (inp : RowInput) (h : ∀ x ∈ b.img.frames, x.slots ≤ x.slot) :
    b.stepRowSlot inp = if b.idleRowDue then b.latchWps.idleRow inp else b.latchWps := by
  unfold Block.stepRowSlot
  simp only [latchWps_readingFrame_none h]
  rfl

theorem idleRowDue_notIdle (h : b.power.mode ≠ .idle) : b.idleRowDue = false := by
  simp [Block.idleRowDue, h]

theorem idleRowDue_idle (hmode : b.power.mode = .idle) (hticked : b.clock.ticked = true)
    (hlast : b.img.lastStart ≠ some (b.get R.TB_FRAME.FRAME))
    (htime : b.clock.lastTick + 100 * b.clock.row0 + 2 * rowTime (b.get R.FP_ROWCFG.ROW_TIME) ≤ b.now) : b.idleRowDue = true := by
  simp [Block.idleRowDue, hmode, hticked, hlast, usec, htime]

/-- ROW_SLOT at the end of a slot: ECC and bias, the slot's work, the slot is counted, and after the last one the frame ends. -/
theorem stepRowSlot_reading {inp : RowInput} {fr g h k : Frame} {x y : Block} (hreading : b.latchWps.readingFrame = some fr)
    (htime : fr.startAt + (fr.slot + 1) * fr.rowClocks ≤ b.now) (hecc : b.latchWps.slotEcc fr inp = (x, g))
    (hbias : x.slotBias g inp.bias = (y, h)) (hk : (y.slotWork h inp).readingFrame = some k) : b.stepRowSlot inp =
      if k.slot + 1 = k.slots then
        ((y.slotWork h inp).slotOpens { k with slot := k.slot + 1 }).frameEnd { k with slot := k.slot + 1 }
      else (y.slotWork h inp).slotOpens { k with slot := k.slot + 1 } := by
  have hended : ¬ b.latchWps.now < fr.startAt + (fr.slot + 1) * fr.rowClocks := Nat.not_lt.mpr htime
  -- A variable takes the place of `slotBias`: the kernel would count its bound of 12,750,000 down by ones.
  obtain ⟨bias, hB⟩ : ∃ f, f = Block.slotBias := ⟨_, rfl⟩
  unfold Block.stepRowSlot
  rw [← hB] at hbias ⊢
  simp only [hreading, hended, if_false, hecc, hbias, hk]
  rfl

/-- A slot opens a channel of the output with slot 2 and slot 6 alone (R690). -/
theorem slotOpens_other (b : Block) {fr : Frame} (htwo : fr.slot ≠ 2) (hsix : fr.slot ≠ 6) : b.slotOpens fr = b.setFrame fr :=
  if_neg (not_or.mpr ⟨htwo, hsix⟩)

end

/-! ## The bias amplitude of a slot (R199, R212) -/

section
variable (b : Block) (fr : Frame) (mv : Nat)

/-- The amplitude that a slot should show, in 1/255,000 mV: the level's in a pulse, 0 V in a slot without one (R199). -/
def biasWanted : Nat := if fr.pulsed fr.slot then bias255 (fr.get R.FP_BIAS.LEVEL) else 0

/-- The amplitude measured is more than 50 mV off (R212). -/
def BiasOff : Prop := biasWanted fr + 12750000 < 255000 * mv ∨ 255000 * mv + 12750000 < biasWanted fr

/-- A frame that keeps the amplitude measured in a slot with a pulse. -/
def biasKept : Frame := if fr.pulsed fr.slot then { fr with biasMv := mv } else fr

theorem biasKept_flags : (biasKept fr mv).flags = fr.flags := by
  unfold biasKept
  split <;> rfl

variable {b fr mv}

theorem slotBias_within (h : ¬ BiasOff fr mv) : b.slotBias fr mv = (b, biasKept fr mv) := if_neg h

/-- An amplitude out of range is BIAS_FAULT, reported once (R212). -/
theorem slotBias_off (h : BiasOff fr mv) :
    ((b.setImg (fun x => { x with biasFault := true })).setFlag R.FP_STATUS.BIAS_FAULT true).Reported (b.slotBias fr mv).1 ∧
    (b.slotBias fr mv).2.flags.biasFault = true := by
  have heq : b.slotBias fr mv =
      (if b.img.biasFault then (b.setImg (fun x => { x with biasFault := true })).setFlag R.FP_STATUS.BIAS_FAULT true
        else ((b.setImg (fun x => { x with biasFault := true })).setFlag R.FP_STATUS.BIAS_FAULT true).frameEvent (biasKept fr mv) 0x0204
          (leBytes 2 mv),
        { biasKept fr mv with flags := { (biasKept fr mv).flags with biasFault := true } }) := if_pos h
  rw [heq]
  exact ⟨reported_ite_not (frameEvent_reported _ _ _ _), rfl⟩

end

/-! ## The thermistor and the column check (R203, R210, R211) -/

section
variable {b : Block} {sum : Nat}

/-- The temperature of a thermistor sum as the record format holds it (R203). -/
def tfpaHeld (sum : Nat) : Int := clampInt (-32768) 32767 (Config.tfpaOf sum)

/-- What a good thermistor reading stores, before TFPA_FAULT_END (R203, R211). -/
def tfpaTaken (sum : Nat) (b : Block) : Block :=
  (((b.set R.FP_TFPA.RAW (min 16383 (roundDiv sum 16))).setImg (fun x => { x with tfpaFault := false, lastGood := tfpaHeld sum })).set
    R.FP_TFPA.TFPA (unsigned 16 (tfpaHeld sum))).setBrk (fun x => { x with measured := tfpaHeld sum })

/-- What a faulty reading stores, before TFPA_FAULT (R211). -/
def tfpaRefused (sum : Nat) (b : Block) : Block :=
  ((b.set R.FP_TFPA.RAW (min 16383 (roundDiv sum 16))).setImg (fun x => { x with tfpaFault := true })).setFlag R.FP_STATUS.TFPA_FAULT true

theorem thermistor_good (n : Nat) (hlo : 4096 ≤ sum) (hhi : sum ≤ 258032) :
    (b.thermistor n sum).2 = tfpaHeld sum ∧ (tfpaTaken sum b).Reported (b.thermistor n sum).1 := by
  have hin : ¬ (sum < 16 * 256 ∨ 16 * 16127 < sum) := by omega
  unfold Block.thermistor
  simp only [hin, if_false]
  exact ⟨rfl, reported_ite (emit_reported _ _ _ _)⟩

theorem thermistor_faulty (n : Nat) (h : sum < 4096 ∨ 258032 < sum) :
    (b.thermistor n sum).2 = b.img.lastGood ∧ (tfpaRefused sum b).Reported (b.thermistor n sum).1 := by
  have hout : sum < 16 * 256 ∨ 16 * 16127 < sum := h
  unfold Block.thermistor
  simp only [hout, if_true]
  exact ⟨rfl, reported_ite_not (emit_reported _ _ _ _)⟩

theorem tfpaTaken_tfpa : (tfpaTaken sum b).get R.FP_TFPA.TFPA = unsigned 16 (tfpaHeld sum) := by
  have hlt : unsigned 16 (tfpaHeld sum) < 2 ^ 16 := by
    unfold unsigned
    omega
  exact (get_set_self _ R.FP_TFPA.TFPA _ rfl).trans (Nat.mod_eq_of_lt hlt)

theorem tfpaRefused_tfpa : (tfpaRefused sum b).get R.FP_TFPA.TFPA = b.get R.FP_TFPA.TFPA :=
  (get_setFlag_other _ R.FP_STATUS.TFPA_FAULT R.FP_TFPA.TFPA true rfl (by decide)).trans
    (get_set_other b R.FP_TFPA.RAW R.FP_TFPA.TFPA _ rfl (by decide))

/-- The read columns whose code lies outside 8,192 ± 64 (R210). -/
def faultyColumns (codes : List Nat) : List Nat :=
  (List.range 1040).filter (fun c => decide (codes.getD c 0 < 8128 ∨ 8256 < codes.getD c 0))

/-- FP_COLFAULT of a column check, with the columns kept in the frame (R210). -/
def columnsCounted (b : Block) (fr : Frame) (bad : List Nat) : Block :=
  ((b.setFrame { fr with faulty := bad }).set R.FP_COLFAULT.COUNT bad.length).set R.FP_COLFAULT.FIRST (bad.headD 0)

theorem columnsCounted_count (fr : Frame) (codes : List Nat) :
    (columnsCounted b fr (faultyColumns codes)).get R.FP_COLFAULT.COUNT = (faultyColumns codes).length := by
  have hlen : (faultyColumns codes).length ≤ 1040 := (List.length_filter_le _ _).trans_eq List.length_range
  rw [columnsCounted, get_set_other _ _ _ _ rfl (by decide), get_set_self _ _ _ rfl]
  exact Nat.mod_eq_of_lt (lt_of_le_of_lt hlen (by decide))

theorem columnCheck_eq (fr : Frame) (codes : List Nat) : b.columnCheck fr codes =
    if (faultyColumns codes).isEmpty then columnsCounted b fr (faultyColumns codes)
    else ((columnsCounted b fr (faultyColumns codes)).setFlag R.FP_STATUS.COL_FAULT true).frameEvent fr 0x0201
      (leBytes 2 (faultyColumns codes).length ++ leBytes 2 ((faultyColumns codes).headD 0)) := by
  simp only [Block.columnCheck, columnsCounted, faultyColumns, Bool.decide_or]

/-- The column check counts the faulty columns, and with any of them sets COL_FAULT (R210). -/
theorem columnCheck_shows (fr : Frame) (codes : List Nat) :
    (b.columnCheck fr codes).get R.FP_COLFAULT.COUNT = (faultyColumns codes).length ∧
    (faultyColumns codes ≠ [] → (b.columnCheck fr codes).flag R.FP_STATUS.COL_FAULT = true) := by
  rw [columnCheck_eq]
  split
  · exact ⟨columnsCounted_count fr codes, fun hne => absurd (List.isEmpty_iff.mp ‹_›) hne⟩
  · have hrep := frameEvent_reported ((columnsCounted b fr (faultyColumns codes)).setFlag R.FP_STATUS.COL_FAULT true) fr 0x0201
      (leBytes 2 (faultyColumns codes).length ++ leBytes 2 ((faultyColumns codes).headD 0))
    refine ⟨?_, fun _ => ?_⟩
    · rw [reported_get hrep (by decide), get_setFlag_other _ _ _ _ rfl (by decide), columnsCounted_count]
    · rw [reported_flag hrep (by decide), flag_setFlag_self _ _ true rfl rfl]

end

/-- Settles O55: the start of a frame, the row slots, the bias amplitude, the thermistor and the column check. -/
theorem framesAreRead : Obligations.FramesAreRead := by
  refine ⟨fun dt fr s hs hen hticked hmode hlast htime hfr => ?start, fun dt inp s hs hread hmode => ?nothing,
    fun dt inp s hs hread hmode hticked hlast htime => ?idle,
    fun dt inp fr g h x y z s hs hreading htime hecc hbias hz => ?slot, fun b fr => slotOpens_other b,
    fun b fr mv want hwant => ?bias, fun b n sum hlo hhi T hT => ?good, fun b n sum hout => ?faulty,
    fun b fr codes bad hbad => ?columns⟩
  case start =>
    subst hfr
    have hdue : FrameDue (s.m.elapse dt) := ⟨hen, hticked, hmode, hlast, htime⟩
    have hexec : exec (.frameStart dt) s = .next (s.result (s.m.elapse dt).stepFrameStart) := run_result _ hs
    refine ⟨fun hempty => ⟨_, hexec, ?_⟩, fun x hx hover => by rw [hexec, stepFrameStart_overlap hdue hx hover]⟩
    obtain ⟨hframes, hstart, hreading, hrunning, hundef⟩ := frameStarted_shows (b := s.m.elapse dt) (clipMarked (s.m.elapse dt).newFrame)
    rw [stepFrameStart_empty hdue hempty, result_m (hundef.trans hs)]
    exact ⟨by rw [hframes, block_elapse_img, hempty]; rfl, hstart, hreading, hrunning⟩
  case nothing =>
    refine (run_result (Block.stepRowSlot · inp) hs).trans ?_
    rw [stepRowSlot_noFrame (b := s.m.elapse dt) inp hread, idleRowDue_notIdle (b := s.m.elapse dt) hmode]
    rfl
  case idle =>
    refine (run_result (Block.stepRowSlot · inp) hs).trans ?_
    rw [stepRowSlot_noFrame (b := s.m.elapse dt) inp hread, idleRowDue_idle (b := s.m.elapse dt) hmode hticked hlast htime]
    rfl
  case slot =>
    subst hz
    have hexec : exec (.rowSlot dt inp) s = .next (s.result ((s.m.elapse dt).stepRowSlot inp)) := run_result (Block.stepRowSlot · inp) hs
    refine ⟨fun k hk hmore => ?_, fun k hk hlast => ?_⟩ <;> rw [hexec, stepRowSlot_reading hreading htime hecc hbias hk]
    · rw [if_neg hmore.ne]
    · rw [if_pos hlast]
  case bias =>
    subst hwant
    refine ⟨fun hoff => ?_, fun hhi hlo => ?_⟩
    · obtain ⟨hrep, hframe⟩ := slotBias_off (b := b) (fr := fr) (mv := mv) hoff
      exact ⟨by rw [reported_flag hrep (by decide), flag_setFlag_self _ _ true rfl rfl], by rw [reported_img hrep]; rfl, hframe⟩
    · have hin : ¬ BiasOff fr mv := not_or.mpr ⟨Nat.not_lt.mpr hhi, Nat.not_lt.mpr hlo⟩
      rw [slotBias_within hin]
      exact ⟨rfl, biasKept_flags fr mv⟩
  case good =>
    subst hT
    obtain ⟨hT, hrep⟩ := thermistor_good (b := b) n hlo hhi
    refine ⟨hT, ?_, ?_, ?_, ?_⟩
    · rw [reported_get hrep (by decide), tfpaTaken_tfpa]; rfl
    · rw [reported_img hrep]; rfl
    · rw [reported_img hrep]; rfl
    · rw [reported_brk hrep]; rfl
  case faulty =>
    obtain ⟨hT, hrep⟩ := thermistor_faulty (b := b) n hout
    refine ⟨hT, ?_, ?_, ?_, ?_⟩
    · rw [reported_get hrep (by decide), tfpaRefused_tfpa]
    · rw [reported_img hrep]; rfl
    · rw [reported_flag hrep (by decide)]; exact flag_setFlag_self _ _ true rfl rfl
    · rw [reported_brk hrep]; rfl
  case columns =>
    rw [show bad = faultyColumns codes from hbad]
    exact columnCheck_shows fr codes

end Sys2Proof.Proofs
end

section
/-! PROOFS. Loss of the clock, the thresholds of a sample, throttle enforcement and the model reset (R27, R80, R137, R654, R655, R659,
R660, R662, R673, R676). -/

namespace Sys2Proof.Proofs

open Sys2Proof.Machine Sys2Proof.Laws

/-! ## Loss of the clock (R80, R137) -/

section
variable {b : Block} {lost : Bool}

/-- When REF can be lost, or a PLL that has locked unlock. -/
theorem clockMayFail_iff : b.clockMayFail lost = true ↔ (b.power.mode = .run ∨ b.power.mode = .idle) ∧ b.phase ≠ 0 ∧
    (if lost then b.flag R.TB_STATUS.REF_LOST = false else b.flag R.TB_STATUS.PLL_LOCK = true) := by
  cases lost <;> simp [Block.clockMayFail, and_assoc]

/-- CLOCK_FAIL where the clock may fail: its bit, its event, and a Dusk. -/
theorem stepClockFail_lost (h : b.clockMayFail lost = true) : b.stepClockFail lost =
    ((if lost then b.setFlag R.TB_STATUS.REF_LOST true else b.setFlag R.TB_STATUS.PLL_LOCK false).event 0x0109
      (leBytes 1 (bit (!lost)))).startDusk .clock := by
  simp [Block.stepClockFail, h]

theorem stepClockFail_ignored (h : b.clockMayFail lost = false) : b.stepClockFail lost = b := by
  simp [Block.stepClockFail, h]

end

/-! ## The commit window, the end of grace and enforcement (R27, R659, R660, R663) -/

section
variable {b : Block}

/-- The commit window of the last tick lasts ROW0_DELAY (R27). -/
theorem inWindow_iff : b.inWindow = true ↔ b.clock.ticked = true ∧ b.now < b.clock.lastTick + 100 * b.clock.row0 := by
  rw [Block.inWindow, Bool.and_eq_true, decide_eq_true_eq]
  rfl

theorem graceOver_iff : b.graceOver = true ↔
    b.inWindow = true ∧ ∃ t, b.thermal.graceEnd = some t ∧ ptReached b.clock.tickPt t = true := by
  unfold Block.graceOver
  cases b.thermal.graceEnd <;> simp

theorem stepThrottle_over (h : b.graceOver = true) : b.stepThrottle = b.stepGraceEnd.budgetPlan := if_pos h

theorem stepThrottle_notOver (h : b.graceOver = false) : b.stepThrottle = b := if_neg (by simp [h])

/-- At the end of grace enforcement begins while THROTTLE is in force and the period is shorter, and else REQUESTED clears (R659,
R660). -/
theorem stepGraceEnd_eq {x : Block} (hx : x = b.setTh (fun y => { y with graceEnd := none })) : b.stepGraceEnd =
    if b.flag R.TH_STATUS.THROTTLE = true ∧ b.periodInForce < b.fallbackHeld then
      x.enforce.event 0x0806 (leBytes 4 x.enforce.periodInForce)
    else x.setFlag R.TH_STATUS.REQUESTED false := by
  rw [hx]; rfl

/-- The period that acts where enforcement does not is one of the fields outside TH_STATUS. -/
theorem ownPeriod_congr {a : Block} (h : ∀ f : RegField, f.idx ≠ 0x1C → a.get f = b.get f) : a.ownPeriod = b.ownPeriod := by
  have henc : a.encTicks = b.encTicks := by
    simp only [Block.encTicks, Block.flag, h R.TB_CTL.TICK_SRC (by decide), h R.TB_SYNC_STATUS.ROLE (by decide),
      h R.TB_SYNC_CTL.MASTER_SRC (by decide)]
  simp only [Block.ownPeriod, henc, Block.encMinSet, Block.periodSet, h R.TB_ENC_LIM.MIN_PERIOD (by decide),
    h R.TB_PERIOD.PERIOD (by decide)]

theorem follower_congr {a : Block} (h : ∀ f : RegField, f.idx ≠ 0x1C → a.get f = b.get f) : a.follower = b.follower := by
  simp only [Block.follower, h R.TB_CTL.TICK_SRC (by decide), h R.TB_SYNC_STATUS.ROLE (by decide)]

/-- Enforcement stores ENFORCING alone in the registers. -/
theorem enforce_regs (b : Block) : b.enforce.regs = (b.setFlag R.TH_STATUS.ENFORCING true).regs := by
  unfold Block.enforce
  rw [configAbort_rest]
  rfl

theorem enforce_get {f : RegField} (hf : f.idx ≠ 0x1C) : b.enforce.get f = b.get f :=
  (get_congr (enforce_regs b) f).trans (get_setFlag_other b R.TH_STATUS.ENFORCING f true rfl (.inl hf.symm))

theorem enforce_enforcing (b : Block) : b.enforce.enforcing = true := by
  rw [Block.enforcing, Block.flag, get_congr (enforce_regs b)]
  exact flag_setFlag_self b R.TH_STATUS.ENFORCING true rfl rfl

/-- On a follower, which cannot lengthen its period, enforcement halves the work clock instead (R663). -/
theorem enforce_thermal (b : Block) : b.enforce.thermal = { b.thermal with
    enforced := true, work := if b.follower = true ∧ b.thermal.work = (1, 1) then (1, 2) else b.thermal.work } := by
  have hfollower : (b.setFlag R.TH_STATUS.ENFORCING true).follower = b.follower :=
    follower_congr fun f hf => get_setFlag_other b R.TH_STATUS.ENFORCING f true rfl (.inl hf.symm)
  unfold Block.enforce
  rw [configAbort_rest, ← hfollower]
  rfl

/-- Elsewhere the longer of the period and FALLBACK_PERIOD is in force from there on (R660). -/
theorem enforce_periodInForce (h : b.follower = false) : b.enforce.periodInForce = max b.ownPeriod b.fallbackHeld := by
  have hfollower : b.enforce.follower = false := (follower_congr fun _ => enforce_get).trans h
  have hheld : b.enforce.fallbackHeld = b.fallbackHeld := by
    rw [Block.fallbackHeld, enforce_thermal, Block.fallbackHeld]
  rw [periodInForce_enforced _ (by rw [enforce_thermal]) hfollower, hheld, ownPeriod_congr fun _ => enforce_get]

end

/-! ## The model starts again (R673) -/

section
variable {b : Block}

theorem stepModelReset_due (hmismatch : 16 ≤ b.thermal.mismatch) (hwindow : b.inWindow = true) : b.stepModelReset =
    ((b.startModel.latchModel true).event 0x0809
      (leBytes 2 (b.get R.FP_TFPA.TFPA) ++ leBytes 2 (unsigned 16 (Config.quantise (256 * b.thermal.ts))))).tickDecide := by
  simp [Block.stepModelReset, Block.modelResetDue, hmismatch, hwindow]

theorem stepModelReset_notDue (h : b.thermal.mismatch < 16 ∨ b.inWindow = false) : b.stepModelReset = b := by
  rcases h with h | h <;> simp [Block.stepModelReset, Block.modelResetDue, h]

/-- A model that starts again takes TS from TFPA, and PRED_H equals PRED_0. -/
theorem startModel_latched (b : Block) :
    (b.startModel.latchModel true).thermal.latchedH = (b.startModel.latchModel true).thermal.latched0 ∧
    (b.startModel.latchModel true).thermal.ts = b.tfpaC ∧ (b.startModel.latchModel true).thermal.mismatch = 0 := ⟨rfl, rfl, rfl⟩

end

/-! ## The thresholds of a sample (R655, R662, R676) -/

section
variable {b : Block} {t : Int} {site : Nat}

/-- A threshold whose flag is stored and reported reads what was stored. -/
theorem setFlag_event_flag (b : Block) (f : RegField) (v : Bool) (code : Nat) (payload : List Byte) (hf : fits f = true) (hw : f.width = 1)
    (hi : f.idx ≠ 0xCB) : ((b.setFlag f v).event code payload).flag f = v := by
  rw [block_event_flag _ _ _ hi, flag_setFlag_self _ _ _ hf hw]

theorem thresholdWarn_below (hwarn : b.flag R.TH_STATUS.WARN = false) (ht : t < b.thWarn) (site : Nat) : b.thresholdWarn t site = b := by
  simp [Block.thresholdWarn, hwarn, Int.not_le.mpr ht]

/-- WARN comes into force at its value. -/
theorem thresholdWarn_enters (hwarn : b.flag R.TH_STATUS.WARN = false) :
    (b.thresholdWarn t site).flag R.TH_STATUS.WARN = decide (b.thWarn ≤ t) := by
  by_cases ht : b.thWarn ≤ t
  · simp [Block.thresholdWarn, hwarn, ht, setFlag_event_flag _ R.TH_STATUS.WARN _ _ _ rfl rfl (by decide)]
  · rw [thresholdWarn_below hwarn (Int.not_le.mp ht), hwarn, decide_eq_false ht]

/-- WARN leaves force below its value less WARN_HYST. -/
theorem thresholdWarn_leaves (hwarn : b.flag R.TH_STATUS.WARN = true) :
    (b.thresholdWarn t site).flag R.TH_STATUS.WARN = decide (b.thWarn - hyst (b.get R.TH_HYST.WARN_HYST) ≤ t) := by
  by_cases ht : t < b.thWarn - hyst (b.get R.TH_HYST.WARN_HYST)
  · rw [decide_eq_false (Int.not_le.mpr ht)]
    simp [Block.thresholdWarn, hwarn, ht, setFlag_event_flag _ R.TH_STATUS.WARN _ _ _ rfl rfl (by decide)]
  · rw [decide_eq_true (Int.not_lt.mp ht)]
    simp [Block.thresholdWarn, hwarn, ht]

/-- THROTTLE in force is shown, with or without a request (R659). -/
theorem throttleOn_throttle (b : Block) (t : Int) (site : Nat) : (b.throttleOn t site).flag R.TH_STATUS.THROTTLE = true := by
  have hon : ∀ code payload, ((b.setFlag R.TH_STATUS.THROTTLE true).event code payload).flag R.TH_STATUS.THROTTLE = true :=
    fun _ _ => setFlag_event_flag _ _ _ _ _ rfl rfl (by decide)
  unfold Block.throttleOn
  simp only []
  split
  · rw [block_event_flag _ _ _ (by decide)]
    exact (flag_setFlag_other _ R.TH_STATUS.REQUESTED R.TH_STATUS.THROTTLE true rfl (by decide)).trans (hon _ _)
  · exact hon _ _

/-- THROTTLE leaving force clears the request, enforcement and the grace with it (R655, R662). -/
theorem throttleOff_clears (b : Block) (t : Int) : (b.throttleOff t).flag R.TH_STATUS.THROTTLE = false ∧
    (b.throttleOff t).flag R.TH_STATUS.REQUESTED = false ∧ (b.throttleOff t).enforcing = false ∧
    (b.throttleOff t).thermal.graceEnd = none := by
  have hflag : ∀ f : RegField, f.idx ≠ 0xCB → (b.throttleOff t).flag f =
      (((b.setFlag R.TH_STATUS.THROTTLE false).setFlag R.TH_STATUS.REQUESTED false).setFlag R.TH_STATUS.ENFORCING false).flag f :=
    fun f hf => block_event_flag _ _ _ hf
  refine ⟨?_, ?_, (hflag _ (by decide)).trans (flag_setFlag_self _ _ false rfl rfl), congrArg Thermal.graceEnd (block_event_thermal ..)⟩
  · rw [hflag _ (by decide), flag_setFlag_other _ _ _ _ rfl (by decide), flag_setFlag_other _ _ _ _ rfl (by decide),
      flag_setFlag_self _ _ _ rfl rfl]
  · rw [hflag _ (by decide), flag_setFlag_other _ _ _ _ rfl (by decide), flag_setFlag_self _ _ _ rfl rfl]

theorem thresholdThrottle_off (hthr : b.flag R.TH_STATUS.THROTTLE = false) :
    b.thresholdThrottle t site = if b.thThrottle ≤ t then b.throttleOn t site else b := by
  simp [Block.thresholdThrottle, hthr]

theorem thresholdThrottle_on (hthr : b.flag R.TH_STATUS.THROTTLE = true) :
    b.thresholdThrottle t site = if t < b.thThrottle - hyst (b.get R.TH_HYST.THR_HYST) then b.throttleOff t else b := by
  simp [Block.thresholdThrottle, hthr]

/-- THROTTLE comes into force at its value. -/
theorem thresholdThrottle_enters (hthr : b.flag R.TH_STATUS.THROTTLE = false) :
    (b.thresholdThrottle t site).flag R.TH_STATUS.THROTTLE = decide (b.thThrottle ≤ t) := by
  rw [thresholdThrottle_off hthr]
  split
  · rw [throttleOn_throttle, decide_eq_true ‹_›]
  · rw [hthr, decide_eq_false ‹_›]

/-- THROTTLE leaves force below its value less THR_HYST. -/
theorem thresholdThrottle_leaves (hthr : b.flag R.TH_STATUS.THROTTLE = true) : (b.thresholdThrottle t site).flag R.TH_STATUS.THROTTLE =
    decide (b.thThrottle - hyst (b.get R.TH_HYST.THR_HYST) ≤ t) := by
  rw [thresholdThrottle_on hthr]
  split
  · rw [(throttleOff_clears b t).1, decide_eq_false (Int.not_le.mpr ‹_›)]
  · rw [hthr, decide_eq_true (Int.not_lt.mp ‹_›)]

/-- SHUTDOWN is reached at its value, SD_HYST lower while the shutdown mark is set (R676). -/
theorem shutdownReached_eq (b : Block) (t : Int) : b.shutdownReached t = decide
    ((if b.flag R.TH_STATUS.SD_MARK then b.thShutdown - hyst (b.get R.TH_HYST.SD_HYST) else b.thShutdown) ≤ t) := by
  unfold Block.shutdownReached Block.thLowered
  split <;> rfl

/-- The end of a sample, once the block keeps whether SHUTDOWN is reached: its event, or the mark clears below SD_HYST (R655,
R676). -/
def sampleEnd (was : Bool) (t : Int) (site : Nat) (b : Block) : Block × Bool :=
  if b.thermal.hot then (if was then b else b.event 0x0807 (tjBytes t ++ leBytes 1 site), true)
  else if b.flag R.TH_STATUS.SD_MARK ∧ t < b.thLowered then (b.setFlag R.TH_STATUS.SD_MARK false, false)
  else (b, false)

/-- Every sample ends so. -/
theorem thermalSample_sampleEnd (b : Block) (sites : List Int) :
    ∃ was t site c, b.thermalSample sites = sampleEnd was t site c := ⟨_, _, _, _, rfl⟩

/-- The answer of a sample says whether SHUTDOWN is reached, which the block keeps (R655). -/
theorem sampleEnd_hot (was : Bool) (b : Block) : (sampleEnd was t site b).2 = (sampleEnd was t site b).1.thermal.hot := by
  unfold sampleEnd
  cases hhot : b.thermal.hot with
  | true => cases was <;> simp [hhot]
  | false =>
    simp only [Bool.false_eq_true, if_false]
    split <;> simp [hhot]

theorem thermalSample_hot (b : Block) (sites : List Int) : (b.thermalSample sites).2 = (b.thermalSample sites).1.thermal.hot := by
  obtain ⟨was, t, site, c, h⟩ := thermalSample_sampleEnd b sites
  rw [h, sampleEnd_hot]

end

/-- Settles O51: CLOCK_FAIL, the end of grace, enforcement, the model reset and the thresholds, each in and out of its case. -/
theorem clockThrottleModelEvents : Obligations.ClockThrottleModelEvents := by
  refine ⟨⟨fun dt lost s hs hmode hphase hbit => ?lost, fun dt lost s hs hnot => ?notLost,
      fun dt t x s hs hgrace hreached hticked hwindow hx => ?graceEnds, fun dt s hs hnot => ?graceGoesOn,
      fun b => ⟨by rw [enforce_thermal], enforce_enforcing b, fun hfollower hwork => by simp [enforce_thermal, hfollower, hwork],
        fun hfollower => ⟨by simp [enforce_thermal, hfollower], enforce_periodInForce hfollower⟩⟩,
      fun dt s hs hticked hwindow hmismatch => ?model, fun dt s hs hnot => ?noModel, startModel_latched⟩,
    fun b t site => ⟨thresholdWarn_enters, thresholdWarn_leaves, thresholdThrottle_enters, thresholdThrottle_leaves⟩,
    fun b t => thresholdWarn_below, fun b t hthr ht site => ?cleared, shutdownReached_eq, thermalSample_hot⟩
  case lost =>
    refine (run_result (Block.stepClockFail · lost) hs).trans ?_
    rw [stepClockFail_lost (b := s.m.elapse dt) (clockMayFail_iff.mpr ⟨hmode, hphase, hbit⟩)]
  case notLost =>
    have hstays : s.m.clockMayFail lost = false := Bool.eq_false_iff.mpr fun hmay => by
      obtain ⟨hmode, hphase, hbit⟩ := clockMayFail_iff.mp hmay
      rcases hnot with ⟨hrun, hidle⟩ | hzero | hset
      · exact hmode.elim hrun hidle
      · exact hphase hzero
      · cases lost <;> simp_all
    refine (run_result (Block.stepClockFail · lost) hs).trans ?_
    rw [stepClockFail_ignored (b := s.m.elapse dt) hstays]
  case graceEnds =>
    have hover : (s.m.elapse dt).graceOver = true := graceOver_iff.mpr ⟨inWindow_iff.mpr ⟨hticked, hwindow⟩, t, hgrace, hreached⟩
    refine (run_result Block.stepThrottle hs).trans ?_
    rw [stepThrottle_over hover, stepGraceEnd_eq hx, apply_ite Block.budgetPlan]
    rfl
  case graceGoesOn =>
    have hstays : (s.m.elapse dt).graceOver = false := Bool.eq_false_iff.mpr fun hover => by
      obtain ⟨hin, u, hu, hreached⟩ := graceOver_iff.mp hover
      rcases hnot with hnone | hclosed | ⟨t, ht, hnotReached⟩
      · cases hu.symm.trans hnone
      · exact Nat.not_lt.mpr hclosed (inWindow_iff.mp hin).2
      · cases hu.symm.trans ht
        cases hreached.symm.trans hnotReached
    refine (run_result Block.stepThrottle hs).trans ?_
    rw [stepThrottle_notOver hstays]
  case model =>
    refine (run_result Block.stepModelReset hs).trans ?_
    rw [stepModelReset_due (b := s.m.elapse dt) hmismatch (inWindow_iff.mpr ⟨hticked, hwindow⟩)]
    rfl
  case noModel =>
    refine (run_result Block.stepModelReset hs).trans ?_
    rw [stepModelReset_notDue (b := s.m.elapse dt) (hnot.imp_right fun hclosed => Bool.eq_false_iff.mpr fun hin =>
      Nat.not_lt.mpr hclosed (inWindow_iff.mp hin).2)]
  case cleared =>
    rw [thresholdThrottle_on hthr, if_pos ht]
    exact (throttleOff_clears b t).2

end Sys2Proof.Proofs
end

section
/-! PROOFS. Zone close, publication, the limit states and tentative bindings (R127, R128, R318, R327, R336, R348). -/

namespace Sys2Proof.Proofs

open Sys2Proof.Machine Sys2Proof.Laws

/-! ## Zone close (R127) -/

section
variable {b : Block}

/-- Outside a Midnight cycle no frame is verified (R297). -/
theorem nightVerify_notRunning (fr : Frame) (h : b.night.running = false) : b.nightVerify fr = b := if_pos (by simp [h])

/-- A frame whose zones close: the statistics of its admitted zones are final (R127, R324). -/
def zonesClosed (ecc : List Nat) (trendEcc : List (Nat × Nat)) (now : Nat) (fr : Frame) : Frame :=
  { fr with closed := true, closedAt := now, zones := fr.admitted.map (fun z => (z, fr.closeZone ecc trendEcc z)) }

/-- ZONE_CLOSE closes the zones of the oldest frame read. -/
theorem stepZoneClose_closing {fr : Frame} (ecc : List Nat) (trendEcc : List (Nat × Nat)) (h : b.closing = some fr)
    (hnight : b.night.running = false) : b.stepZoneClose ecc trendEcc = b.setImg (fun x => { x with
      frames := mapFirst (fun x => x.n == fr.n) (fun _ => zonesClosed ecc trendEcc b.now fr) x.frames }) := by
  unfold Block.stepZoneClose
  rw [h]
  exact nightVerify_notRunning _ hnight

theorem stepZoneClose_none (ecc : List Nat) (trendEcc : List (Nat × Nat)) (h : b.closing = none) : b.stepZoneClose ecc trendEcc = b := by
  unfold Block.stepZoneClose
  rw [h]

end

/-! ## Publication (R128, R313, R331, R348) -/

section
variable {b : Block} {fr : Frame} {rest : List Frame}

/-- The block once the oldest frame has left the frames in flight; after a published one the next is not the first for the zones
(R346). -/
def frameDropped (fr : Frame) (rest : List Frame) (b : Block) : Block :=
  ({ b with img := { b.img with frames := rest } }).setZe (fun x => { x with fresh := (fr.first || b.zones.fresh) && !fr.published })

/-- PUBLICATION of a closed frame drops it, and publishes it unless it is one of a Dawn Midnight cycle (R128, R313). -/
theorem stepPublication_closed (hframes : b.img.frames = fr :: rest) (hclosed : fr.closed = true) : b.stepPublication =
    if fr.published then (frameDropped fr rest b).publish { fr with first := fr.first || b.zones.fresh } else frameDropped fr rest b := by
  unfold Block.stepPublication
  rw [hframes]
  exact if_neg (by simp [hclosed])

/-- While the oldest frame is not closed nothing is published. -/
theorem stepPublication_notClosed (h : ∀ fr ∈ b.img.frames.head?, fr.closed = false) : b.stepPublication = b := by
  unfold Block.stepPublication
  cases hframes : b.img.frames with
  | nil => rfl
  | cons fr rest => exact if_pos (by simp [h fr (by simp [hframes])])

/-- The stop of CP leaves the frames in flight, the zones and every register but CP_STATUS alone (R249). -/
theorem cpStop_kept (b : Block) : b.cpStop.img.frames = b.img.frames ∧ b.cpStop.zones = b.zones ∧ b.cpStop.undef = b.undef ∧
    ∀ f : RegField, f.idx ≠ 0x41 → b.cpStop.get f = b.get f := by
  unfold Block.cpStop
  split
  · exact ⟨rfl, rfl, rfl, fun f hf => get_setFlag_other _ R.CP_STATUS.RUNNING f false rfl (.inl hf.symm)⟩
  · exact ⟨rfl, rfl, rfl, fun _ _ => rfl⟩

/-- The registers of zones hold the frame published: its number, and whether the Safety net was in force and zones were shed. -/
theorem publishRegs_shows (b : Block) (fr : Frame) : (b.publishRegs fr).get R.ZN_PUB_FRAME.FRAME = fr.n % 2 ^ 32 ∧
    (b.publishRegs fr).flag R.ZN_STATUS.SAFETY_NET = fr.flags.safetyNet ∧
    (b.publishRegs fr).flag R.ZN_STATUS.SHED_LAST = !fr.shed.isEmpty := by
  have hlater : ∀ f : RegField, f.idx ∉ [0x23, 0x47, 0x53, 0x54] → (b.publishRegs fr).get f =
      (((b.set R.ZN_PUB_FRAME.FRAME fr.n).setFlag R.ZN_STATUS.SAFETY_NET fr.flags.safetyNet).setFlag R.ZN_STATUS.SHED_LAST
        (!fr.shed.isEmpty)).get f := by
    intro f hf
    simp only [List.mem_cons, List.not_mem_nil, or_false, not_or] at hf
    obtain ⟨hstatus, hframe, hshed, hcount⟩ := hf
    unfold Block.publishRegs
    simp only []
    rw [get_set_other _ R.ZN_COUNT.ADMITTED _ _ rfl (.inl (Ne.symm hcount)),
      get_setFlag_other _ R.TB_STATUS.LATE_PUB _ _ rfl (.inl (Ne.symm hstatus)),
      get_set_other _ R.CP_FRAMESTAT.NOVALUE _ _ rfl (.inl (Ne.symm hframe)),
      get_set_other _ R.CP_FRAMESTAT.REPLACED _ _ rfl (.inl (Ne.symm hframe)),
      get_set_other _ R.ZN_COUNT.ENABLED _ _ rfl (.inl (Ne.symm hcount)),
      get_set_other _ R.ZN_SHED.FIRST _ _ rfl (.inl (Ne.symm hshed)), get_set_other _ R.ZN_SHED.COUNT _ _ rfl (.inl (Ne.symm hshed))]
  refine ⟨?_, ?_, ?_⟩
  · rw [hlater _ (by decide), get_setFlag_other _ _ _ _ rfl (by decide), get_setFlag_other _ _ _ _ rfl (by decide)]
    exact get_set_self b R.ZN_PUB_FRAME.FRAME fr.n rfl
  · rw [Block.flag, hlater _ (by decide), ← Block.flag, flag_setFlag_other _ _ _ _ rfl (by decide), flag_setFlag_self _ _ _ rfl rfl]
  · rw [Block.flag, hlater _ (by decide), ← Block.flag, flag_setFlag_self _ _ _ rfl rfl]

end

/-! ## The limit state (R327) -/

section
variable {x : ZoneRun} {z : ZoneRecord} {v : Nat}

/-- The candidate of a counted frame: HIGH and LOW beyond their limits, and within HYST of the limit that the zone has passed. -/
def limitCandidate (x : ZoneRun) (z : ZoneRecord) (v : Nat) : LimitState :=
  if z.highLim < v ∨ (x.s = .high ∧ z.highLim - z.hyst < v) then .high
  else if v < z.lowLim ∨ (x.s = .low ∧ v < min 0xFFFFFFFF (z.lowLim + z.hyst)) then .low
  else .normal

/-- Without a value of the limit statistic the limit state stays (R304). -/
theorem update_noValue (hstat : z.stat < 6) : (x.update z none).1 = x := by
  simp [ZoneRun.update, Nat.not_le.mpr hstat]

/-- How far a candidate has been counted: not at all where it is the state in force, and from 1 on where it is new (R327). -/
def debounced (x : ZoneRun) (c : LimitState) : ZoneRun :=
  if c = x.s then { x with deb := 0 }
  else if c = x.p ∧ 0 < x.deb then { x with deb := x.deb + 1 }
  else { x with p := c, deb := 1 }

/-- With a value the state in force follows its candidate once that has been counted DEBOUNCE times. -/
theorem update_value (hstat : z.stat < 6) : (x.update z (some v)).1 =
    if z.debounce ≤ (debounced x (limitCandidate x z v)).deb then
      { debounced x (limitCandidate x z v) with s := limitCandidate x z v, deb := 0 }
    else debounced x (limitCandidate x z v) := by
  rw [ZoneRun.update, if_neg (Nat.not_le.mpr hstat)]
  rfl

/-- A candidate that is the state in force counts as none (R327). -/
theorem update_sameState (hstat : z.stat < 6) (hdeb : z.debounce = 1) (hsame : limitCandidate x z v = x.s) :
    (x.update z (some v)).1 = { x with deb := 0 } := by
  rw [update_value hstat, hdeb, debounced, if_pos hsame]
  exact if_neg (Nat.not_succ_le_zero 0)

/-- Without debounce the zone is in its candidate state at once. -/
theorem update_undebounced (hstat : z.stat < 6) (hdeb : z.debounce = 1) : (x.update z (some v)).1.s = limitCandidate x z v := by
  by_cases hsame : limitCandidate x z v = x.s
  · rw [update_sameState hstat hdeb hsame, hsame]
  · have hcounted : 1 ≤ (debounced x (limitCandidate x z v)).deb := by
      rw [debounced, if_neg hsame]
      split <;> simp
    rw [update_value hstat, hdeb, if_pos hcounted]

theorem limitCandidate_high (h : z.highLim < v ∨ (x.s = .high ∧ z.highLim - z.hyst < v)) : limitCandidate x z v = .high := if_pos h

theorem limitCandidate_low (hhigh : v ≤ z.highLim) (hs : x.s ≠ .high) (hlow : v < z.lowLim) : limitCandidate x z v = .low := by
  simp [limitCandidate, Nat.not_lt.mpr hhigh, hs, hlow]

theorem limitCandidate_normal (hhigh : v ≤ z.highLim) (hlow : z.lowLim ≤ v) (hs : x.s = .normal) : limitCandidate x z v = .normal := by
  simp [limitCandidate, Nat.not_lt.mpr hhigh, Nat.not_lt.mpr hlow, hs]

end

/-! ## Tentative bindings (R336) -/

/-- A tentative binding arms in the first counted frame of a run whose candidate is its ON state. -/
theorem acts_tentative_iff (p : ZonePub) (net en : Bool) {x : Binding} {s : LimitState} (hx : x.tentative = true)
    (hon : onState x.on = some s) :
    p.acts net en x = true ↔ p.candidate = some s ∧ p.last ≠ some s ∧ en = true ∧ p.before ≠ s := by
  simp [ZonePub.acts, hx, hon, and_assoc]

/-- Settles O57: zone close, publication, its registers, the limit states and the tentative bindings. -/
theorem zonesCloseAndPublish : Obligations.ZonesCloseAndPublish := by
  refine ⟨fun dt ecc te fr s hs hclosing hnight => ?closes, fun dt ecc te s hs hnone => ?noClose,
    fun dt fr rest s hs hframes hclosed => ?publication, fun dt s hs hnot => ?nothing, publishRegs_shows,
    fun x z v hstat hdeb => ⟨fun hv => ?high, fun hhigh hs hlow => ?low, fun hhigh hlow hs => ?normal, fun hs hv => ?stays,
      update_noValue hstat⟩,
    fun p net en x s => acts_tentative_iff p net en⟩
  case closes =>
    refine ⟨_, run_result (Block.stepZoneClose · ecc te) hs, ?_⟩
    rw [stepZoneClose_closing (b := s.m.elapse dt) ecc te hclosing hnight, result_m]
    · exact ⟨rfl, rfl⟩
    · exact hs
  case noClose =>
    refine (run_result (Block.stepZoneClose · ecc te) hs).trans ?_
    rw [stepZoneClose_none (b := s.m.elapse dt) ecc te hnone]
  case publication =>
    have hexec : exec (.publication dt) s = .next (s.result (s.m.elapse dt).stepPublication.cpStop) :=
      run_result (fun b => b.stepPublication.cpStop) hs
    have hstep := stepPublication_closed (b := s.m.elapse dt) hframes hclosed
    refine ⟨fun hdawn => ?_, fun hpub => ⟨_, rfl, ?_⟩⟩
    · obtain ⟨hkept, hzones, hundef, hget⟩ := cpStop_kept (frameDropped fr rest (s.m.elapse dt))
      rw [if_neg (by simp [hdawn])] at hstep
      refine ⟨_, hexec, ?_⟩
      rw [hstep, result_m (hundef.trans hs), hkept, hzones, hget _ (by decide)]
      exact ⟨rfl, rfl, rfl⟩
    · have hfresh : frameDropped fr rest (s.m.elapse dt) =
          ({ s.m.elapse dt with img := { s.m.img with frames := rest } }).setZe (fun z => { z with fresh := false }) := by
        simp [frameDropped, hpub]
      rw [if_pos hpub, hfresh] at hstep
      rw [hexec, hstep]
      rfl
  case nothing =>
    refine (run_result (fun b => b.stepPublication.cpStop) hs).trans ?_
    rw [stepPublication_notClosed (b := s.m.elapse dt) hnot]
  case high => rw [update_undebounced hstat hdeb, limitCandidate_high (.inl hv)]
  case low => rw [update_undebounced hstat hdeb, limitCandidate_low hhigh hs hlow]
  case normal => exact update_sameState hstat hdeb ((limitCandidate_normal hhigh hlow hs).trans hs.symm)
  case stays => rw [update_undebounced hstat hdeb, limitCandidate_high (.inr ⟨hs, hv⟩)]

end Sys2Proof.Proofs
end

section
/-! PROOFS. The frames of the sync bus: little-endian fields, the CRC, the body in its frame, and the line code (R158, R174, R181). -/

namespace Sys2Proof.Proofs

open Sys2Proof.Machine Sys2Proof.Laws

/-! ## Little-endian byte strings and the CRC-16 (R8, R158) -/

@[simp] theorem leBytes_length (n v : Nat) : (leBytes n v).length = n := by
  induction n generalizing v with
  | zero => rfl
  | succ n ih => simp [leBytes, ih]

/-- The bytes of a number spell it, as far as they reach. -/
theorem ofLe_leBytes (n v : Nat) : ofLe (leBytes n v) = v % 256 ^ n := by
  induction n generalizing v with
  | zero => simp [leBytes, ofLe, Nat.mod_one]
  | succ n ih =>
    have hpow : 256 ^ (n + 1) = 256 * 256 ^ n := Nat.pow_succ'
    rw [leBytes, ofLe, ih, BitVec.toNat_ofNat, hpow, Nat.mod_mul]

/-- A byte string is the bytes of the number it spells. -/
theorem leBytes_ofLe (bs : List Byte) : leBytes bs.length (ofLe bs) = bs := by
  induction bs with
  | nil => rfl
  | cons x xs ih =>
    have hlow : BitVec.ofNat 8 (x.toNat + 256 * ofLe xs) = x := by
      apply BitVec.eq_of_toNat_eq
      rw [BitVec.toNat_ofNat]
      omega
    have hhigh : (x.toNat + 256 * ofLe xs) / 256 = ofLe xs := by omega
    rw [List.length_cons, leBytes, ofLe, hlow, hhigh, ih]

/-- One bit of a CRC keeps it within its width. -/
theorem crcBitLeft_lt {w poly : Nat} (crc : Nat) (msg : Bool) (hpoly : poly < 2 ^ w) : crcBitLeft w poly crc msg < 2 ^ w := by
  have hshift : crc * 2 % 2 ^ w < 2 ^ w := Nat.mod_lt _ (Nat.two_pow_pos w)
  unfold crcBitLeft
  simp only []
  split
  · exact Nat.xor_lt_two_pow hshift hpoly
  · exact hshift

/-- So does a byte. -/
theorem crcByteLeft_lt {w poly : Nat} (crc : Nat) (x : Byte) (hpoly : poly < 2 ^ w) : crcByteLeft w poly crc x < 2 ^ w :=
  crcBitLeft_lt _ _ hpoly

theorem crc16_lt (bs : List Byte) : crc16 bs < 65536 := by
  obtain rfl | ⟨xs, x, rfl⟩ := bs.eq_nil_or_concat'
  · decide
  · rw [crc16, List.foldl_concat]
    exact crcByteLeft_lt (w := 16) _ x (by decide)

/-- The two bytes of a CRC read back. -/
theorem ofLe_crc16 (bs : List Byte) : ofLe (leBytes 2 (crc16 bs)) = crc16 bs := by
  rw [ofLe_leBytes]
  exact Nat.mod_eq_of_lt (crc16_lt bs)

/-! ## A body and its frame (R158, R181) -/

theorem busFrame_length (body : List Byte) : (busFrame body).length = body.length + 5 := by
  simp only [busFrame, List.length_append, leBytes_length, preamble, List.length_cons, List.length_nil]
  omega

/-- A byte string of 5 bytes or more falls into its preamble, its body and its CRC. -/
theorem frame_parts {bs : List Byte} (h : 5 ≤ bs.length) :
    bs.take 3 ++ (bs.drop 3).take (bs.length - 5) ++ leBytes 2 (leField bs (bs.length - 2) 2) = bs := by
  have hend : ((bs.drop (bs.length - 2)).take 2).length = 2 := by simp; omega
  have hcrc : leBytes 2 (leField bs (bs.length - 2) 2) = (bs.drop (bs.length - 2)).take 2 := by
    have := leBytes_ofLe ((bs.drop (bs.length - 2)).take 2)
    rwa [hend] at this
  have hall : (bs.drop (bs.length - 2)).take 2 = bs.drop (bs.length - 2) := List.take_of_length_le (by simp; omega)
  have hrest : (bs.drop 3).take (bs.length - 5) ++ bs.drop (bs.length - 2) = bs.drop 3 := by
    have := List.take_append_drop (bs.length - 5) (bs.drop 3)
    rwa [List.drop_drop, show 3 + (bs.length - 5) = bs.length - 2 by omega] at this
  rw [hcrc, hall, List.append_assoc, hrest, List.take_append_drop]

/-- The parts of a frame are its preamble, its body and the CRC of it. -/
theorem busFrame_parts (body : List Byte) : (busFrame body).take 3 = preamble ∧
    ((busFrame body).drop 3).take (body.length + 5 - 5) = body ∧ leField (busFrame body) (body.length + 5 - 2) 2 = crc16 body := by
  refine ⟨by simp [busFrame, preamble], by simp [busFrame, preamble], ?_⟩
  rw [leField, busFrame, List.drop_append_of_le_length (by simp [preamble]), List.drop_of_length_le (by simp [preamble])]
  rw [List.nil_append, List.take_of_length_le (by simp), ofLe_crc16]

/-- What is read as a body is the body of a frame, and every frame of the length and type asked for is read. -/
theorem busBody_eq_some_iff {type len : Nat} {bs body : List Byte} (hlen : 5 ≤ len) :
    busBody type len bs = some body ↔ bs = busFrame body ∧ body.length + 5 = len ∧ leField body 0 1 = type := by
  unfold busBody
  simp only []
  constructor
  · intro h
    split at h
    next hgood =>
      obtain ⟨hl, hpre, htype, hcrc⟩ := hgood
      obtain rfl := Option.some.inj h
      subst hl
      refine ⟨?_, by simp; omega, htype⟩
      rw [busFrame, ← hpre, ← hcrc, frame_parts hlen]
    next => cases h
  · rintro ⟨rfl, rfl, rfl⟩
    obtain ⟨hpre, hbody, hcrc⟩ := busFrame_parts body
    rw [hbody, if_pos ⟨busFrame_length body, hpre, rfl, hcrc⟩]

/-- A frame read has the length asked for. -/
theorem length_of_busBody {type len : Nat} {bs body : List Byte} (h : busBody type len bs = some body) : bs.length = len := by
  unfold busBody at h
  simp only [] at h
  split at h
  next hgood => exact hgood.1
  next => cases h

/-- A body around which the preamble and two other bytes than its CRC stand is not read. -/
theorem busBody_badCrc (body : List Byte) (type len crc : Nat) (hcrc : crc % 65536 ≠ crc16 body) :
    busBody type len (preamble ++ body ++ leBytes 2 crc) = none := by
  rw [Option.eq_none_iff_forall_ne_some]
  intro other h
  have hlen : 5 ≤ len := by
    rw [← length_of_busBody h]
    simp [preamble]
  obtain ⟨hframe, -, -⟩ := (busBody_eq_some_iff hlen).mp h
  obtain ⟨hbody, hbytes⟩ := List.append_inj' hframe (by simp)
  obtain rfl := List.append_cancel_left hbody
  have hofLe := congrArg ofLe hbytes
  rw [ofLe_crc16, ofLe_leBytes] at hofLe
  exact hcrc hofLe

/-- A frame of another type is not read. -/
theorem busBody_otherType {type : Nat} (len : Nat) {body : List Byte} (htype : type ≠ leField body 0 1) :
    busBody type len (busFrame body) = none := by
  rw [Option.eq_none_iff_forall_ne_some]
  intro other h
  have hlen : 5 ≤ len := by
    rw [← length_of_busBody h, busFrame_length]
    omega
  obtain ⟨hframe, hl, htype'⟩ := (busBody_eq_some_iff hlen).mp h
  have hsame : body.length = other.length := by
    have := congrArg List.length hframe
    rw [busFrame_length, busFrame_length] at this
    omega
  obtain ⟨hbody, -⟩ := List.append_inj' hframe (by simp)
  obtain rfl := List.append_cancel_left hbody
  exact htype htype'.symm

/-! ## The line code (R158) -/

/-- The bits of a byte in the order in which they go out. -/
def byteBits (x : Byte) : List Bool := (List.range 8).map x.getLsbD

/-- Bits on the line: two levels each, a 1 low then high. -/
def manchester (bits : List Bool) : List Bool := bits.flatMap (fun l => [!l, l])

theorem lineOf_eq_manchester (bs : List Byte) : lineOf bs = manchester (bs.flatMap byteBits) := by
  rw [lineOf, manchester, List.flatMap_assoc]
  rfl

/-- The bits of a line are those that the line code sends as that line. -/
theorem lineBits_eq_some_iff (line bits : List Bool) : lineBits line = some bits ↔ line = manchester bits := by
  induction line using lineBits.induct generalizing bits with
  | case1 => cases bits <;> simp [lineBits, manchester]
  | case2 l rest =>
    cases bits <;> simp [lineBits, manchester]
    grind
  | case3 h l rest hne ih =>
    have hh : h = !l := by cases h <;> cases l <;> simp_all
    cases bits with
    | nil => simp [lineBits, manchester, hne]
    | cons c cs =>
      simp only [manchester] at ih
      simp [lineBits, manchester, ih, hh]
      grind
  | case4 x => cases bits <;> simp [lineBits, manchester]

/-- A line with a bit of two like levels has no bits. -/
theorem lineBits_broken (x y : List Bool) (h : Bool) (hx : x.length % 2 = 0) : lineBits (x ++ h :: h :: y) = none := by
  induction x using lineBits.induct with
  | case1 => simp [lineBits]
  | case2 l rest => simp [lineBits]
  | case3 a l rest hne ih =>
    simp only [List.length_cons] at hx
    simp [lineBits, hne, ih (by omega)]
  | case4 a => simp at hx

/-- A byte is read from its bits. -/
theorem byteBits_packBits (b0 b1 b2 b3 b4 b5 b6 b7 : Bool) :
    byteBits (BitVec.ofNat 8 (packBits [b0, b1, b2, b3, b4, b5, b6, b7])) = [b0, b1, b2, b3, b4, b5, b6, b7] := by
  revert b0 b1 b2 b3 b4 b5 b6 b7
  decide +kernel

theorem byteBits_injective : Function.Injective byteBits := by
  intro x y h
  apply BitVec.eq_of_getLsbD_eq
  intro i hi
  exact List.map_inj_left.mp h i (List.mem_range.mpr hi)

/-- The bytes of bits are those whose bits they are. -/
theorem bytesOfBits_eq_some_iff (bits : List Bool) (bs : List Byte) : bytesOfBits bits = some bs ↔ bits = bs.flatMap byteBits := by
  induction bits using bytesOfBits.induct generalizing bs with
  | case1 => cases bs <;> simp [bytesOfBits, byteBits]
  | case2 b0 b1 b2 b3 b4 b5 b6 b7 rest ih =>
    have hpack := byteBits_packBits b0 b1 b2 b3 b4 b5 b6 b7
    cases bs with
    | nil => simp [bytesOfBits]
    | cons x xs =>
      simp only [bytesOfBits, Option.map_eq_some_iff, ih, List.flatMap_cons]
      constructor
      · rintro ⟨ys, hrest, hx⟩
        obtain ⟨rfl, rfl⟩ := List.cons.inj hx
        rw [hpack, hrest]
        rfl
      · intro h
        have hparts : [b0, b1, b2, b3, b4, b5, b6, b7] ++ rest = byteBits x ++ xs.flatMap byteBits := h
        obtain ⟨hx, hrest⟩ := List.append_inj hparts rfl
        exact ⟨xs, hrest, by rw [byteBits_injective (hpack.trans hx)]⟩
  | case3 bits hnil hcons =>
    have hnone : bytesOfBits bits = none := by
      unfold bytesOfBits
      split
      · exact absurd rfl hnil
      · exact absurd rfl (hcons _ _ _ _ _ _ _ _ _)
      · rfl
    refine iff_of_false (by simp [hnone]) fun h => ?_
    cases bs with
    | nil => exact hnil h
    | cons x xs => exact hcons _ _ _ _ _ _ _ _ _ h

/-- The bytes heard are those that were sent as the line. -/
theorem lineBytes_eq_some_iff (line : List Bool) (bs : List Byte) : (lineBits line).bind bytesOfBits = some bs ↔ line = lineOf bs := by
  simp only [Option.bind_eq_some_iff, lineBits_eq_some_iff, bytesOfBits_eq_some_iff, lineOf_eq_manchester]
  exact ⟨fun ⟨_, hline, hbits⟩ => hbits ▸ hline, fun h => ⟨_, h, rfl⟩⟩

theorem heardBody_lineOf (type len : Nat) (bs : List Byte) : heardBody type len (lineOf bs) = busBody type len bs := by
  rw [heardBody, (lineBytes_eq_some_iff _ bs).mpr rfl]

/-- A body heard is the body of the frame whose line was heard. -/
theorem line_of_heardBody {type len : Nat} {line : List Bool} {body : List Byte} (hlen : 5 ≤ len)
    (h : heardBody type len line = some body) : line = lineOf (busFrame body) := by
  unfold heardBody at h
  split at h
  next bs hbs =>
    obtain ⟨rfl, -, -⟩ := (busBody_eq_some_iff hlen).mp h
    exact (lineBytes_eq_some_iff _ _).mp hbs
  next => cases h

/-- A line is 16 levels for each byte. -/
theorem lineOf_length (bs : List Byte) : (lineOf bs).length = 16 * bs.length := by
  induction bs with
  | nil => rfl
  | cons x xs ih =>
    have hbyte : (halfBits x).length = 16 := rfl
    rw [lineOf, List.flatMap_cons, List.length_append, ← lineOf, ih, hbyte, List.length_cons]
    omega

/-- Settles O53: a frame is read as a body exactly where it is that body's frame, and a line is heard exactly as the bytes sent. -/
theorem busFramesRoundTrip : Obligations.BusFramesRoundTrip := by
  refine ⟨fun body len hlen => (busBody_eq_some_iff (by omega)).mpr ⟨rfl, hlen, rfl⟩,
    fun body type len htype => busBody_otherType len htype,
    fun body type len crc hcrc => busBody_badCrc body type len crc hcrc,
    fun body bs type len hlen h => ((busBody_eq_some_iff hlen).mp h).1,
    fun x bs => rfl,
    heardBody_lineOf,
    fun type len x y h hx => ?broken,
    fun body line type len hlen h => line_of_heardBody hlen h,
    fun f k => ⟨rfl, fun hk => ?clash⟩⟩
  case broken => rw [heardBody, lineBits_broken x y h hx]; rfl
  case clash =>
    refine ⟨?_, (lineOf f).drop (2 * (k + 1)), (List.take_append_drop _ _).symm⟩
    rw [driven, List.length_take, lineOf_length]
    omega

end Sys2Proof.Proofs
end

section
/-! PROOFS. Commands of the sequencer that start no routine (R179, R273, R554, R559, R560). -/

namespace Sys2Proof.Proofs

open Sys2Proof.Machine Sys2Proof.Laws

/-! ## A visit in and out of turn (R554) -/

section
variable {b t : Block} {ch op : Nat} {dst : ReplyTo} {args : List Nat}

/-- The reply of a command goes to the channel it came from. -/
theorem commandAt_channel (h : b.commandAt ch op dst args t) : dst.ch = ch := by
  obtain ⟨-, w, ws, -, rfl, -, -⟩ := h
  rfl

/-- Out of a channel's turn a command of it does nothing. -/
theorem visit_elsewhere (h : b.nextVisit ≠ some ch) (f : Block → Block) : Block.visit ch f b = b := if_neg h

end

/-! ## OVERLAY_INFO (R559) -/

section
variable (t : Block) (dst : ReplyTo)

/-- Reads that found no flawed group tell nothing. -/
theorem nvTell_nothing : t.nvTell {} = t := rfl

theorem padTo_whole {n : Nat} (fill : Byte) {bs : List Byte} (h : bs.length = n) : padTo n fill bs = bs := by
  simp [padTo, h]

variable {id : Nat} (header : List Byte)

theorem runOverlayInfo_badId (hlo : 64 ≤ id) (hhi : id < 256) : runOverlayInfo header dst [id] t = t.reply dst 3 [] := by
  have hbad : badOverlay (id % 256) = true := by
    rw [Nat.mod_eq_of_lt hhi]
    exact decide_eq_true hlo
  simp only [runOverlayInfo, List.headD_cons, hbad, if_true]

/-- An id in range is looked up. -/
theorem overlayId_inRange (hid : id < 64) : id % 256 = id ∧ badOverlay id = false :=
  ⟨by omega, decide_eq_false (by omega)⟩

theorem runOverlayInfo_absent (hid : id < 64) (hsrc : (t.slotOf id).src = 2) : runOverlayInfo header dst [id] t =
    (t.freeBytes 32).2.reply dst 0 ((2 + 2 ^ 16 * (t.slotOf id).len) :: infoWords (t.freeBytes 32).1) := by
  obtain ⟨hmod, hok⟩ := overlayId_inRange hid
  simp only [runOverlayInfo, List.headD_cons, hmod, hok, hsrc, Bool.false_eq_true, if_false]

theorem runOverlayInfo_flash (hid : id < 64) (hsrc : (t.slotOf id).src = 0) (hlen : header.length = 32) :
    runOverlayInfo header dst [id] t = t.reply dst 0 ((2 ^ 16 * (t.slotOf id).len) :: infoWords header) := by
  obtain ⟨hmod, hok⟩ := overlayId_inRange hid
  simp only [runOverlayInfo, List.headD_cons, hmod, hok, hsrc, Bool.false_eq_true, if_false, padTo_whole _ hlen, Nat.zero_add]

theorem runOverlayInfo_pair {c : Nat} {i : CopyInfo} (hid : id < 64) (hsrc : (t.slotOf id).src = 1)
    (hfound : t.pairFound (t.slotOf id).addr (slotPages (t.slotOf id).len) = {})
    (hforce : t.inForce (t.slotOf id).addr (slotPages (t.slotOf id).len) = some (c, i)) :
    runOverlayInfo header dst [id] t = t.reply dst 0 ((1 + 2 ^ 16 * (t.slotOf id).len) ::
      infoWords (t.nvBytes ((t.slotOf id).addr + 64 * slotPages (t.slotOf id).len * c) i.len)) := by
  obtain ⟨hmod, hok⟩ := overlayId_inRange hid
  simp only [runOverlayInfo, List.headD_cons, hmod, hok, hsrc, Bool.false_eq_true, if_false, hfound, nvTell_nothing, hforce]

end

/-! ## LOG_READ, LOG_INFO and BRACKET_FORCE (R273, R560) -/

section
variable (t : Block) (dst : ReplyTo) {k off n : Nat}

theorem runLogRead_badCount (h : n = 0 ∨ 64 < n) : runLogRead dst [k, off, n] t = t.reply dst 3 [] := if_pos h

/-- The ring takes records of the log for the sender: it is enabled, a data or a result ring, and the sender's. -/
theorem runLogRead_read (hlo : 1 ≤ n) (hhi : n ≤ 64) (hen : (t.ring (k % 32)).en = true)
    (hrole : (t.ring (k % 32)).role = 1 ∨ (t.ring (k % 32)).role = 2) (howner : t.hostEnd dst.ch = some (t.ring (k % 32)).owner) :
    runLogRead dst [k, off, n] t = (((t.nv.log.drop off).take n).foldl (fun b e => b.ringPut (k % 32) (some e.seq) e.entry) t).reply
      dst 0 [((t.nv.log.drop off).take n).length] := by
  have hcount : ¬ (n = 0 ∨ 64 < n) := by omega
  have hring : (!(t.ring (k % 32)).en || !((t.ring (k % 32)).role == 1 || (t.ring (k % 32)).role == 2) ||
      (t.hostEnd dst.ch != some (t.ring (k % 32)).owner)) = false := by
    rcases hrole with hrole | hrole <;> simp [hen, hrole, howner]
  exact (if_neg hcount).trans (if_neg (ne_true_of_eq_false hring))

theorem runLogRead_refused (hlo : 1 ≤ n) (hhi : n ≤ 64) (h : (t.ring (k % 32)).en = false ∨ (t.ring (k % 32)).role = 0 ∨
    t.hostEnd dst.ch ≠ some (t.ring (k % 32)).owner) : runLogRead dst [k, off, n] t = t.reply dst 4 [] := by
  have hcount : ¬ (n = 0 ∨ 64 < n) := by omega
  have hring : (!(t.ring (k % 32)).en || !((t.ring (k % 32)).role == 1 || (t.ring (k % 32)).role == 2) ||
      (t.hostEnd dst.ch != some (t.ring (k % 32)).owner)) = true := by
    rcases h with h | h | h <;> simp [h]
  exact (if_neg hcount).trans (if_pos hring)

theorem runBracketForce_eq (hk : k < 32) : runBracketForce dst [k] t =
    if k = 31 then (t.forceBracket none).reply dst 0 []
    else if k < 16 then (t.forceBracket (some k)).reply dst 0 [] else t.reply dst 3 [] := by
  simp only [runBracketForce, List.headD_cons, Nat.mod_eq_of_lt hk]
  refine if_congr Iff.rfl rfl ?_
  by_cases h : k < 16
  · rw [if_neg (by omega), if_pos h]
  · rw [if_pos (by omega), if_neg h]

end

/-- Settles O14: every clause is the command's body on the block that took the command from its queue, or no visit at all. -/
theorem commandsAnswerAtOnce : Obligations.CommandsAnswerAtOnce := by
  refine ⟨⟨fun dt ch dst args t s hs hcmd => ?ping, fun dt ch dst args t s hs hcmd => ?version,
      fun dt ch dst args t s hs hcmd => ?status, fun dt ch id header dst t s hs hid hcmd hsrc => ?absent,
      fun dt ch id header dst t s hs hid hcmd hsrc hlen => ?flash,
      fun dt ch id c header dst i t s hs hid hcmd hsrc hfound hforce => ?pair,
      fun dt ch id header dst t s hs hlo hhi hcmd => ?badId⟩,
    ⟨fun dt ch k off n dst t s hs hcmd hlo hhi hen hrole howner => ?logRead, fun dt ch k off n dst t s hs hcmd hn => ?badCount,
      fun dt ch k off n dst t s hs hcmd hlo hhi href => ?refused, fun dt ch dst args t s hs hcmd => ?logInfo,
      fun dt ch k dst t s hs hcmd hk => ?bracket, fun dt ch dst args t s hs hcmd => ?peer⟩,
    fun dt ch header s hs hturn c hc => ?elsewhere⟩
  case ping => exact (run_result _ hs).trans (by rw [visit_plainCommand hcmd]; rfl)
  case version => exact (run_result _ hs).trans (by rw [visit_plainCommand hcmd]; rfl)
  case status => exact (run_result _ hs).trans (by rw [visit_plainCommand hcmd]; rfl)
  case absent => exact (run_result _ hs).trans (by rw [visit_plainCommand hcmd, runOverlayInfo_absent t dst header hid hsrc])
  case flash => exact (run_result _ hs).trans (by rw [visit_plainCommand hcmd, runOverlayInfo_flash t dst header hid hsrc hlen]; rfl)
  case pair => exact (run_result _ hs).trans (by rw [visit_plainCommand hcmd, runOverlayInfo_pair t dst header hid hsrc hfound hforce])
  case badId => exact (run_result _ hs).trans (by rw [visit_plainCommand hcmd, runOverlayInfo_badId t dst header hlo hhi])
  case logRead =>
    rw [← commandAt_channel hcmd] at howner
    exact (run_result _ hs).trans (by rw [visit_plainCommand hcmd, runLogRead_read t dst hlo hhi hen hrole howner])
  case badCount => exact (run_result _ hs).trans (by rw [visit_plainCommand hcmd, runLogRead_badCount t dst hn])
  case refused =>
    rw [← commandAt_channel hcmd] at href
    exact (run_result _ hs).trans (by rw [visit_plainCommand hcmd, runLogRead_refused t dst hlo hhi href])
  case logInfo => exact (run_result _ hs).trans (by rw [visit_plainCommand hcmd]; rfl)
  case bracket => exact (run_result _ hs).trans (by rw [visit_plainCommand hcmd, runBracketForce_eq t dst hk])
  case peer => exact (run_result _ hs).trans (by rw [visit_plainCommand hcmd]; rfl)
  case elsewhere =>
    simp only [List.mem_cons, List.not_mem_nil, or_false] at hc
    rcases hc with rfl | rfl | rfl | rfl | rfl | rfl | rfl | rfl | rfl | rfl | rfl | rfl | rfl | rfl | rfl | rfl | rfl <;>
      exact (run_result _ hs).trans (by rw [visit_elsewhere hturn])

end Sys2Proof.Proofs
end

section
/-! PROOFS. The edges of the encoder and its index (R147 to R150, R182). -/

namespace Sys2Proof.Proofs

open Sys2Proof.Machine Sys2Proof.Laws

/-! ## Accepted edges (R147 to R149) -/

section
variable (b : Block) (na nc : Bool) (sa sc : Nat)

/-- A level is accepted once it has been stable for FILT + 1 clocks (R148). -/
theorem filtered_eq (old new : Bool) (stable : Nat) :
    b.filtered old new stable = if b.get R.TB_ENC_CTL.FILT < stable then new else old := rfl

/-- The block with the accepted levels of both inputs, what the exposure instants latched included. -/
def levelsTaken : Block := b.latchWps.setEnc (fun e => { e with
  levelA := b.filtered e.levelA na sa, levelB := b.filtered e.levelB nc sc })

/-- The direction of an edge that leaves the inputs at `a` and `c` (R147). -/
def countsUp (a c : Bool) : Bool := edgeForward b.clock.enc.levelA a c != b.flag R.TB_ENC_CTL.DIR_INV

/-- An edge in a direction, seen by the wake count, which runs whether or not the encoder does (R102). -/
def edgeMoved (up : Bool) (b : Block) : Block := b.setEnc (fun e => { e with moved := if up then e.moved + 1 else e.moved - 1 })

/-- The edge enters the count (R147). -/
def edgeCounted (up : Bool) (b : Block) : Block := b.noteReached.setEnc (fun e => { e with
  cur := e.cur.edge up b.now, past := if b.clock.ticked then [] else keepPast b.now (e.cur :: e.past) })

/-- An edge counted or seen leaves the levels, the registers, the memory and the case of the catalogue alone. -/
theorem edgeMoved_kept (up : Bool) : (edgeMoved up b).clock.enc.levelA = b.clock.enc.levelA ∧
    (edgeMoved up b).clock.enc.levelB = b.clock.enc.levelB ∧ (edgeMoved up b).regs = b.regs ∧ (edgeMoved up b).mem = b.mem ∧
    (edgeMoved up b).undef = b.undef := ⟨rfl, rfl, rfl, rfl, rfl⟩

@[inherit_doc edgeMoved_kept] theorem edgeCounted_kept (up : Bool) : (edgeCounted up b).clock.enc.levelA = b.clock.enc.levelA ∧
    (edgeCounted up b).clock.enc.levelB = b.clock.enc.levelB ∧ (edgeCounted up b).regs = b.regs ∧ (edgeCounted up b).mem = b.mem ∧
    (edgeCounted up b).undef = b.undef := ⟨rfl, rfl, rfl, rfl, rfl⟩

variable {b na nc sa sc} {a c : Bool} (ha : a = b.filtered b.clock.enc.levelA na sa) (hc : c = b.filtered b.clock.enc.levelB nc sc)

include ha hc

/-- What the levels of the inputs do: no edge takes the levels alone; edges of both inputs are illegal, and counted as such while
the encoder counts (R149); an edge of one input moves the count while the encoder counts (R147). -/
theorem stepEncEdge_eq : b.stepEncEdge na nc sa sc =
    if b.clock.enc.levelA = a ∧ b.clock.enc.levelB = c then levelsTaken b na nc sa sc
    else if b.clock.enc.levelA ≠ a ∧ b.clock.enc.levelB ≠ c then
      if b.encRuns then (levelsTaken b na nc sa sc).setEnc (fun e => { e with illegal := e.illegal + 1 })
      else levelsTaken b na nc sa sc
    else if b.encRuns then edgeCounted (countsUp b a c) (edgeMoved (countsUp b a c) (levelsTaken b na nc sa sc))
    else edgeMoved (countsUp b a c) (levelsTaken b na nc sa sc) := by
  subst ha hc
  have hstill : ((b.latchWps.clock.enc.levelA == b.latchWps.filtered b.latchWps.clock.enc.levelA na sa) &&
      (b.latchWps.clock.enc.levelB == b.latchWps.filtered b.latchWps.clock.enc.levelB nc sc)) = true ↔
      b.clock.enc.levelA = b.filtered b.clock.enc.levelA na sa ∧ b.clock.enc.levelB = b.filtered b.clock.enc.levelB nc sc := by
    rw [Bool.and_eq_true, beq_iff_eq, beq_iff_eq]; rfl
  have hboth : ((b.latchWps.clock.enc.levelA != b.latchWps.filtered b.latchWps.clock.enc.levelA na sa) &&
      (b.latchWps.clock.enc.levelB != b.latchWps.filtered b.latchWps.clock.enc.levelB nc sc)) = true ↔
      b.clock.enc.levelA ≠ b.filtered b.clock.enc.levelA na sa ∧ b.clock.enc.levelB ≠ b.filtered b.clock.enc.levelB nc sc := by
    rw [Bool.and_eq_true, bne_iff_ne, bne_iff_ne]; rfl
  exact if_congr hstill rfl (if_congr hboth rfl rfl)

/-- The levels are taken whatever else happens; registers and memory stay, and no case of the catalogue is entered. -/
theorem stepEncEdge_takes : (b.stepEncEdge na nc sa sc).clock.enc.levelA = a ∧ (b.stepEncEdge na nc sa sc).clock.enc.levelB = c ∧
    (b.stepEncEdge na nc sa sc).regs = b.regs ∧ (b.stepEncEdge na nc sa sc).mem = b.mem ∧
    (b.stepEncEdge na nc sa sc).undef = b.undef := by
  rw [stepEncEdge_eq ha hc]
  subst ha hc
  split_ifs
  · exact ⟨rfl, rfl, rfl, rfl, rfl⟩
  · exact ⟨rfl, rfl, rfl, rfl, rfl⟩
  · exact ⟨rfl, rfl, rfl, rfl, rfl⟩
  · simp only [edgeCounted_kept, edgeMoved_kept]
    exact ⟨rfl, rfl, rfl, rfl, rfl⟩
  · simp only [edgeMoved_kept]
    exact ⟨rfl, rfl, rfl, rfl, rfl⟩

/-- An encoder that does not count keeps its count (R182). -/
theorem stepEncEdge_stopped (hrun : b.encRuns = false) : (b.stepEncEdge na nc sa sc).clock.enc.cur = b.clock.enc.cur ∧
    (b.stepEncEdge na nc sa sc).clock.enc.illegal = b.clock.enc.illegal := by
  simp only [stepEncEdge_eq ha hc, hrun, Bool.false_eq_true, if_false]
  split_ifs <;> exact ⟨rfl, rfl⟩

/-- Levels that stay leave the count alone. -/
theorem stepEncEdge_still (hsameA : a = b.clock.enc.levelA) (hsameC : c = b.clock.enc.levelB) :
    b.stepEncEdge na nc sa sc = levelsTaken b na nc sa sc := by
  rw [stepEncEdge_eq ha hc, if_pos ⟨hsameA.symm, hsameC.symm⟩]

/-- Edges of both inputs count as illegal and leave the count alone (R149). -/
theorem stepEncEdge_both (hrun : b.encRuns = true) (hedgeA : a ≠ b.clock.enc.levelA) (hedgeC : c ≠ b.clock.enc.levelB) :
    b.stepEncEdge na nc sa sc = (levelsTaken b na nc sa sc).setEnc (fun e => { e with illegal := e.illegal + 1 }) := by
  rw [stepEncEdge_eq ha hc, if_neg fun h => hedgeA h.1.symm, if_pos ⟨hedgeA.symm, hedgeC.symm⟩, if_pos hrun]

/-- An edge of one input moves the count by one in its direction (R147). -/
theorem stepEncEdge_one (hrun : b.encRuns = true) (hedge : a ≠ b.clock.enc.levelA ∧ c = b.clock.enc.levelB ∨
    a = b.clock.enc.levelA ∧ c ≠ b.clock.enc.levelB) : (b.stepEncEdge na nc sa sc).clock.enc.cur.cnt =
      if countsUp b a c then b.clock.enc.cur.cnt + 1 else b.clock.enc.cur.cnt - 1 := by
  rw [stepEncEdge_eq ha hc, if_neg (by grind), if_neg (by grind), if_pos hrun]
  rfl

end

/-- The direction of an edge of the first input. -/
theorem countsUp_first {b : Block} {a : Bool} (c : Bool) (h : a ≠ b.clock.enc.levelA) :
    countsUp b a c = ((a != c) != b.flag R.TB_ENC_CTL.DIR_INV) := by
  rw [countsUp, edgeForward, if_pos (bne_iff_ne.mpr h.symm)]

/-- The direction of an edge of the second input alone. -/
theorem countsUp_second {b : Block} {a : Bool} (c : Bool) (h : a = b.clock.enc.levelA) :
    countsUp b a c = ((a == c) != b.flag R.TB_ENC_CTL.DIR_INV) := by
  rw [countsUp, edgeForward, ← h, if_neg (by simp)]

/-- Levels not yet stable leave the accepted ones (R148). -/
theorem stepEncEdge_unstable {b : Block} {sa sc : Nat} (na nc : Bool) (hsa : sa ≤ b.get R.TB_ENC_CTL.FILT)
    (hsc : sc ≤ b.get R.TB_ENC_CTL.FILT) : b.stepEncEdge na nc sa sc = b.latchWps := by
  have ha : b.clock.enc.levelA = b.filtered b.clock.enc.levelA na sa := (if_neg (by omega)).symm
  have hc : b.clock.enc.levelB = b.filtered b.clock.enc.levelB nc sc := (if_neg (by omega)).symm
  rw [stepEncEdge_still ha hc rfl rfl]
  show b.latchWps.setEnc (fun e => { e with
    levelA := b.filtered b.clock.enc.levelA na sa, levelB := b.filtered b.clock.enc.levelB nc sc }) = b.latchWps
  rw [← ha, ← hc]
  rfl

/-! ## The index (R148, R150) -/

/-- An accepted index writes its event while Z_MODE is 1 and the encoder counts. -/
theorem stepEncIndex_eq (b : Block) (n : Nat) : b.stepEncIndex n =
    if b.encRuns = true ∧ b.flag R.TB_ENC_CTL.Z_MODE = true ∧ b.get R.TB_ENC_CTL.FILT < n then
      b.event 0x010A (leBytes 5 b.wp.toNat)
    else b := by
  have hstable : b.filtered false true n = true ↔ b.get R.TB_ENC_CTL.FILT < n := by
    rw [filtered_eq]; simp
  exact if_congr (and_congr_right' (and_congr_right' hstable)) rfl rfl

/-- What an ENC_EDGE command leaves on the block. -/
theorem encEdge_result {s : State} (dt : Nat) (na nc : Bool) (sa sc : Nat) (hs : s.defined) :
    ∃ t, exec (.encEdge dt na nc sa sc) s = .next t ∧ t.m = (s.m.elapse dt).stepEncEdge na nc sa sc := by
  obtain ⟨-, -, -, -, hundef⟩ := stepEncEdge_takes (b := s.m.elapse dt) (na := na) (nc := nc) (sa := sa) (sc := sc) rfl rfl
  exact ⟨_, (run_result _ hs : s.run dt (fun x => x.stepEncEdge na nc sa sc) = _), result_m (hundef.trans hs)⟩

/-- Settles O52: the accepted levels decide between no edge, an edge of one input and an illegal one. -/
theorem encoderCounts : Obligations.EncoderCounts := by
  refine ⟨fun dt sa sc na nc a c s hs hrun ha hc => ?edge, fun dt sa sc a c s hs hsa hsc => ?unstable,
    fun dt sa sc a c s hs hrun hsa hsc => ?stopped, fun dt n s hs => ?index⟩
  case edge =>
    obtain ⟨t, ht, hm⟩ := encEdge_result dt na nc sa sc hs
    have ha' : a = (s.m.elapse dt).filtered (s.m.elapse dt).clock.enc.levelA na sa := ha
    have hc' : c = (s.m.elapse dt).filtered (s.m.elapse dt).clock.enc.levelB nc sc := hc
    obtain ⟨hlevelA, hlevelB, hregs, hmem, -⟩ := stepEncEdge_takes ha' hc'
    refine ⟨t, ht, ?_⟩
    rw [hm]
    refine ⟨hlevelA, hlevelB, hregs, hmem, fun hedge hsame => ?_, fun hsame hedge => ?_, fun hedgeA hedgeC => ?_, fun hsameA hsameC => ?_⟩
    · rw [stepEncEdge_one ha' hc' hrun (.inl ⟨hedge, hsame⟩), countsUp_first (b := s.m.elapse dt) c hedge]
      rfl
    · rw [stepEncEdge_one ha' hc' hrun (.inr ⟨hsame, hedge⟩), countsUp_second (b := s.m.elapse dt) c hsame]
      rfl
    · rw [stepEncEdge_both ha' hc' hrun hedgeA hedgeC]
      exact ⟨rfl, rfl⟩
    · rw [stepEncEdge_still ha' hc' hsameA hsameC]
      rfl
  case unstable =>
    show s.run dt (fun x => x.stepEncEdge a c sa sc) = _
    rw [run_result _ hs, stepEncEdge_unstable (b := s.m.elapse dt) a c hsa hsc]
  case stopped =>
    obtain ⟨t, ht, hm⟩ := encEdge_result dt a c sa sc hs
    have ha : a = (s.m.elapse dt).filtered (s.m.elapse dt).clock.enc.levelA a sa := (if_pos hsa).symm
    have hc : c = (s.m.elapse dt).filtered (s.m.elapse dt).clock.enc.levelB c sc := (if_pos hsc).symm
    obtain ⟨hlevelA, hlevelB, -, -, -⟩ := stepEncEdge_takes ha hc
    obtain ⟨hcur, hillegal⟩ := stepEncEdge_stopped ha hc hrun
    refine ⟨t, ht, ?_⟩
    rw [hm]
    exact ⟨hcur, hillegal, hlevelA, hlevelB⟩
  case index =>
    show s.run dt (fun x => x.stepEncIndex n) = _
    rw [run_result _ hs, stepEncIndex_eq]
    rfl

end Sys2Proof.Proofs
end

section
/-! PROOFS. What the sync bus makes of beacons, replies and claims, and of their absence (R159 to R183). -/

namespace Sys2Proof.Proofs

open Sys2Proof.Machine Sys2Proof.Laws

/-! ## Which register fields an operation of the bus writes -/

/-- `b` is `a` later in the same TIME clock, no case of the catalogue entered, and no register field differs but those of `ws`, what
shares their bits, and IC_STAT. -/
structure WritesOnly (ws : List RegField) (a b : Block) : Prop where
  now : b.now = a.now
  undef : b.undef = a.undef
  get : ∀ f : RegField, f.idx ≠ 0xCB → (∀ g ∈ ws, Apart g f) → b.get f = a.get f

namespace WritesOnly

variable {ws vs : List RegField} {a b c : Block}

theorem refl (a : Block) : WritesOnly ws a a := ⟨rfl, rfl, fun _ _ _ => rfl⟩

theorem trans (h : WritesOnly ws a b) (k : WritesOnly ws b c) : WritesOnly ws a c where
  now := k.now.trans h.now
  undef := k.undef.trans h.undef
  get f hf hw := (k.get f hf hw).trans (h.get f hf hw)

theorem mono (h : WritesOnly ws a b) (hsub : ws ⊆ vs) : WritesOnly vs a b where
  now := h.now
  undef := h.undef
  get f hf hw := h.get f hf fun g hg => hw g (hsub hg)

theorem flag (h : WritesOnly ws a b) {f : RegField} (hf : f.idx ≠ 0xCB) (hw : ∀ g ∈ ws, Apart g f) : b.flag f = a.flag f := by
  rw [Block.flag, h.get f hf hw, Block.flag]

/-- Reports and mailbox traffic write no field. -/
theorem of_exchanged (h : Exchanged a b) : WritesOnly ws a b where
  now := h.now
  undef := by rw [h.rest]
  get _ hf _ := h.get hf

theorem of_set (b : Block) {f : RegField} (v : Nat) (hfit : fits f = true) (hmem : f ∈ ws) : WritesOnly ws b (b.set f v) where
  now := rfl
  undef := rfl
  get _ _ hw := get_set_other _ _ _ _ hfit (hw f hmem)

theorem of_setFlag (b : Block) {f : RegField} (v : Bool) (hfit : fits f = true) (hmem : f ∈ ws) : WritesOnly ws b (b.setFlag f v) :=
  of_set b _ hfit hmem

theorem of_event (b : Block) (code : Nat) (payload : List Byte) : WritesOnly ws b (b.event code payload) :=
  of_exchanged (.of_reported (event_reported b code payload))

theorem of_setSync (b : Block) (f : Sync → Sync) : WritesOnly ws b (b.setSync f) := ⟨rfl, rfl, fun _ _ _ => rfl⟩

theorem ite {p : Prop} [Decidable p] (h : WritesOnly ws a b) (k : WritesOnly ws a c) : WritesOnly ws a (if p then b else c) := by
  split
  · exact h
  · exact k

/-- The unit id is no field of a status register. -/
theorem unitId (h : WritesOnly ws a b) (hw : ∀ g ∈ ws, Apart g R.TB_SYNC_CTL.UNIT_ID) : b.unitId = a.unitId := h.get _ (by decide) hw

end WritesOnly

/-! ## Mailboxes of the bus (R180, R553) -/

section
variable (b : Block)

theorem setSync_flag (f : Sync → Sync) (g : RegField) : (b.setSync f).flag g = b.flag g := rfl

theorem setChan_exchanged (c : Nat) (ch : Channel) : Exchanged b (b.setChan c ch) := ⟨rfl, fun _ _ => rfl⟩

theorem abortNotice_exchanged (c mid n : Nat) : Exchanged b (b.abortNotice c mid n) := by
  unfold Block.abortNotice
  simp only []
  split
  · exact (setChan_exchanged b c _).trans (doorbell_exchanged _ _ _)
  · exact .refl b

theorem resetChannel_exchanged (mid c : Nat) : Exchanged b (b.resetChannel mid c) := by
  unfold Block.resetChannel
  split
  · exact .refl b
  · exact ((setToward_exchanged b c mid []).trans (abortNotice_exchanged _ _ _ _)).trans (spaceBell_exchanged _ _ _)

theorem receiverReset_exchanged (mid cause : Nat) : Exchanged b (b.receiverReset mid cause) :=
  (Exchanged.foldl (Block.resetChannel mid) (fun x c => resetChannel_exchanged x mid c) _ b).trans (.of_reported (event_reported _ _ _))

theorem peerDeliver_exchanged (src : Nat) (slot : List Byte) : Exchanged b (b.peerDeliver src slot) := by
  unfold Block.peerDeliver
  simp only []
  split
  · exact .refl b
  · refine Exchanged.foldl _ (fun x p => ?_) _ b
    split
    · exact enqueue_exchanged _ _ _ _
    · exact .of_reported (event_reported _ _ _)

theorem Exchanged.clock {a b : Block} (h : Exchanged a b) : b.clock = a.clock := by rw [h.rest]

/-! ## A beacon missed and a master lost (R171, R176, R177, R553) -/

/-- One more beacon missed: HOLDOVER (R176). -/
def missCounted : Block :=
  (b.setSync (fun x => { x with missed := x.missed + 1, replyDue := false, awaits := false })).setFlag R.TB_SYNC_STATUS.HOLDOVER true

/-- The master is lost, with what led to LOCK (R171, R177, R553). -/
def masterLost : Block :=
  (((b.event 0x010F (leBytes 1 (b.get R.TB_SYNC_STATUS.MASTER_ID))).setFlag R.TB_SYNC_STATUS.LOCK false).setSync
    (fun x => { x with dlySeen := false, beacons := 0, relock := false })).receiverReset 3 1

theorem missCounted_writes : WritesOnly [R.TB_SYNC_STATUS.HOLDOVER] b (missCounted b) :=
  (WritesOnly.of_setSync b _).trans (.of_setFlag _ true rfl (by decide))

theorem masterLost_writes : WritesOnly [R.TB_SYNC_STATUS.LOCK] b (masterLost b) :=
  (((WritesOnly.of_event b _ _).trans (.of_setFlag _ false rfl (by decide))).trans (.of_setSync _ _)).trans
    (.of_exchanged (receiverReset_exchanged _ 3 1))

theorem masterLost_shows : (masterLost b).flag R.TB_SYNC_STATUS.LOCK = false ∧
    (masterLost b).clock = { b.clock with sync := { b.clock.sync with dlySeen := false, beacons := 0, relock := false } } := by
  constructor
  · exact ((receiverReset_exchanged _ 3 1).flag (by decide)).trans (flag_setFlag_self _ R.TB_SYNC_STATUS.LOCK false rfl rfl)
  · rw [masterLost, (receiverReset_exchanged _ 3 1).clock, block_setSync_clock, Block.setFlag, block_set_clock, block_event_clock]

theorem beginElection_writes (ws : List RegField) (at_ : Nat) : WritesOnly ws b (b.beginElection at_) :=
  .ite (.of_setSync b _) (.refl b)

theorem beginElection_eq (at_ : Nat) : (b.beginElection at_).clock.sync.dlySeen = b.clock.sync.dlySeen ∧
    (b.beginElection at_).clock.sync.beacons = b.clock.sync.beacons ∧
    ((b.beginElection at_).clock.sync.election = true ↔ b.clock.sync.election = true ∨ b.flag R.TB_SYNC_CTL.MASTER_CAP = true) := by
  unfold Block.beginElection
  split <;> simp [*]

theorem missCounted_lossN : (missCounted b).lossN = b.lossN := congrArg (max 1) ((missCounted_writes b).get _ (by decide) (by decide))

theorem masterLost_lossN : (masterLost b).lossN = b.lossN := congrArg (max 1) ((masterLost_writes b).get _ (by decide) (by decide))

/-- A missed beacon is counted; the LOSS_N-th in a row loses the master, and every LOSS_N-th begins an election. -/
theorem missBeacon_eq {x : Block}
    (hx : x = if b.clock.sync.missed + 1 = b.lossN then masterLost (missCounted b) else missCounted b) :
    b.missBeacon = if (b.clock.sync.missed + 1) % b.lossN = 0 then x.beginElection x.clock.lastTick else x := by
  have hloss : x.lossN = b.lossN := by
    rw [hx]
    split
    · rw [masterLost_lossN, missCounted_lossN]
    · exact missCounted_lossN b
  rw [← missCounted_lossN b] at hx
  rw [← hloss, hx]
  rfl

/-- A miss writes HOLDOVER, and LOCK where it loses the master. -/
theorem missBeacon_writes : WritesOnly [R.TB_SYNC_STATUS.HOLDOVER, R.TB_SYNC_STATUS.LOCK] b b.missBeacon := by
  have hcount : WritesOnly [R.TB_SYNC_STATUS.HOLDOVER, R.TB_SYNC_STATUS.LOCK] b (missCounted b) := (missCounted_writes b).mono (by simp)
  have hlost := hcount.trans ((masterLost_writes (missCounted b)).mono (by simp))
  have hx := WritesOnly.ite (p := b.clock.sync.missed + 1 = b.lossN) hlost hcount
  rw [missBeacon_eq b rfl]
  exact .ite (hx.trans (beginElection_writes _ _ _)) hx

variable {b}

/-- A miss before the LOSS_N-th is counted and no more. -/
theorem missBeacon_early (h : b.clock.sync.missed + 1 < b.lossN) : b.missBeacon = missCounted b := by
  have hnot : ¬ (b.clock.sync.missed + 1) % b.lossN = 0 := by
    rw [Nat.mod_eq_of_lt h]
    omega
  rw [missBeacon_eq b (if_neg h.ne).symm, if_neg hnot]

/-- The LOSS_N-th loses the master and begins an election. -/
theorem missBeacon_last (h : b.clock.sync.missed + 1 = b.lossN) : b.missBeacon =
    (masterLost (missCounted b)).beginElection (masterLost (missCounted b)).clock.lastTick := by
  rw [missBeacon_eq b (if_pos h).symm, if_pos (by rw [h, Nat.mod_self])]

/-- The master lost shows: LOCK cleared, HOLDOVER, what led to LOCK forgotten, and an election where the unit may be master. -/
theorem missBeacon_last_shows (h : b.clock.sync.missed + 1 = b.lossN) : b.missBeacon.flag R.TB_SYNC_STATUS.LOCK = false ∧
    b.missBeacon.flag R.TB_SYNC_STATUS.HOLDOVER = true ∧ b.missBeacon.clock.sync.dlySeen = false ∧ b.missBeacon.clock.sync.beacons = 0 ∧
    (b.missBeacon.clock.sync.election = true ↔ b.clock.sync.election = true ∨ b.flag R.TB_SYNC_CTL.MASTER_CAP = true) := by
  obtain ⟨hlock, hclock⟩ := masterLost_shows (missCounted b)
  obtain ⟨hseen, hbeacons, helection⟩ := beginElection_eq (masterLost (missCounted b)) (masterLost (missCounted b)).clock.lastTick
  have hbegin := beginElection_writes (masterLost (missCounted b)) [] (masterLost (missCounted b)).clock.lastTick
  have hlost := masterLost_writes (missCounted b)
  rw [missBeacon_last h]
  refine ⟨(hbegin.flag (by decide) (by simp)).trans hlock, ?_, by rw [hseen, hclock], by rw [hbeacons, hclock], ?_⟩
  · rw [hbegin.flag (by decide) (by simp), hlost.flag (by decide) (by decide)]
    exact flag_setFlag_self _ R.TB_SYNC_STATUS.HOLDOVER true rfl rfl
  · rw [helection, hclock, hlost.flag (by decide) (by decide), (missCounted_writes b).flag (by decide) (by decide)]
    rfl

end

/-! ## A beacon heard (R165 to R170, R176, R177, R180) -/

section
variable (b : Block) (body : List Byte)

/-! ### What its moment says -/

/-- A beacon is far where it is more than 2 µs off its prediction, or more than 1 µs in HOLDOVER with one predicted. -/
def beaconFar : Bool := decide (2000 < b.beaconError ∨
  (b.flag R.TB_SYNC_STATUS.HOLDOVER = true ∧ b.clock.sync.hasPred = true ∧ 1000 < b.beaconError))

/-- The block once the misses are told: one more, or none in a row any longer. -/
def missesTold : Block :=
  if 2000 < b.beaconError then (if b.clock.sync.awaits then b.missBeacon else b) else b.setSync (fun x => { x with missed := 0 })

theorem missesTold_writes : WritesOnly [R.TB_SYNC_STATUS.HOLDOVER, R.TB_SYNC_STATUS.LOCK] b (missesTold b) :=
  .ite (.ite (missBeacon_writes b) (.refl b)) (.of_setSync b _)

theorem missesTold_close (h : b.beaconError ≤ 2000) : missesTold b = b.setSync (fun x => { x with missed := 0 }) :=
  if_neg (Nat.not_lt.mpr h)

/-- The lock starts over after a far beacon, and may set again after a near one that ends HOLDOVER. -/
theorem judgeBeacon_eq {x : Block} (hx : x = missesTold b) : b.judgeBeacon =
    (x.setFlag R.TB_SYNC_STATUS.HOLDOVER (beaconFar b)).setSync (fun y => { y with
      relock := !beaconFar b && (y.relock || ((x.flag R.TB_SYNC_STATUS.HOLDOVER && x.clock.sync.hasPred) && !x.flag R.TB_SYNC_STATUS.LOCK)),
      dlySeen := y.dlySeen && !beaconFar b, beacons := if beaconFar b then 0 else y.beacons }) := by
  have hfar : (decide (2000 < b.beaconError) || ((x.flag R.TB_SYNC_STATUS.HOLDOVER && x.clock.sync.hasPred) &&
      decide (1000 < b.beaconError))) = beaconFar b := by
    by_cases h : 2000 < b.beaconError
    · simp [beaconFar, h]
    · rw [hx, missesTold_close b (Nat.not_lt.mp h)]
      show (decide (2000 < b.beaconError) || ((b.flag R.TB_SYNC_STATUS.HOLDOVER && b.clock.sync.hasPred) &&
        decide (1000 < b.beaconError))) = beaconFar b
      simp [beaconFar, Bool.and_assoc]
  rw [← hfar, hx]
  rfl

theorem judgeBeacon_writes : WritesOnly [R.TB_SYNC_STATUS.HOLDOVER, R.TB_SYNC_STATUS.LOCK] b b.judgeBeacon := by
  rw [judgeBeacon_eq b rfl]
  exact ((missesTold_writes b).trans (.of_setFlag _ _ rfl (by decide))).trans (.of_setSync _ _)

theorem judgeBeacon_holdover : b.judgeBeacon.flag R.TB_SYNC_STATUS.HOLDOVER = beaconFar b := by
  rw [judgeBeacon_eq b rfl, setSync_flag, flag_setFlag_self _ _ _ rfl rfl]

/-- A beacon within 2 µs ends a row of misses. -/
theorem judgeBeacon_missed (h : b.beaconError ≤ 2000) : b.judgeBeacon.clock.sync.missed = 0 := by
  rw [judgeBeacon_eq b rfl, missesTold_close b h]
  rfl

/-- One that comes so outside HOLDOVER leaves LOCK and what leads to it alone. -/
theorem judgeBeacon_near (h : b.beaconError ≤ 2000) (hheld : b.flag R.TB_SYNC_STATUS.HOLDOVER = false) :
    b.judgeBeacon.flag R.TB_SYNC_STATUS.LOCK = b.flag R.TB_SYNC_STATUS.LOCK ∧
    b.judgeBeacon.clock.sync.dlySeen = b.clock.sync.dlySeen ∧ b.judgeBeacon.clock.sync.beacons = b.clock.sync.beacons := by
  have hfar : beaconFar b = false := by simp [beaconFar, hheld, h]
  rw [judgeBeacon_eq b rfl, missesTold_close b h, hfar]
  exact ⟨flag_setFlag_other _ _ _ _ rfl (by decide), Bool.and_true _, rfl⟩

/-! ### The follower it makes, and the tick it places -/

/-- The period a beacon gives. -/
def beaconPeriod : Nat := leField body 12 3 % 2 ^ 22

/-- The master's press time at the next tick, by a beacon. -/
def beaconNextPt : PT := BitVec.ofNat 48 (leField body 6 6) + BitVec.ofNat 48 (beaconPeriod body)

/-- The unit whose delay a beacon reports, with the mark of a valid report. -/
def beaconDlyId : Nat := leField body 15 1 % 16 + leField body 15 1 / 128 * 128

/-- The unit is a follower of the beacon's sender. -/
def beaconFollowed : Block := (b.judgeBeacon.set R.TB_SYNC_STATUS.ROLE 2).set R.TB_SYNC_STATUS.MASTER_ID (leField body 1 1 % 16)

/-- What the beacon says of its tick is kept. -/
def beaconKept : Block := (beaconFollowed b body).setSync (fun x => { x with
  election := false, awaits := false, masterTick := leField body 2 4,
  replyDue := leField body 2 4 % 16 == (beaconFollowed b body).unitId, rxAt := (beaconFollowed b body).now })

/-- The delay is taken and the next tick placed. -/
def beaconPlaced : Block := ((beaconKept b body).takeDelay (beaconDlyId body) (leField body 16 2)).placeTick (beaconPeriod body)

/-- The press time for the next tick is set, as a step or by trimming the rate. -/
def beaconTimed : Block :=
  let e := (beaconPlaced b body).ptError (BitVec.ofNat 48 (leField body 6 6))
  let x := (beaconPlaced b body).setSync (fun y => { y with
    ptAdjust := some (beaconNextPt body), ptStep := if 100 < e.natAbs then some e else none })
  if 100 < e.natAbs then x else x.trimPt (beaconNextPt body)

/-- LOCK sets at the eighth beacon after a delay report (R166). -/
def beaconLocked (b : Block) : Block := if 8 ≤ b.clock.sync.beacons ∧ b.clock.sync.dlySeen then b.syncLock else b

/-- A valid beacon that a unit on the bus hears, and that it did not send, is taken whole. -/
theorem stepBeaconRx_heard {line : List Bool} (hbody : heardBody 1 40 line = some body) (hruns : b.syncRuns = true) (hrole : b.role ≠ 3) :
    b.stepBeaconRx line = ((beaconLocked (beaconTimed b body)).periodMismatch (beaconPeriod body)).peerDeliver
      (leField body 1 1 % 16) (body.drop 19) := by
  have hon : (!b.syncRuns || b.role == 3) = false := by simp [hruns, hrole]
  simp only [Block.stepBeaconRx, hbody, hon, Bool.false_eq_true, if_false]
  rfl

/-- Any other frame changes nothing. -/
theorem stepBeaconRx_ignored (line : List Bool) (h : heardBody 1 40 line = none ∨ b.syncRuns = false ∨ b.role = 3) :
    b.stepBeaconRx line = b := by
  unfold Block.stepBeaconRx
  split
  · rfl
  next body hbody =>
    rw [hbody] at h
    exact if_pos (by simpa using h)

theorem beaconFollowed_writes : WritesOnly [R.TB_SYNC_STATUS.HOLDOVER, R.TB_SYNC_STATUS.LOCK, R.TB_SYNC_STATUS.ROLE, R.TB_SYNC_STATUS.MASTER_ID]
    b (beaconFollowed b body) :=
  (((judgeBeacon_writes b).mono (by decide)).trans (.of_set _ _ rfl (by decide))).trans (.of_set _ _ rfl (by decide))

/-- The follower's status: its role, its master, and HOLDOVER as the beacon's moment says. -/
theorem beaconFollowed_status : (beaconFollowed b body).role = 2 ∧
    (beaconFollowed b body).get R.TB_SYNC_STATUS.MASTER_ID = leField body 1 1 % 16 ∧
    (beaconFollowed b body).flag R.TB_SYNC_STATUS.HOLDOVER = beaconFar b ∧
    (beaconFollowed b body).flag R.TB_SYNC_STATUS.LOCK = b.judgeBeacon.flag R.TB_SYNC_STATUS.LOCK := by
  have hflag : ∀ f : RegField, Apart R.TB_SYNC_STATUS.ROLE f → Apart R.TB_SYNC_STATUS.MASTER_ID f →
      (beaconFollowed b body).flag f = b.judgeBeacon.flag f := fun f hrole hid => by
    rw [Block.flag, beaconFollowed, get_set_other _ _ _ _ rfl hid, get_set_other _ _ _ _ rfl hrole, Block.flag]
  refine ⟨?_, ?_, (hflag _ (by decide) (by decide)).trans (judgeBeacon_holdover b), hflag _ (by decide) (by decide)⟩
  · rw [Block.role, beaconFollowed, get_set_other _ _ _ _ rfl (by decide), get_set_self _ _ _ rfl]
    rfl
  · rw [beaconFollowed, get_set_self _ _ _ rfl]
    exact Nat.mod_mod _ _

/-- LOCK sets, and nothing but LOCK. -/
theorem syncLock_writes : WritesOnly [R.TB_SYNC_STATUS.LOCK] b b.syncLock :=
  .ite (.refl b) ((WritesOnly.of_setFlag b true rfl (by decide)).trans (.of_event _ _ _))

theorem syncLock_lock : b.syncLock.flag R.TB_SYNC_STATUS.LOCK = true := by
  unfold Block.syncLock
  split
  · assumption
  · exact setFlag_event_flag _ R.TB_SYNC_STATUS.LOCK _ _ _ rfl rfl (by decide)

theorem syncLock_clock : b.syncLock.clock = b.clock := by
  unfold Block.syncLock
  split
  · rfl
  · rw [block_event_clock, Block.setFlag, block_set_clock]

/-! ### The delay report -/

/-- What a delay report, of this unit's delay or of another's, makes of what the unit knows of its bus (R166, R177). -/
def delayTaken (own : Prop) [Decidable own] (dly : Nat) (x : Sync) : Sync :=
  if own then { x with delay := dly, dlySeen := true, relock := false, beacons := if x.dlySeen then x.beacons + 1 else 0 }
  else { x with beacons := if x.dlySeen then x.beacons + 1 else x.beacons }

theorem delayTaken_kept (own : Prop) [Decidable own] (dly : Nat) (x : Sync) : (delayTaken own dly x).missed = x.missed ∧
    (delayTaken own dly x).awaits = x.awaits ∧ (delayTaken own dly x).rxAt = x.rxAt ∧ (delayTaken own dly x).replyDue = x.replyDue ∧
    (delayTaken own dly x).masterTick = x.masterTick := by
  unfold delayTaken
  split <;> exact ⟨rfl, rfl, rfl, rfl, rfl⟩

theorem takeDelay_writes (id dly : Nat) : WritesOnly [R.TB_SYNC_STATUS.DELAY, R.TB_SYNC_STATUS.LOCK] b (b.takeDelay id dly) := by
  refine .ite ?_ (.of_setSync b _)
  have hset : WritesOnly [R.TB_SYNC_STATUS.DELAY, R.TB_SYNC_STATUS.LOCK] b ((b.setSync (delayTaken True dly)).set R.TB_SYNC_STATUS.DELAY (min 4095 dly)) :=
    (WritesOnly.of_setSync b _).trans (.of_set _ _ rfl (by decide))
  exact .ite (hset.trans ((syncLock_writes _).mono (by decide))) hset

theorem takeDelay_sync (id dly : Nat) : (b.takeDelay id dly).clock.sync = delayTaken (id = b.unitId + 128) dly b.clock.sync := by
  unfold Block.takeDelay delayTaken
  simp only []
  split
  · split
    · rw [syncLock_clock]; rfl
    · rfl
  · rfl

/-- A report of another unit's delay writes no register. -/
theorem takeDelay_other {id : Nat} (dly : Nat) (h : id ≠ b.unitId + 128) (f : RegField) : (b.takeDelay id dly).flag f = b.flag f := by
  rw [Block.takeDelay, if_neg h]
  rfl

/-! ### The tick placed and the press time -/

theorem beaconKept_writes : WritesOnly [R.TB_SYNC_STATUS.HOLDOVER, R.TB_SYNC_STATUS.LOCK, R.TB_SYNC_STATUS.ROLE, R.TB_SYNC_STATUS.MASTER_ID]
    b (beaconKept b body) := (beaconFollowed_writes b body).trans (.of_setSync _ _)

theorem beaconKept_unitId : (beaconKept b body).unitId = b.unitId := (beaconKept_writes b body).unitId (by decide)

theorem trimPt_clock (target : PT) : (b.trimPt target).clock.sync = b.clock.sync := by
  unfold Block.trimPt
  simp only []
  split <;> rfl

theorem trimPt_writes (ws : List RegField) (target : PT) : WritesOnly ws b (b.trimPt target) :=
  .ite ⟨rfl, rfl, fun _ _ _ => rfl⟩ (.refl b)

theorem placeTick_writes (ws : List RegField) (period : Nat) : WritesOnly ws b (b.placeTick period) := .of_setSync b _

theorem beaconPlaced_writes : WritesOnly [R.TB_SYNC_STATUS.DELAY, R.TB_SYNC_STATUS.LOCK] (beaconKept b body) (beaconPlaced b body) :=
  (takeDelay_writes _ _ _).trans (placeTick_writes _ _ _)

theorem beaconTimed_writes : WritesOnly [R.TB_SYNC_STATUS.DELAY, R.TB_SYNC_STATUS.LOCK] (beaconKept b body) (beaconTimed b body) := by
  have hset := (beaconPlaced_writes b body).trans (.of_setSync (beaconPlaced b body) (fun y => { y with
    ptAdjust := some (beaconNextPt body),
    ptStep := if 100 < ((beaconPlaced b body).ptError (BitVec.ofNat 48 (leField body 6 6))).natAbs then
      some ((beaconPlaced b body).ptError (BitVec.ofNat 48 (leField body 6 6))) else none }))
  exact .ite hset (hset.trans (trimPt_writes _ _ _))

/-- What the unit knows of its bus once the delay report is taken. -/
def beaconSync : Sync := delayTaken (beaconDlyId body = b.unitId + 128) (leField body 16 2) (beaconKept b body).clock.sync

theorem beaconPlaced_sync : (beaconPlaced b body).clock.sync = { beaconSync b body with
    hasPred := true, period := beaconPeriod body,
    predicted := 10 * (b.now : Int) - 12800 - (beaconSync b body).delay + 10 * (beaconPeriod body : Nat) } := by
  have hsync := takeDelay_sync (beaconKept b body) (beaconDlyId body) (leField body 16 2)
  have hnow : ((beaconKept b body).takeDelay (beaconDlyId body) (leField body 16 2)).now = b.now :=
    (takeDelay_writes _ _ _).now.trans (beaconKept_writes b body).now
  simp only [beaconPlaced, Block.placeTick, block_setSync_clock, hsync, hnow, beaconKept_unitId]
  rfl

theorem beaconTimed_sync : (beaconTimed b body).clock.sync = { (beaconPlaced b body).clock.sync with
    ptAdjust := some (beaconNextPt body), ptStep := (beaconTimed b body).clock.sync.ptStep } := by
  unfold beaconTimed
  simp only []
  split
  · rfl
  · rw [trimPt_clock]; rfl

/-! ### LOCK and the mismatch of periods -/

theorem beaconLocked_writes : WritesOnly [R.TB_SYNC_STATUS.LOCK] b (beaconLocked b) := .ite (syncLock_writes b) (.refl b)

theorem beaconLocked_clock : (beaconLocked b).clock = b.clock := by
  unfold beaconLocked
  split
  · exact syncLock_clock b
  · rfl

theorem beaconLocked_eighth (hcount : 8 ≤ b.clock.sync.beacons) (hseen : b.clock.sync.dlySeen = true) :
    (beaconLocked b).flag R.TB_SYNC_STATUS.LOCK = true := by
  rw [beaconLocked, if_pos ⟨hcount, hseen⟩]
  exact syncLock_lock b

theorem beaconLocked_unseen (h : b.clock.sync.dlySeen = false) : beaconLocked b = b := if_neg (by simp [h])

theorem periodMismatch_writes (p : Nat) : WritesOnly [R.TB_SYNC_STATUS.PERIOD_MISMATCH] b (b.periodMismatch p) := by
  have hset (v : Bool) : WritesOnly [R.TB_SYNC_STATUS.PERIOD_MISMATCH] b (b.setFlag R.TB_SYNC_STATUS.PERIOD_MISMATCH v) :=
    .of_setFlag b v rfl (by decide)
  exact .ite ((hset false).trans (.of_setSync _ _)) (.ite (hset true) (((hset true).trans (.of_setSync _ _)).trans (.of_event _ _ _)))

theorem periodMismatch_sync (p : Nat) :
    (b.periodMismatch p).clock.sync = { b.clock.sync with mismatch := (b.periodMismatch p).clock.sync.mismatch } := by
  unfold Block.periodMismatch
  simp only []
  split
  · rfl
  · split
    · rfl
    · rw [block_event_clock]; rfl

/-- Different periods are a mismatch (R170). -/
theorem periodMismatch_flag {p : Nat} (h : p ≠ b.get R.TB_PERIOD.PERIOD) :
    (b.periodMismatch p).flag R.TB_SYNC_STATUS.PERIOD_MISMATCH = true := by
  have hset : (b.setFlag R.TB_SYNC_STATUS.PERIOD_MISMATCH true).flag R.TB_SYNC_STATUS.PERIOD_MISMATCH = true :=
    flag_setFlag_self _ _ _ rfl rfl
  unfold Block.periodMismatch
  simp only []
  rw [if_neg h]
  split
  · exact hset
  · rw [block_event_flag _ _ _ (by decide)]
    exact hset

/-! ### The whole beacon -/

/-- The block once the beacon is taken, before its peer slot is delivered. -/
def beaconTaken : Block := (beaconLocked (beaconTimed b body)).periodMismatch (beaconPeriod body)

/-- After the unit has become a follower a beacon writes DELAY, LOCK and PERIOD_MISMATCH. -/
theorem beaconTaken_writes : WritesOnly [R.TB_SYNC_STATUS.DELAY, R.TB_SYNC_STATUS.LOCK, R.TB_SYNC_STATUS.PERIOD_MISMATCH]
    (beaconFollowed b body) (beaconTaken b body) :=
  ((((WritesOnly.of_setSync (beaconFollowed b body) _).trans ((beaconTimed_writes b body).mono (by decide)))).trans
    ((beaconLocked_writes _).mono (by decide))).trans ((periodMismatch_writes _ _).mono (by decide))

theorem beaconTaken_sync : (beaconTaken b body).clock.sync = { beaconSync b body with
    hasPred := true, period := beaconPeriod body,
    predicted := 10 * (b.now : Int) - 12800 - (beaconSync b body).delay + 10 * (beaconPeriod body : Nat),
    ptAdjust := some (beaconNextPt body), ptStep := (beaconTimed b body).clock.sync.ptStep,
    mismatch := (beaconTaken b body).clock.sync.mismatch } := by
  rw [beaconTaken, periodMismatch_sync, beaconLocked_clock, beaconTimed_sync, beaconPlaced_sync]

theorem beaconTaken_mismatch (h : beaconPeriod body ≠ b.get R.TB_PERIOD.PERIOD) :
    (beaconTaken b body).flag R.TB_SYNC_STATUS.PERIOD_MISMATCH = true := by
  have hown : (beaconLocked (beaconTimed b body)).get R.TB_PERIOD.PERIOD = b.get R.TB_PERIOD.PERIOD := by
    rw [(beaconLocked_writes _).get _ (by decide) (by decide), (beaconTimed_writes b body).get _ (by decide) (by decide),
      (beaconKept_writes b body).get _ (by decide) (by decide)]
  exact periodMismatch_flag _ (by rwa [hown])

/-- A report of another unit's delay leaves LOCK to the count of beacons. -/
theorem beaconTimed_lock (hdly : beaconDlyId body ≠ b.unitId + 128) :
    (beaconTimed b body).flag R.TB_SYNC_STATUS.LOCK = b.judgeBeacon.flag R.TB_SYNC_STATUS.LOCK := by
  obtain ⟨-, -, -, hlock⟩ := beaconFollowed_status b body
  rw [← beaconKept_unitId b body] at hdly
  have hplaced : (beaconPlaced b body).flag R.TB_SYNC_STATUS.LOCK = (beaconKept b body).flag R.TB_SYNC_STATUS.LOCK :=
    takeDelay_other (beaconKept b body) (leField body 16 2) hdly R.TB_SYNC_STATUS.LOCK
  have htimed : WritesOnly [] (beaconPlaced b body) (beaconTimed b body) :=
    .ite (.of_setSync _ _) ((WritesOnly.of_setSync _ _).trans (trimPt_writes _ _ _))
  rw [htimed.flag (by decide) (by simp), hplaced, beaconKept, setSync_flag, hlock]

/-- A near beacon outside HOLDOVER that reports another unit's delay sets LOCK when it is the eighth after this unit's report, and
leaves it alone before that report (R166). -/
theorem beaconTaken_lock (hnear : b.beaconError ≤ 2000) (hheld : b.flag R.TB_SYNC_STATUS.HOLDOVER = false)
    (hdly : beaconDlyId body ≠ b.unitId + 128) :
    (b.clock.sync.dlySeen = true → 7 ≤ b.clock.sync.beacons → (beaconTaken b body).flag R.TB_SYNC_STATUS.LOCK = true) ∧
    (b.clock.sync.dlySeen = false → (beaconTaken b body).flag R.TB_SYNC_STATUS.LOCK = b.flag R.TB_SYNC_STATUS.LOCK) := by
  obtain ⟨hlock, hdlySeen, hbeacons⟩ := judgeBeacon_near b hnear hheld
  have hmismatch : (beaconTaken b body).flag R.TB_SYNC_STATUS.LOCK = (beaconLocked (beaconTimed b body)).flag R.TB_SYNC_STATUS.LOCK :=
    (periodMismatch_writes _ _).flag (by decide) (by decide)
  have hsync : (beaconTimed b body).clock.sync.dlySeen = b.clock.sync.dlySeen ∧ (beaconTimed b body).clock.sync.beacons =
      if b.clock.sync.dlySeen then b.clock.sync.beacons + 1 else b.clock.sync.beacons := by
    rw [beaconTimed_sync, beaconPlaced_sync, ← hdlySeen, ← hbeacons]
    simp only [beaconSync, delayTaken, hdly, if_false]
    exact ⟨rfl, rfl⟩
  rw [hmismatch]
  refine ⟨fun hseen hcount => beaconLocked_eighth _ ?_ (hsync.1.trans hseen), fun hunseen => ?_⟩
  · rw [hsync.2, if_pos hseen]
    omega
  · rw [beaconLocked_unseen _ (hsync.1.trans hunseen), beaconTimed_lock b body hdly, hlock]

/-- What a beacon leaves of what the unit knew when it took the beacon's tick. -/
theorem beaconSync_kept : (beaconSync b body).missed = b.judgeBeacon.clock.sync.missed ∧ (beaconSync b body).awaits = false ∧
    (beaconSync b body).rxAt = b.now ∧ (beaconSync b body).replyDue = (leField body 2 4 % 16 == b.unitId) ∧
    (beaconSync b body).masterTick = leField body 2 4 := by
  obtain ⟨hmissed, hawaits, hrxAt, hreply, htick⟩ :=
    delayTaken_kept (beaconDlyId body = b.unitId + 128) (leField body 16 2) (beaconKept b body).clock.sync
  have hunit := (beaconFollowed_writes b body).unitId (by decide)
  have hnow := (beaconFollowed_writes b body).now
  rw [beaconSync, hmissed, hawaits, hrxAt, hreply, htick, beaconKept, block_setSync_clock]
  simp only [hunit, hnow, and_true]
  rfl

end

/-! ## Replies, searches and claims (R160, R163, R164, R171, R172, R174, R183) -/

section
variable {b : Block}

theorem stepReplyRx_heard {line : List Bool} {body : List Byte} (trip : Nat) (hbody : heardBody 2 28 line = some body)
    (hruns : b.syncRuns = true) : b.stepReplyRx line trip =
      (if b.role = 3 ∧ leField body 2 4 = b.get R.TB_FRAME.FRAME then
        b.setSync (fun y => { y with
          trips := (leField body 1 1 % 16, (((trip : Int) - 20000) ::
              ((y.trips.find? (fun p => p.1 == leField body 1 1 % 16)).map (·.2)).getD []).take 4) ::
            y.trips.filter (fun p => p.1 != leField body 1 1 % 16), dlyNext := some (leField body 1 1 % 16) })
      else b).peerDeliver (leField body 1 1 % 16) (body.drop 7) := by
  simp only [Block.stepReplyRx, hbody, hruns, Bool.not_true, Bool.false_eq_true, if_false]

/-- A unit that owes no reply, or at any other time than 20.0 µs after the beacon, sends none (R163). -/
theorem stepReplyTx_notDue (clash : Option Nat) (h : b.clock.sync.replyDue = false ∨ b.now ≠ b.clock.sync.rxAt + 2000) :
    b.stepReplyTx clash = b := by
  refine if_neg ?_
  rintro ⟨-, -, hdue, hnow⟩
  rcases h with h | h
  · exact absurd hdue (by simp [h])
  · exact h hnow

theorem stepBeaconMissed_due (hon : b.syncOn = true) (hrole : b.role = 2) (hawaits : b.clock.sync.awaits = true)
    (hlate : b.clock.sync.arrival + 2000 ≤ 10 * (b.now : Int)) : b.stepBeaconMissed = b.missBeacon :=
  if_pos ⟨hon, hrole, hawaits, hlate⟩

theorem stepBeaconMissed_notDue (h : b.clock.sync.awaits = false ∨ 10 * (b.now : Int) < b.clock.sync.arrival + 2000) :
    b.stepBeaconMissed = b := by
  refine if_neg ?_
  rintro ⟨-, -, hawaits, hlate⟩
  rcases h with h | h
  · exact absurd hawaits (by simp [h])
  · omega

/-- A search that found no beacon leads to an election, or to HOLDOVER (R171, R183). -/
theorem stepSearchTimeout_due (hon : b.syncOn = true) (hrole : b.role = 1 ∨ (b.role = 2 ∧ b.clock.sync.hasPred = false))
    (hlate : b.clock.sync.searchFrom + b.lossN * b.periodSet ≤ b.now) {x : Block}
    (hx : x = b.setSync (fun y => { y with searchFrom := b.now })) : b.stepSearchTimeout =
      if b.flag R.TB_SYNC_CTL.MASTER_CAP then
        x.setSync (fun y => { y with election := true, electionAt := b.now, heardLower := false })
      else (x.set R.TB_SYNC_STATUS.ROLE 2).setFlag R.TB_SYNC_STATUS.HOLDOVER true := by
  have hdue : b.syncOn ∧ (b.role = 1 ∨ (b.role = 2 ∧ !b.clock.sync.hasPred)) ∧
      b.clock.sync.searchFrom + b.lossN * b.periodSet ≤ b.now := ⟨hon, hrole.imp_right fun h => ⟨h.1, by simp [h.2]⟩, hlate⟩
  have hcap : x.flag R.TB_SYNC_CTL.MASTER_CAP = b.flag R.TB_SYNC_CTL.MASTER_CAP := by rw [hx]; rfl
  rw [Block.stepSearchTimeout, if_pos hdue]
  simp only [← hx, hcap]
  refine ite_congr rfl (fun h => ?_) fun _ => rfl
  rw [Block.beginElection, if_pos (hcap.trans h), hx]
  rfl

/-- A unit in an election whose claim slot is now, no lower one heard (R163, R172). -/
def ClaimDue (b : Block) : Prop :=
  b.syncRuns = true ∧ b.clock.sync.election = true ∧ b.clock.sync.heardLower = false ∧ b.inClaimSlot = true

/-- The claim slot lies 50 µs and 20 µs for each lower id after the election tick, and is 20 µs long. -/
theorem inClaimSlot_of_slot {slot : Nat} (hslot : slot = b.clock.sync.electionAt + 100 * (50 + 20 * b.unitId)) (hfrom : slot ≤ b.now)
    (hto : b.now < slot + 2000) : b.inClaimSlot = true := by
  subst hslot
  exact Bool.and_eq_true_iff.mpr ⟨decide_eq_true hfrom, decide_eq_true hto⟩

/-- The claim as far as it was driven (R174). -/
def claimDriven (b : Block) (clash : Option Nat) : Block :=
  b.setSync (fun y => { y with lastTx := driven (busFrame b.claimBody) clash })

/-- A claim that is due makes the unit master, or collides (R172, R174). -/
theorem stepClaimTx_due (clash : Option Nat) (h : ClaimDue b) : b.stepClaimTx clash =
    if clashes (busFrame b.claimBody) clash then ((claimDriven b clash).setSync (fun y => { y with election := false })).collision 3
    else (claimDriven b clash).becomeMaster := by
  obtain ⟨hruns, helection, hlower, hin⟩ := h
  exact if_pos ⟨hruns, helection, by simp [hlower], hin⟩

theorem stepClaimTx_clear {clash : Option Nat} (h : ClaimDue b) (hclash : clashes (busFrame b.claimBody) clash = false) :
    b.stepClaimTx clash = (claimDriven b clash).becomeMaster := by
  rw [stepClaimTx_due clash h, hclash]
  exact if_neg Bool.false_ne_true

theorem stepClaimTx_collides {clash : Option Nat} (h : ClaimDue b) (hclash : clashes (busFrame b.claimBody) clash = true) :
    b.stepClaimTx clash = ((claimDriven b clash).setSync (fun y => { y with election := false })).collision 3 := by
  rw [stepClaimTx_due clash h, if_pos hclash]

/-- A claim of a lower unit ends the unit's part in the election (R172). -/
theorem stepClaimRx_lower {line : List Bool} {body : List Byte} (hbody : heardBody 3 11 line = some body) (hruns : b.syncRuns = true)
    (helection : b.clock.sync.election = true) (hlower : leField body 1 1 % 16 < b.unitId) :
    b.stepClaimRx line = b.setSync (fun y => { y with heardLower := true, election := false }) := by
  simp only [Block.stepClaimRx, hbody]
  exact if_pos ⟨hruns, helection, hlower⟩

/-- A collision sets COLLISION and leaves the role and the bus alone (R174). -/
theorem collision_shows (b : Block) (type : Nat) : (b.collision type).role = b.role ∧ (b.collision type).flag R.TB_SYNC_STATUS.COLLISION = true ∧
    (b.collision type).clock = b.clock ∧ (b.collision type).undef = b.undef := by
  refine ⟨?_, setFlag_event_flag _ R.TB_SYNC_STATUS.COLLISION _ _ _ rfl rfl (by decide), ?_, ?_⟩
  · rw [Block.role, Block.collision, block_event_get _ _ _ (by decide)]
    exact get_setFlag_other _ _ _ _ rfl (by decide)
  · rw [Block.collision, block_event_clock, Block.setFlag, block_set_clock]
  · rw [Block.collision, block_event_undef, Block.setFlag, block_set_undef]

/-- The unit shown as its own master (R172). -/
def masterNamed (b : Block) : Block := (b.set R.TB_SYNC_STATUS.ROLE 3).set R.TB_SYNC_STATUS.MASTER_ID b.unitId

theorem freePt_writes (ws : List RegField) (b : Block) : WritesOnly ws b b.freePt := ⟨rfl, rfl, fun _ _ _ => rfl⟩

theorem becomeMaster_writes (b : Block) : WritesOnly [R.TB_SYNC_STATUS.HOLDOVER] (masterNamed b) b.becomeMaster :=
  (((WritesOnly.of_setFlag (masterNamed b) false rfl (by decide)).trans (.of_setSync _ _)).trans (freePt_writes _ _)).trans
    (.of_event _ _ _)

/-- A master shows its role and itself as the master, and its election is over (R172, R178). -/
theorem becomeMaster_shows (b : Block) : b.becomeMaster.role = 3 ∧ b.becomeMaster.get R.TB_SYNC_STATUS.MASTER_ID = b.unitId ∧
    b.becomeMaster.clock.sync.election = false ∧ b.becomeMaster.undef = b.undef := by
  have hwrites := becomeMaster_writes b
  refine ⟨?_, ?_, congrArg (fun c : Clock => c.sync.election) (block_event_clock ..), hwrites.undef⟩
  · rw [Block.role, hwrites.get _ (by decide) (by decide), masterNamed, get_set_other _ _ _ _ rfl (by decide), get_set_self _ _ _ rfl]
    rfl
  · rw [hwrites.get _ (by decide) (by decide), masterNamed, get_set_self _ _ _ rfl]
    exact Nat.mod_eq_of_lt (get_lt R.TB_SYNC_CTL.UNIT_ID _)

end

/-- A beacon heard leaves the unit a follower of its sender, with what the statement says of it. -/
theorem stepBeaconRx_shows (b : Block) (body : List Byte) {line : List Bool} {t : Block} (hbody : heardBody 1 40 line = some body)
    (hruns : b.syncRuns = true) (hrole : b.role ≠ 3) (ht : t = b.stepBeaconRx line) :
    t.clock.sync = (beaconTaken b body).clock.sync ∧ t.undef = b.undef ∧ t.role = 2 ∧
    t.get R.TB_SYNC_STATUS.MASTER_ID = leField body 1 1 % 16 ∧ t.flag R.TB_SYNC_STATUS.HOLDOVER = beaconFar b ∧
    ∀ f : RegField, f.idx ≠ 0xCB → t.flag f = (beaconTaken b body).flag f := by
  have hpeer : Exchanged (beaconTaken b body) t := by
    rw [ht, stepBeaconRx_heard b body hbody hruns hrole]
    exact peerDeliver_exchanged _ _ _
  have hafter := (beaconTaken_writes b body).trans (.of_exchanged hpeer)
  obtain ⟨hfollower, hmaster, hholdover, -⟩ := beaconFollowed_status b body
  refine ⟨by rw [hpeer.clock], hafter.undef.trans (beaconFollowed_writes b body).undef, ?_, ?_, ?_, fun f hf => hpeer.flag hf⟩
  · exact (hafter.get R.TB_SYNC_STATUS.ROLE (by decide) (by decide)).trans hfollower
  · exact (hafter.get _ (by decide) (by decide)).trans hmaster
  · exact (hafter.flag (by decide) (by decide)).trans hholdover

/-- Settles O54: a beacon's stages one after the other, and each other event of the bus where it is due and where it is not. -/
theorem syncBus : Obligations.SyncBus := by
  refine ⟨⟨fun dt l s hs h => ?ignored, fun dt l body s hs hbody hruns hrole => ?beacon⟩,
    fun dt clash f x s hs hruns hrole hdue hnow hf hx => ?reply, fun dt clash s hs h => ?noReply,
    fun dt trip l body s hs hbody hruns h => ?replyHeard, fun dt trip l body x s hs hbody hruns hrole htick hx => ?measured,
    fun dt s hs hon hrole hawaits hlate hmiss => ?missed, fun dt s hs hon hrole hawaits hlate hmiss => ?lost,
    fun dt s hs h => ?notMissed, fun dt x s hs hon hrole hlate hx => ?search,
    fun dt slot clash s hs hruns helection hlower hslot hfrom hto => ⟨fun hclash => ?claimed, fun hclash => ?collided⟩,
    fun dt l body s hs hbody hruns helection hlower => ?claimHeard⟩
  case ignored =>
    show s.run dt (fun b => b.stepBeaconRx l) = _
    rw [run_result _ hs, stepBeaconRx_ignored (s.m.elapse dt) l h]
  case beacon =>
    obtain ⟨hsync, hundef, hfollower, hmaster, hholdover, hflag⟩ :=
      stepBeaconRx_shows (s.m.elapse dt) body hbody hruns hrole rfl
    obtain ⟨hmissed, hawaits, hrxAt, hreply, htick⟩ := beaconSync_kept (s.m.elapse dt) body
    refine ⟨_, (run_result _ hs : s.run dt (fun b => b.stepBeaconRx l) = _), ?_⟩
    rw [result_m (hundef.trans hs), hsync, beaconTaken_sync, hflag R.TB_SYNC_STATUS.LOCK (by decide),
      hflag R.TB_SYNC_STATUS.PERIOD_MISMATCH (by decide)]
    exact ⟨hfollower, hmaster, hholdover, fun hnear => hmissed.trans (judgeBeacon_missed _ hnear), rfl, hawaits, hrxAt, hreply, htick,
      rfl, rfl, rfl, beaconTaken_mismatch (s.m.elapse dt) body, beaconTaken_lock (s.m.elapse dt) body⟩
  case reply =>
    show s.run dt (fun b => b.stepReplyTx clash) = _
    rw [run_result _ hs, hx, hf, Block.stepReplyTx, if_pos ⟨hruns, hrole, hdue, hnow⟩]
    rfl
  case noReply =>
    show s.run dt (fun b => b.stepReplyTx clash) = _
    rw [run_result _ hs, stepReplyTx_notDue (b := s.m.elapse dt) clash h]
  case replyHeard =>
    show s.run dt (fun b => b.stepReplyRx l trip) = _
    rw [run_result _ hs, stepReplyRx_heard (b := s.m.elapse dt) trip hbody hruns, if_neg]
    rintro ⟨hrole, htick⟩
    rcases h with h | h
    · exact h hrole
    · exact h htick
  case measured =>
    show s.run dt (fun b => b.stepReplyRx l trip) = _
    rw [run_result _ hs, stepReplyRx_heard (b := s.m.elapse dt) trip hbody hruns, if_pos ⟨hrole, htick⟩, hx]
  case missed =>
    show s.run dt Block.stepBeaconMissed = _
    rw [run_result _ hs, stepBeaconMissed_due (b := s.m.elapse dt) hon hrole hawaits hlate, missBeacon_early (b := s.m.elapse dt) hmiss]
    rfl
  case lost =>
    refine ⟨_, (run_result _ hs : s.run dt Block.stepBeaconMissed = _), ?_⟩
    rw [stepBeaconMissed_due (b := s.m.elapse dt) hon hrole hawaits hlate, result_m ((missBeacon_writes (s.m.elapse dt)).undef.trans hs)]
    exact missBeacon_last_shows (b := s.m.elapse dt) hmiss
  case notMissed =>
    show s.run dt Block.stepBeaconMissed = _
    rw [run_result _ hs, stepBeaconMissed_notDue (b := s.m.elapse dt) h]
  case search =>
    show s.run dt Block.stepSearchTimeout = _
    rw [run_result _ hs, stepSearchTimeout_due (b := s.m.elapse dt) hon hrole hlate rfl, hx]
    rfl
  case claimed =>
    have hdue : ClaimDue (s.m.elapse dt) := ⟨hruns, helection, hlower, inClaimSlot_of_slot hslot hfrom hto⟩
    obtain ⟨hmaster, hid, hover, hundef⟩ := becomeMaster_shows (claimDriven (s.m.elapse dt) clash)
    refine ⟨_, (run_result _ hs : s.run dt (fun b => b.stepClaimTx clash) = _), ?_⟩
    rw [stepClaimTx_clear hdue hclash, result_m (hundef.trans hs)]
    exact ⟨hmaster, hid, hover⟩
  case collided =>
    have hdue : ClaimDue (s.m.elapse dt) := ⟨hruns, helection, hlower, inClaimSlot_of_slot hslot hfrom hto⟩
    obtain ⟨hrole, hshows, hclock, hundef⟩ := collision_shows
      ((claimDriven (s.m.elapse dt) clash).setSync (fun y => { y with election := false })) 3
    refine ⟨_, (run_result _ hs : s.run dt (fun b => b.stepClaimTx clash) = _), ?_⟩
    rw [stepClaimTx_collides hdue hclash, result_m (hundef.trans hs), hclock]
    exact ⟨hrole, hshows, rfl, rfl⟩
  case claimHeard =>
    show s.run dt (fun b => b.stepClaimRx l) = _
    rw [run_result _ hs, stepClaimRx_lower (b := s.m.elapse dt) hbody hruns helection hlower]

end Sys2Proof.Proofs
end

section
/-! PROOFS. The shadow bank of the gain brackets: READY, its expiry, and the copy-back into the pixel records (R263, R268, R269, R298). -/

namespace Sys2Proof.Proofs

open Sys2Proof.Machine Sys2Proof.Laws

/-! ## Memory: cells kept by their address, and cells carried to another address -/

section
variable {d : Byte} {m : Mem}

/-- Keeping the cells at some addresses: those read as before, every other address as an unlisted one. -/
theorem mem_read_filter {lo : Nat} (p : Nat → Bool) (a : Nat) (hm : Mem.wfFrom d lo m = true) :
    Mem.read d (m.filter (fun c => p c.1)) a = if p a then Mem.read d m a else d := by
  induction m generalizing lo with
  | nil => exact (ite_self d).symm
  | cons c rest ih =>
    simp only [Mem.wfFrom, Bool.and_eq_true] at hm
    have hrest := ih hm.2
    have hlow : a < c.1 + 1 → Mem.read d rest a = d := fun h => mem_read_low h hm.2
    by_cases hc : p c.1 = true
    · rw [List.filter_cons_of_pos (p := fun c : Host.Cell => p c.1) hc, Mem.read, Mem.read, hrest]
      grind
    · rw [List.filter_cons_of_neg (p := fun c : Host.Cell => p c.1) hc, Mem.read, hrest]
      grind

/-- Write the cells of `cells` into `m`, each at the address that `f` gives for its own. -/
def carryCells (d : Byte) (f : Nat → Nat) (cells m : Mem) : Mem := cells.foldl (fun m c => Mem.write d m (f c.1) c.2) m

/-- An address that no cell is carried to reads as before. -/
theorem mem_read_carryCells_other (f : Nat → Nat) {cells : Mem} {x : Nat} (hm : Mem.wf d m = true) (hx : ∀ c ∈ cells, x ≠ f c.1) :
    Mem.read d (carryCells d f cells m) x = Mem.read d m x := by
  induction cells generalizing m with
  | nil => rfl
  | cons c rest ih =>
    obtain ⟨hc, hrest⟩ := List.forall_mem_cons.mp hx
    exact (ih (mem_write_wf _ _ hm) hrest).trans (mem_read_write_other _ hm hc)

/-- The cells of a canonical memory lie at its lowest address or above. -/
theorem mem_le_of_wfFrom {lo : Nat} {c : Host.Cell} (hm : Mem.wfFrom d lo m = true) (hc : c ∈ m) : lo ≤ c.1 := by
  induction m generalizing lo with
  | nil => cases hc
  | cons e rest ih =>
    simp only [Mem.wfFrom, Bool.and_eq_true, decide_eq_true_eq] at hm
    obtain ⟨⟨hlo, -⟩, hrest⟩ := hm
    rcases List.mem_cons.mp hc with rfl | hc
    · exact hlo
    · have := ih hrest hc
      omega

/-- Where nothing stood before, an address reads as what was carried to it. -/
theorem mem_read_carryCells {f : Nat → Nat} {cells : Mem} {lo a : Nat} (hcells : Mem.wfFrom d lo cells = true) (hm : Mem.wf d m = true)
    (hinj : ∀ c ∈ cells, f a = f c.1 → a = c.1) (hempty : Mem.read d m (f a) = d) :
    Mem.read d (carryCells d f cells m) (f a) = Mem.read d cells a := by
  induction cells generalizing m lo with
  | nil => exact hempty
  | cons c rest ih =>
    simp only [Mem.wfFrom, Bool.and_eq_true] at hcells
    obtain ⟨-, hrest⟩ := hcells
    obtain ⟨hc, hinjRest⟩ := List.forall_mem_cons.mp hinj
    have hm' := mem_write_wf (f c.1) c.2 hm
    show Mem.read d (carryCells d f rest (Mem.write d m (f c.1) c.2)) (f a) = _
    by_cases ha : a = c.1
    · have hnone : ∀ e ∈ rest, f a ≠ f e.1 := fun e he h => by
        have := mem_le_of_wfFrom hrest he
        have := hinjRest e he h
        omega
      rw [mem_read_carryCells_other f hm' hnone, ha, mem_read_write_same _ _ hm, Mem.read, if_pos rfl]
    · rw [ih hrest hm' hinjRest ((mem_read_write_other _ hm fun h => ha (hc h)).trans hempty), Mem.read, if_neg ha]
      split
      · exact mem_read_low (by omega) hrest
      · rfl

end

/-! ## The copy-back of one field of two bytes (R269, R298) -/

/-- The addresses of the shadow bank. -/
def inShadow (a : Nat) : Bool := decide (0x00600000 ≤ a) && decide (a < 0x00780000)

/-- The addresses of the field at byte `off` of the pixel records. -/
def inField (off a : Nat) : Bool := decide (a < 0x00600000) && (a % 8 == off || a % 8 == off + 1)

/-- The byte of the field at byte `off` of the pixel records that a byte of the shadow is for. -/
def fieldAddr (off a : Nat) : Nat := 8 * ((a - 0x00600000) / 2) + off + a % 2

/-- The shadow in the field at byte `off` of every pixel record. -/
def copyField (off : Nat) (m : Mem) : Mem :=
  carryCells 0#8 (fieldAddr off) (m.filter (fun c => inShadow c.1)) (m.filter (fun c => !inField off c.1))

theorem copyGain_eq_copyField (m : Mem) : copyGain m = copyField 2 m := rfl

theorem fieldAddr_zero : fieldAddr 0 = fun a => 8 * ((a - 0x00600000) / 2) + a % 2 :=
  funext fun a => congrArg (· + a % 2) (Nat.add_zero _)

theorem copyOffset_eq_copyField (m : Mem) : copyOffset m = copyField 0 m := by
  rw [copyField, fieldAddr_zero]
  rfl

theorem inShadow_iff (a : Nat) : inShadow a = true ↔ 0x00600000 ≤ a ∧ a < 0x00780000 := by simp [inShadow]

theorem inField_iff (off a : Nat) : inField off a = true ↔ a < 0x00600000 ∧ (a % 8 = off ∨ a % 8 = off + 1) := by simp [inField]

/-- Two bytes of the shadow never go to one byte of the records. -/
theorem fieldAddr_inj {off a b : Nat} (ha : inShadow a = true) (hb : inShadow b = true) (h : fieldAddr off a = fieldAddr off b) :
    a = b := by
  rw [inShadow_iff] at ha hb
  unfold fieldAddr at h
  omega

/-- What a byte of the shadow goes to lies in the field. -/
theorem inField_fieldAddr {off a : Nat} (hoff : off ≤ 6) (ha : inShadow a = true) : inField off (fieldAddr off a) = true := by
  rw [inShadow_iff] at ha
  rw [inField_iff]
  unfold fieldAddr
  omega

section
variable {off a : Nat} {m : Mem} (hoff : off ≤ 6) (hm : Mem.wf 0#8 m = true)
include hoff hm

/-- A byte of the shadow is copied to its place in the field. -/
theorem copyField_read_fieldAddr (ha : inShadow a = true) : Mem.read 0#8 (copyField off m) (fieldAddr off a) = Mem.read 0#8 m a := by
  have hinj : ∀ c ∈ m.filter (fun c => inShadow c.1), fieldAddr off a = fieldAddr off c.1 → a = c.1 :=
    fun _ hc => fieldAddr_inj ha (List.mem_filter.mp hc).2
  have hempty : Mem.read 0#8 (m.filter (fun c => !inField off c.1)) (fieldAddr off a) = 0#8 := by
    rw [mem_read_filter (fun x => !inField off x) _ hm, inField_fieldAddr hoff ha]
    rfl
  calc Mem.read 0#8 (copyField off m) (fieldAddr off a)
      = Mem.read 0#8 (m.filter (fun c => inShadow c.1)) a :=
        mem_read_carryCells (mem_filter_wfFrom _ hm) (mem_filter_wfFrom _ hm) hinj hempty
    _ = Mem.read 0#8 m a := by rw [mem_read_filter inShadow a hm, if_pos ha]

/-- A byte outside the field is left as it was. -/
theorem copyField_read_other (ha : inField off a = false) : Mem.read 0#8 (copyField off m) a = Mem.read 0#8 m a := by
  have hnone : ∀ c ∈ m.filter (fun c => inShadow c.1), a ≠ fieldAddr off c.1 := by
    rintro c hc rfl
    rw [inField_fieldAddr hoff (List.mem_filter.mp hc).2] at ha
    cases ha
  calc Mem.read 0#8 (copyField off m) a
      = Mem.read 0#8 (m.filter (fun c => !inField off c.1)) a :=
        mem_read_carryCells_other _ (mem_filter_wfFrom _ hm) hnone
    _ = Mem.read 0#8 m a := by rw [mem_read_filter (fun x => !inField off x) a hm, ha]; rfl

/-- The two bytes of a pixel in the shadow are read back from the pixel's record. -/
theorem copyField_read_pixel {p i : Nat} (hp : p < 786432) (hi : i < 2) :
    Mem.read 0#8 (copyField off m) (8 * p + off + i) = Mem.read 0#8 m (0x600000 + 2 * p + i) := by
  have haddr : fieldAddr off (0x600000 + 2 * p + i) = 8 * p + off + i := by unfold fieldAddr; omega
  rw [← haddr]
  exact copyField_read_fieldAddr hoff hm ((inShadow_iff _).mpr (by omega))

/-- A byte above the records, or of another field, is left as it was. -/
theorem copyField_read_outside (ha : 0x600000 ≤ a ∨ (a % 8 ≠ off ∧ a % 8 ≠ off + 1)) :
    Mem.read 0#8 (copyField off m) a = Mem.read 0#8 m a := by
  refine copyField_read_other hoff hm (Bool.eq_false_iff.mpr fun h => ?_)
  rw [inField_iff] at h
  omega

end

/-! ## The events of the shadow -/

section
variable {b : Block}

/-- A READY gain shadow whose 60 s have passed is discarded, counted in CANCELS (R268, R270). -/
theorem stepReadyExpiry_due (hready : b.brk.shadow = .ready) (hgain : b.brk.content = .gain) (hforced : b.brk.forced = none)
    (hdue : b.brk.readyAt + 6000000000 ≤ b.now) : b.stepReadyExpiry = b.idleShadow.inc R.CP_BRK_COUNT.CANCELS := by
  rw [Block.stepReadyExpiry, if_pos ⟨hready, hgain, hforced, hdue⟩, Block.discardShadow, if_pos ⟨.inr hready, hgain⟩]

/-- A shadow that is not READY, or whose 60 s have not passed, is kept (R268). -/
theorem stepReadyExpiry_notDue (h : b.brk.shadow ≠ .ready ∨ b.now < b.brk.readyAt + 6000000000) : b.stepReadyExpiry = b := by
  refine if_neg ?_
  rintro ⟨hready, -, -, hdue⟩
  exact h.elim (· hready) (Nat.not_lt.mpr hdue)

/-- The copy-back of a gain shadow leaves its gains in the records (R269). -/
theorem stepCopybackDone_gain (hcopy : b.brk.copyback = true) (hgain : b.brk.content = .gain) :
    b.stepCopybackDone = { b with mem := copyGain b.mem, brk := { b.brk with copyback := false, copied := true, recValid := true } } := by
  rw [Block.stepCopybackDone, if_pos hcopy, Block.finishCopyback, hgain]

/-- The copy-back of an offset shadow leaves its offsets and the SHUT_BAD flags of its cycle in the records (R298). -/
theorem stepCopybackDone_offsets (hcopy : b.brk.copyback = true) (hoffsets : b.brk.content = .offsets) :
    b.stepCopybackDone = { b with mem := copyShutBad (copyOffset b.mem) (b.night.shutBadWork.getD []),
                                  brk := { b.brk with copyback := false, copied := true },
                                  night := { b.night with shutBadWork := none } } := by
  rw [Block.stepCopybackDone, if_pos hcopy, Block.finishCopyback, hoffsets]

/-- Without a copy-back in progress there is none to complete (R269). -/
theorem stepCopybackDone_idle (hcopy : b.brk.copyback = false) : b.stepCopybackDone = b := if_neg (by simp [hcopy])

end

/-- Settles O59: each event of the shadow where it is due and where it is not, and the two copy-backs as the copy of one field. -/
theorem bracketShadowMoves : Obligations.BracketShadowMoves := by
  refine ⟨fun dt s hs => ?loadDone, fun dt s hs hready hgain hforced hdue => ?expired, fun dt s hs h => ?notExpired,
    fun dt s hs hcopy hgain => ?gain, fun dt s hs hcopy hoffsets => ?offsets, fun dt s hs hcopy => ?noCopyback,
    fun m hm => ⟨fun p i hp hi => ⟨?gainBytes, ?offsetBytes⟩, fun a ha => ?gainFrame, fun a ha => ?offsetFrame⟩⟩
  case loadDone => exact run_result Block.stepLoadDone hs
  case expired =>
    refine ⟨_, (run_result _ hs : s.run dt Block.stepReadyExpiry = _), ?_⟩
    rw [stepReadyExpiry_due (b := s.m.elapse dt) hready hgain hforced hdue, result_m]
    · exact ⟨rfl, rfl, rfl⟩
    · exact hs
  case notExpired =>
    show s.run dt Block.stepReadyExpiry = _
    rw [run_result _ hs, stepReadyExpiry_notDue (b := s.m.elapse dt) h]
  case gain =>
    refine ⟨_, (run_result _ hs : s.run dt Block.stepCopybackDone = _), ?_⟩
    rw [stepCopybackDone_gain (b := s.m.elapse dt) hcopy hgain, result_m]
    · exact ⟨rfl, rfl, rfl⟩
    · exact hs
  case offsets =>
    refine ⟨_, (run_result _ hs : s.run dt Block.stepCopybackDone = _), ?_⟩
    rw [stepCopybackDone_offsets (b := s.m.elapse dt) hcopy hoffsets, result_m]
    · exact ⟨rfl, rfl, rfl⟩
    · exact hs
  case noCopyback =>
    show s.run dt Block.stepCopybackDone = _
    rw [run_result _ hs, stepCopybackDone_idle (b := s.m.elapse dt) hcopy]
  case gainBytes =>
    rw [copyGain_eq_copyField]
    exact copyField_read_pixel (by decide) hm hp hi
  case offsetBytes =>
    rw [copyOffset_eq_copyField]
    exact copyField_read_pixel (off := 0) (by decide) hm hp hi
  case gainFrame =>
    rw [copyGain_eq_copyField]
    exact copyField_read_outside (by decide) hm ha
  case offsetFrame =>
    rw [copyOffset_eq_copyField]
    exact copyField_read_outside (by decide) hm ha

end Sys2Proof.Proofs
end

section
/-! PROOFS. Commands of the sequencer that wait, ABORT_ROUTINE and bad commands (R301, R309, R517, R518, R557, R561, R563, R583). -/

namespace Sys2Proof.Proofs

open Sys2Proof.Machine Sys2Proof.Laws

/-! ## The command at the front of a channel (R554, R561) -/

section
variable (b : Block)

theorem setToward_seq (c mid : Nat) (ws : List Word) : (b.setToward c mid ws).seq = b.seq := by
  unfold Block.setToward
  split <;> rfl

/-- Words that leave a queue ring at most a doorbell beside. -/
theorem dequeue_reported (c mid n : Nat) : (b.setToward c mid ((b.toward c mid).drop n)).Reported (b.dequeue c mid n) := by
  unfold Block.dequeue Block.spaceBell
  simp only []
  split
  · split
    · split
      · exact doorbell_reported _ _ _
      · exact reported_refl
    · exact reported_refl
  · exact reported_refl

theorem settleDiscard_waiting (c : Nat) : (b.settleDiscard c).seq.waiting = b.seq.waiting := by
  unfold Block.settleDiscard
  simp only []
  split
  · rfl
  · show (b.dequeue c 2 _).seq.waiting = _
    rw [reported_seq (dequeue_reported b c 2 _), setToward_seq]

/-- Which channel the sequencer stands at makes no difference to the words that are discarded. -/
theorem settleDiscard_visiting_mail (c ch : Nat) : ((b.visiting ch).settleDiscard c).mail = (b.settleDiscard c).mail := by
  have hdequeue (n : Nat) : ((b.visiting ch).dequeue c 2 n).mail = (b.dequeue c 2 n).mail := by
    rw [reported_mail (dequeue_reported _ c 2 n), reported_mail (dequeue_reported b c 2 n)]
    unfold Block.setToward
    simp only [show ∀ x, (b.visiting ch).booth x = b.booth x from fun _ => rfl]
    split <;> rfl
  simp only [Block.settleDiscard, show (b.visiting ch).toward c 2 = b.toward c 2 from rfl,
    show (b.visiting ch).seq.discard = b.seq.discard from rfl]
  split
  · rfl
  · exact hdequeue _

/-- The command at the front of a channel follows from the mailboxes, the replies that wait and the power state. -/
theorem nextCommand_congr {a b : Block} (hpower : a.power = b.power) (hmail : a.mail = b.mail)
    (hwaiting : a.seq.waiting = b.seq.waiting) (ch : Nat) : a.nextCommand ch = b.nextCommand ch := by
  have hlistens : a.seqListens = b.seqListens := by rw [Block.seqListens, Block.seqListens, hpower]
  have hbooth : a.booth ch = b.booth ch := by rw [Block.booth, Block.booth, hmail]
  have hend : a.hostEnd ch = b.hostEnd ch := by unfold Block.hostEnd Block.otherEnd; rw [hbooth]
  have hqueue : a.toward ch 2 = b.toward ch 2 := by unfold Block.toward Block.chan; rw [hbooth, hmail]
  unfold Block.nextCommand
  rw [hlistens, hend, hqueue, hwaiting]

theorem standingAt_nextCommand (ch : Nat) : (b.standingAt ch).nextCommand ch = (b.settleDiscard ch).nextCommand ch := by
  refine nextCommand_congr ?_ (settleDiscard_visiting_mail b ch ch) ?_ ch
  · exact (standingAt_exchanged b ch).power.trans (settleDiscard_exchanged b ch).power.symm
  · exact (settleDiscard_waiting _ ch).trans (settleDiscard_waiting b ch).symm

theorem goodCommand_eq_some_iff {ch op : Nat} {w : Word} {args : List Word} : b.goodCommand ch op = some (w, args) ↔
    b.nextCommand ch = some (w, args) ∧ cmdGood w = true ∧ cmdOp w = op := by
  unfold Block.goodCommand
  split
  · next v ws hnext =>
    rw [hnext, Option.some.injEq, Prod.mk.injEq]
    constructor
    · intro h
      split at h
      · next hgood => cases h; exact ⟨⟨rfl, rfl⟩, hgood⟩
      · cases h
    · rintro ⟨⟨rfl, rfl⟩, hgood⟩
      exact if_pos hgood
  · next hnone => simp [hnone]

/-- The channel visited next has a command that the sequencer may take. -/
theorem takeable_of_nextVisit {ch : Nat} (h : b.nextVisit = some ch) : b.takeable ch = true := List.find?_some h

end

/-! ## The deferred slot and the mailbox (R517, R557, R563) -/

/-- The command of opcode `op` needs a routine to start or a slot to wait in: SLEEP from D6 on, APPLY_OVERLAY and COMMIT_ARMED
while no Midnight cycle runs (R99, R517, R557). -/
def NeedsSlot (b : Block) (op : Nat) : Prop :=
  op ∈ [0x11, 0x20, 0x30, 0x52] ∨ (op = 0x40 ∧ b.dawned = true) ∨ (op ∈ [0x10, 0x12] ∧ b.seq.routine ≠ some .midnight)

section
variable {b : Block} {ch op : Nat} {w : Word} {args : List Word}

theorem needsSlot_of_routineOp (hop : op ∈ [0x10, 0x11, 0x12, 0x20, 0x30, 0x40, 0x52]) (hnight : b.seq.routine ≠ some .midnight)
    (hdawn : op = 0x40 → b.dawned = true) : NeedsSlot b op := by
  simp only [List.mem_cons, List.not_mem_nil, or_false] at hop
  rcases hop with rfl | rfl | rfl | rfl | rfl | rfl | rfl
  · exact .inr (.inr ⟨by decide, hnight⟩)
  · exact .inl (by decide)
  · exact .inr (.inr ⟨by decide, hnight⟩)
  · exact .inl (by decide)
  · exact .inl (by decide)
  · exact .inr (.inl ⟨rfl, hdawn rfl⟩)
  · exact .inl (by decide)

theorem slotFull_exchanged {t : Block} (h : Exchanged b t) : t.slotFull ch = b.slotFull ch := by
  unfold Block.slotFull; rw [h.held]

/-- Where no routine may start, such a command is taken exactly when its channel's slot is free. -/
theorem takeable_needsSlot (hgood : (b.settleDiscard ch).goodCommand ch op = some (w, args)) (hmay : b.mayStart = false)
    (hneeds : NeedsSlot b op) : b.takeable ch = !b.slotFull ch := by
  have hx := settleDiscard_exchanged b ch
  obtain ⟨hnext, hcmd, rfl⟩ := (goodCommand_eq_some_iff _).mp hgood
  simp only [Block.takeable, hnext, hcmd, hx.mayStart, hmay, hx.routine, hx.dawned, slotFull_exchanged hx, Bool.not_true,
    Bool.false_eq_true, if_false, Bool.false_or]
  rcases hneeds with hop | ⟨hop, hdawn⟩ | ⟨hop, hnight⟩
  · simp only [List.mem_cons, List.not_mem_nil, or_false] at hop
    rcases hop with hop | hop | hop | hop <;> simp only [hop]
  · simp only [hop, hdawn, Bool.not_true, Bool.false_or]
  · simp only [List.mem_cons, List.not_mem_nil, or_false] at hop
    rcases hop with hop | hop <;> simp only [hop, hnight, if_false]

/-- While a Midnight cycle runs, an overlay command is taken exactly before M8 (R517). -/
theorem takeable_overlay_midnight (hgood : (b.settleDiscard ch).goodCommand ch op = some (w, args)) (hop : op ∈ [0x10, 0x12])
    (hnight : b.seq.routine = some .midnight) : b.takeable ch = decide (b.night.step < 8) := by
  have hx := settleDiscard_exchanged b ch
  obtain ⟨hnext, hcmd, rfl⟩ := (goodCommand_eq_some_iff _).mp hgood
  simp only [Block.takeable, hnext, hcmd, hx.routine, hx.night, Bool.not_true, Bool.false_eq_true, if_false]
  simp only [List.mem_cons, List.not_mem_nil, or_false] at hop
  rcases hop with hop | hop <;> simp only [hop, hnight, if_true]

section
variable (hvisit : b.nextVisit = some ch) (hgood : (b.standingAt ch).goodCommand ch op = some (w, args)) (hmay : b.mayStart = false)
include hvisit hgood hmay

/-- A command that the sequencer visits, and that no routine may start for, finds its channel's slot free. -/
theorem slotFree_of_visit (hneeds : NeedsSlot b op) : b.slotFull ch = false := by
  have hsettled : (b.settleDiscard ch).goodCommand ch op = some (w, args) := by
    rw [goodCommand_eq_some_iff] at hgood ⊢
    rwa [standingAt_nextCommand] at hgood
  have htake := takeable_of_nextVisit b hvisit
  rw [takeable_needsSlot hsettled hmay hneeds] at htake
  simpa using htake

/-- It leaves its queue and takes the slot (R557, R563). -/
theorem visit_routineCommand_held (hfree : b.slotFull ch = false) (f : CmdBody) :
    Block.visit ch (fun x => x.routineCommand ch op f) b = ((b.standingAt ch).takeCommand ch args).hold (.command ch w args) := by
  have hx := standingAt_exchanged b ch
  have hno : (b.standingAt ch).mayStart = false := hx.mayStart.trans hmay
  have hslot : (b.standingAt ch).slotFull ch = false := (slotFull_exchanged hx).trans hfree
  unfold Block.standingAt at hgood hno hslot ⊢
  simp only [Block.visit, Block.routineCommand, hvisit, if_true, hgood, hno, hslot, Bool.false_eq_true, if_false]

theorem visit_overlayCommand_held (hfree : b.slotFull ch = false) (hnight : b.seq.routine ≠ some .midnight) (f : CmdBody) :
    Block.visit ch (fun x => x.overlayCommand ch op f) b = ((b.standingAt ch).takeCommand ch args).hold (.command ch w args) := by
  have hother : (b.visiting ch).seq.routine ≠ some .midnight := hnight
  rw [← visit_routineCommand_held hvisit hgood hmay hfree f]
  simp only [Block.visit, Block.overlayCommand, hother, if_false]

end

theorem visit_sleepCommand_held (hvisit : b.nextVisit = some ch) (hgood : (b.standingAt ch).goodCommand ch 0x40 = some (w, args))
    (hmay : b.mayStart = false) (hfree : b.slotFull ch = false) (hdawn : b.dawned = true) (f : CmdBody) :
    Block.visit ch (fun x => x.sleepCommand ch f) b = ((b.standingAt ch).takeCommand ch args).hold (.command ch w args) := by
  have hover : (b.visiting ch).dawned = true := hdawn
  rw [← visit_routineCommand_held hvisit hgood hmay hfree f]
  simp only [Block.visit, Block.sleepCommand, hover, if_true]

end

/-! ## Overlay commands in a Midnight cycle (R517) -/

section
variable {b t : Block} {ch op : Nat} {dst : ReplyTo}

/-- Before M8 the cycle is aborted and the command runs at once. -/
theorem visit_overlayCommand_midnight {args : List Nat} (h : b.commandAt ch op dst args t) (hnight : b.seq.routine = some .midnight)
    (hstep : b.night.step < 8) (f : CmdBody) :
    Block.visit ch (fun x => x.overlayCommand ch op f) b = f dst args (t.abortMidnight 1) := by
  have hruns : (b.visiting ch).seq.routine = some .midnight := hnight
  have hearly : ¬ 8 ≤ (b.visiting ch).night.step := Nat.not_le.mpr hstep
  rw [← visit_plainCommand h (fun dst args x => f dst args (x.abortMidnight 1))]
  simp only [Block.visit, Block.overlayCommand, hruns, hearly, if_true, if_false]

theorem runApply_eq {id : Nat} (t : Block) (dst : ReplyTo) (tick : Nat) (h : id < 64 ∨ id = 255) :
    runApply dst [id, tick] t = t.startApply id (commitTick tick) false (some dst) := by
  obtain ⟨hmod, hok⟩ := overlayId_taken h
  simp [runApply, hmod, hok]

end

/-! ## What was held starts (R301, R557) -/

section
variable {b : Block}

/-- Nothing starts while the sequencer does not listen, a routine runs, Dawn is not over or nothing is held. -/
theorem stepDeferred_nothing (h : b.seqListens = false ∨ b.seq.routine ≠ none ∨ b.dawned = false ∨ b.seq.held = []) :
    b.stepDeferred = b := by
  rcases h with h | h | h | h
  · simp [Block.stepDeferred, h]
  · simp [Block.stepDeferred, Option.isSome_iff_ne_none.mpr h]
  · simp [Block.stepDeferred, h]
  · simp [Block.stepDeferred, h]

variable (hlistens : b.seqListens = true) (hroutine : b.seq.routine = none) (hdawn : b.dawned = true)
include hlistens hroutine hdawn

theorem stepDeferred_command {ch : Nat} {w : Word} {args : List Word} {rest : List Held}
    (h : b.seq.held = .command ch w args :: rest) : b.stepDeferred =
    runHeld (cmdOp w) ⟨ch, cmdTag w⟩ (args.map BitVec.toNat) (b.setSeq (fun x => { x with held := rest })) := by
  simp [Block.stepDeferred, hlistens, hroutine, hdawn, h]

theorem stepDeferred_midnight {n : Nat} {rest : List Held} (h : b.seq.held = .midnight n :: rest) : b.stepDeferred =
    (b.setSeq (fun x => { x with held := rest })).beginMidnight n false none := by
  simp [Block.stepDeferred, hlistens, hroutine, hdawn, h]

end

/-- Settles O16: a command that is visited finds its slot free, one that must wait is not visited, and the overlay commands and
what was held run their bodies. -/
theorem routineCommandsWait : Obligations.RoutineCommandsWait := by
  refine ⟨fun dt ch op w args s hs hnight hvisit hgood hmay hdawn c hc hop => ?held,
    fun b ch op w args hgood hmay hfull hop => ?waits,
    fun dt ch id tick dst t s hs hnight hstep => ⟨fun hcmd hid => ?apply, fun hcmd => ?commit⟩,
    fun dt rest s hs hlistens hroutine hdawn => ⟨fun ch w args h => ?command, fun n h => ?midnight⟩,
    fun dt s hs h => ?nothing⟩
  case held =>
    subst hop
    have hneeds : NeedsSlot (s.m.elapse dt) c.1 :=
      needsSlot_of_routineOp (List.mem_map_of_mem (f := Prod.fst) hc) hnight hdawn
    have hslot : s.m.slotFull ch = false := slotFree_of_visit (b := s.m.elapse dt) hvisit hgood hmay hneeds
    have hrun {f : Block → Block} {t : Block} (h : f (s.m.elapse dt) = t) : s.run dt f = .next (s.result t) := by rw [run_result _ hs, h]
    refine ⟨hslot, ?_⟩
    simp only [List.mem_cons, List.not_mem_nil, or_false] at hc
    rcases hc with rfl | rfl | rfl | rfl | rfl | rfl | rfl
    · exact hrun (visit_overlayCommand_held hvisit hgood hmay hslot hnight _)
    · exact hrun (visit_routineCommand_held hvisit hgood hmay hslot _)
    · exact hrun (visit_overlayCommand_held hvisit hgood hmay hslot hnight _)
    · exact hrun (visit_routineCommand_held hvisit hgood hmay hslot _)
    · exact hrun (visit_routineCommand_held hvisit hgood hmay hslot _)
    · exact hrun (visit_sleepCommand_held hvisit hgood hmay hslot (hdawn rfl) _)
    · exact hrun (visit_routineCommand_held hvisit hgood hmay hslot _)
  case waits =>
    have hwaits (hneeds : NeedsSlot b op) : b.takeable ch = false := by rw [takeable_needsSlot hgood hmay hneeds, hfull]; rfl
    rcases hop with hop | hop | ⟨hop, hnight⟩
    · exact hwaits (.inl hop)
    · exact hwaits (.inr (.inl hop))
    · by_cases hcycle : b.seq.routine = some .midnight
      · have hlate : 8 ≤ b.night.step := hnight.resolve_left (not_not_intro hcycle)
        rw [takeable_overlay_midnight hgood hop hcycle, decide_eq_false (Nat.not_lt.mpr hlate)]
      · exact hwaits (.inr (.inr ⟨hop, hcycle⟩))
  case apply => exact (run_result _ hs).trans (by rw [visit_overlayCommand_midnight hcmd hnight hstep, runApply_eq _ dst tick hid])
  case commit => exact (run_result _ hs).trans (by rw [visit_overlayCommand_midnight hcmd hnight hstep]; rfl)
  case command =>
    exact (run_result _ hs).trans (by rw [stepDeferred_command (b := s.m.elapse dt) hlistens hroutine hdawn h])
  case midnight =>
    exact (run_result _ hs).trans (by rw [stepDeferred_midnight (b := s.m.elapse dt) hlistens hroutine hdawn h])
  case nothing => exact (run_result _ hs).trans (by rw [stepDeferred_nothing (b := s.m.elapse dt) h])

/-! ## ABORT_ROUTINE and bad commands (R309, R518, R561, R583, R638) -/

section
variable {b t : Block} {ch : Nat} {w : Word}

theorem Exchanged.step {a b : Block} (h : Exchanged a b) : b.seq.step = a.seq.step := by rw [h.rest]

/-- ABORT_ROUTINE of a routine it does not reach is refused (R583). -/
theorem runAbort_refused (dst : ReplyTo) (args : List Nat) (h : t.seq.routine ∈ [some .dawn, some .dusk, some .sleepExit]) :
    runAbort dst args t = t.reply dst 4 [] := by
  simp only [List.mem_cons, List.not_mem_nil, or_false] at h
  rcases h with h | h | h <;> simp only [runAbort, h]

/-- A command that is not in order is answered, and its argument words leave the queue (R561). -/
theorem visit_badCommand {args : List Word} (hvisit : b.nextVisit = some ch) (hnext : (b.standingAt ch).nextCommand ch = some (w, args))
    (hbad : cmdGood w = false) : Block.visit ch (fun x => x.stepBadCommand ch) b =
    (if 7 < cmdCount w then
      (((b.standingAt ch).takeCommand ch args).setSeq (fun x => { x with discard := x.discard.set ch (cmdCount w) })).settleDiscard ch
     else (b.standingAt ch).takeCommand ch args).reply ⟨ch, cmdTag w⟩ (if (cmdArgs (cmdOp w)).isSome then 3 else 2) [] := by
  unfold Block.standingAt at hnext ⊢
  simp only [Block.visit, Block.stepBadCommand, hvisit, if_true, hnext, hbad, Bool.false_eq_true, if_false]

end

/-- Settles O17: ABORT_ROUTINE by the routine that runs, each clause its case of the body, and a bad command on the block that
took it from its queue. -/
theorem abortAndBadCommands : Obligations.AbortAndBadCommands := by
  refine ⟨fun dt ch dst args t s hs hcmd => ?abort, fun dt ch w args b s hs hvisit hb hnext hbad => ?bad⟩
  case abort =>
    have hx := commandAt_exchanged hcmd
    have hroutine : t.seq.routine = s.m.seq.routine := hx.routine
    have hstep : t.seq.step = s.m.seq.step := hx.step
    have harmed : t.overlayArmed = s.m.overlayArmed := hx.overlayArmed
    have hexec : exec (.abortRoutine dt ch) s = .next (s.result (runAbort dst args t)) :=
      (run_result _ hs).trans (by rw [visit_plainCommand hcmd])
    refine ⟨fun h => ?_, fun h => ?_, fun h => ?_, fun h => ?_, fun h => ?_, fun h => ?_⟩
    · simp only [hexec, runAbort, hroutine, h]
    · simp only [hexec, runAbort, hroutine, h]
    · simp only [hexec, runAbort, hroutine, h, Block.abortFlush, Block.disownFlush]
    · simp only [hexec, runAbort, hroutine, h, hstep]
    · rw [hexec, runAbort_refused dst args (hroutine ▸ h)]
    · simp only [hexec, runAbort, hroutine, h, harmed]
  case bad =>
    subst hb
    exact (run_result _ hs).trans (by rw [visit_badCommand hvisit hnext hbad])

end Sys2Proof.Proofs
end

section
/-! PROOFS. Shutter pulses: how they start, wait, are refused, end and are checked (R288 to R291, R302, R308, R311, R316). -/

namespace Sys2Proof.Proofs

open Sys2Proof.Machine Sys2Proof.Laws

/-! ## A SHUTTER action at its fire time (R288, R289, R308) -/

section
variable {b : Block} {e : ArmedEntry}

theorem fireWith_commits {i ty : Nat} (hfire : b.fireable i ty = some e) (hcommits : e.commits) (f : ArmedEntry → Block → Block) :
    b.fireWith i ty f = f e (b.fired e) := by
  have hgo : (e.tentative && decide (e.confirms < e.k) && !e.unconf) = false := by
    rcases hcommits with h | h | h
    · simp [h]
    · simp [Nat.not_lt.mpr h]
    · simp [h]
  simp only [Block.fireWith, hfire, hgo, Bool.false_eq_true, if_false]

/-- During a cycle, or its roll-back, an action that is not the cycle's own is refused. -/
theorem shutterAction_busy (hbusy : b.nightBusy = true) (hmid : e.mid ≠ 2) :
    Block.shutterAction e b = b.event 0x0702 (leBytes 1 (if b.flag R.CP_SHT_STATUS.SHT_FAULT then 2 else 1)) := by
  simp [Block.shutterAction, shutterPulseOf, hbusy, hmid, Block.refusePulse]

/-- Any other is offered to the bridge. -/
theorem shutterAction_offered (h : b.nightBusy = false ∨ e.mid = 2) : Block.shutterAction e b = b.offerPulse (shutterPulseOf e) := by
  rcases h with h | h <;> simp [Block.shutterAction, shutterPulseOf, h]

theorem offerPulse_waits (p : ShutterPulse) (h : b.shut.pulse.isSome = true ∨ b.shut.braking = true) :
    b.offerPulse p = b.setShut (fun y => { y with waiting := y.waiting ++ [p] }) := by
  rw [Block.offerPulse, if_pos (by simpa using h)]

theorem offerPulse_starts (p : ShutterPulse) (hpulse : b.shut.pulse = none) (hbraking : b.shut.braking = false) :
    b.offerPulse p = b.startPulse p := by
  simp [Block.offerPulse, hpulse, hbraking]

end

/-! ## The start of a pulse (R288, R290, R302, R316) -/

section
variable (b : Block) (p : ShutterPulse)

theorem pulseWidth_bounds : 5 ≤ b.pulseWidth p ∧ b.pulseWidth p ≤ 250 := by
  have hclamp (w : Nat) : 5 ≤ pulseMs w ∧ pulseMs w ≤ 250 := by unfold pulseMs; omega
  unfold Block.pulseWidth
  split <;> exact hclamp _

theorem pulseRefusal_fault (hfault : b.flag R.CP_SHT_STATUS.SHT_FAULT = true) : b.pulseRefusal p = some 2 := if_pos hfault

theorem pulseRefusal_vsht (hfault : b.flag R.CP_SHT_STATUS.SHT_FAULT = false) (hvsht : b.power.valid.contains .vsht = false) :
    b.pulseRefusal p = some 3 := by
  simp only [Block.pulseRefusal, hfault, hvsht, Bool.not_false, Bool.false_eq_true, if_false, if_true]

theorem pulseRefusal_limit (hfault : b.flag R.CP_SHT_STATUS.SHT_FAULT = false) (hvsht : b.power.valid.contains .vsht = true)
    (hlimit : 30000000 < b.onTime + 100000 * b.pulseWidth p) : b.pulseRefusal p = some 0 := by
  have hover : msec 300 < b.onTime + msec (b.pulseWidth p) := hlimit
  simp only [Block.pulseRefusal, hfault, hvsht, hover, Bool.not_true, Bool.false_eq_true, if_false, if_true]

/-- The position shown while a pulse runs is not settled, and so not kept in the AON block (R292). -/
theorem setPos_moving (d : ShutterDir) : b.setPos d.moving = b.set R.CP_SHT_STATUS.POS d.moving := by cases d <;> rfl

variable {b p}

/-- A pulse that is not refused runs from now on, at its width, and POS shows where it goes. -/
theorem startPulse_runs (h : b.pulseRefusal p = none) :
    (b.startPulse p).shut.pulse = some { p with width := b.pulseWidth p, startedAt := b.now } ∧
    (b.startPulse p).get R.CP_SHT_STATUS.POS = (match p.dir with | .open => 3 | .close => 4) := by
  simp only [Block.startPulse, h, setPos_moving]
  refine ⟨rfl, ?_⟩
  rw [get_set_self _ _ _ rfl]
  cases p.dir <;> rfl

theorem refusedMidnight_shut : (b.refusedMidnight p).shut = b.shut := by
  unfold Block.refusedMidnight
  split
  · rfl
  · split
    · rfl
    · split <;> rfl

/-- A refused pulse leaves the bridge alone. -/
theorem startPulse_refused {c : Nat} (h : b.pulseRefusal p = some c) : (b.startPulse p).shut = b.shut := by
  simp only [Block.startPulse, h, refusedMidnight_shut, Block.refusePulse, block_event_shut]

end

/-! ## The end of a pulse, its braking and its check (R288, R289, R291, R311) -/

section
variable {b : Block} {p : ShutterPulse}

/-- A pulse that has lasted its width brakes, and then is checked or taken as it was commanded. -/
theorem stepPulseEnd_due {x : Block} (hpulse : b.shut.pulse = some p) (hdue : p.startedAt + 100000 * p.width ≤ b.now)
    (hx : x = (b.brake p).endRollback p) : b.stepPulseEnd =
    if x.flag R.CP_SHT_CTL.SHPOS_EN = true ∧ p.source ≠ .dusk then x.setShut (fun y => { y with check := some p }) else x.pulseDone p := by
  have hlasted : ¬ b.now < p.startedAt + msec p.width := Nat.not_lt.mpr hdue
  subst hx
  simp only [Block.stepPulseEnd, hpulse, hlasted, if_false, Bool.and_eq_true, bne_iff_ne]

/-- Before its width is over it goes on. -/
theorem stepPulseEnd_early (hpulse : b.shut.pulse = some p) (hearly : b.now < p.startedAt + 100000 * p.width) : b.stepPulseEnd = b := by
  have hshort : b.now < p.startedAt + msec p.width := hearly
  simp only [Block.stepPulseEnd, hpulse, hshort, if_true]

/-- A cycle that has no pulse of its own completed stays where it is. -/
theorem nightPulse_nothing (h : b.night.pulseDone = false) : b.nightPulse = b := if_pos (by simp [h])

/-- After 1 ms of braking what waits starts. -/
theorem stepBrakeEnd_due (hbraking : b.shut.braking = true) (hdue : b.shut.brakeAt + 100000 ≤ b.now) :
    b.stepBrakeEnd = Block.startWaiting b.shut.waiting (b.setShut (fun y => { y with braking := false })) := if_pos ⟨hbraking, hdue⟩

/-- SHPOS at the level of SHPOS_POL shows CLOSED. -/
theorem shposMatches_iff (level : Bool) :
    b.shposMatches p level = true ↔ (level = b.flag R.CP_SHT_CTL.SHPOS_POL ↔ p.dir = .close) := by
  cases hdir : p.dir <;> simp [Block.shposMatches, hdir]

/-- The position is compared 1 ms after the end of its pulse. -/
theorem stepShpos_due {x : Block} (level : Bool) (hcheck : b.shut.check = some p) (hdue : b.shut.brakeAt + 100000 ≤ b.now)
    (hx : x = b.setShut (fun y => { y with check := none })) : b.stepShpos level =
    if (level = b.flag R.CP_SHT_CTL.SHPOS_POL ↔ p.dir = .close) then x.pulseDone p else (x.shutterFault 1).nightShutterFault := by
  have hbraked : ¬ b.now < b.shut.brakeAt + msec 1 := Nat.not_lt.mpr hdue
  subst hx
  simp only [Block.stepShpos, hcheck, hbraked, if_false, shposMatches_iff]
  rfl

/-- Overcurrent ends the pulse that runs. -/
theorem stepShutterOc_running (hpulse : b.shut.pulse = some p) :
    b.stepShutterOc = ((b.brake p).shutterFault 0).nightShutterFault := by
  simp only [Block.stepShutterOc, hpulse]

end

/-! ## A shutter fault (R311) -/

section
variable (b : Block) (cause : Nat)

/-- The flag that shows the cause of a shutter fault. -/
def shutterCause : RegField := if cause = 0 then R.CP_SHT_STATUS.OVERCURRENT else R.CP_SHT_STATUS.POS_ERR

/-- The fields of CP_SHT_STATUS that a shutter fault stores share no bit. -/
theorem shutterCause_apart : fits (shutterCause cause) = true ∧ (shutterCause cause).width = 1 ∧ (shutterCause cause).idx ≠ 0xCB ∧
    Apart (shutterCause cause) R.CP_SHT_STATUS.SHT_FAULT ∧ Apart R.CP_SHT_STATUS.POS (shutterCause cause) := by
  unfold shutterCause
  split <;> decide

/-- The fields of a block after a shutter fault are those of the block whose flags and POS were stored. -/
theorem shutterFault_get {f : RegField} (hf : f.idx ≠ 0xCB) : (b.shutterFault cause).get f =
    (((b.setFlag R.CP_SHT_STATUS.SHT_FAULT true).setFlag (shutterCause cause) true).set R.CP_SHT_STATUS.POS 0).get f :=
  block_event_get _ _ _ hf

theorem shutterFault_fault : (b.shutterFault cause).flag R.CP_SHT_STATUS.SHT_FAULT = true := by
  obtain ⟨hfit, -, -, hapart, -⟩ := shutterCause_apart cause
  rw [Block.flag, shutterFault_get b cause (by decide), get_set_other _ _ _ _ rfl (by decide), get_setFlag_other _ _ _ _ hfit hapart]
  exact flag_setFlag_self b _ true rfl rfl

theorem shutterFault_pos : (b.shutterFault cause).get R.CP_SHT_STATUS.POS = 0 := by
  rw [shutterFault_get b cause (by decide), get_set_self _ _ _ rfl]
  rfl

theorem shutterFault_cause : (b.shutterFault cause).flag (shutterCause cause) = true := by
  obtain ⟨hfit, hwidth, hidx, -, hapart⟩ := shutterCause_apart cause
  rw [Block.flag, shutterFault_get b cause hidx, get_set_other _ _ _ _ rfl hapart]
  exact flag_setFlag_self _ _ true hfit hwidth

end

/-- Settles O48: the action, the refusals and the start of a pulse, then each event of the bridge where it is due. -/
theorem shutterPulses : Obligations.ShutterPulses := by
  refine ⟨fun dt i e x s hs hfire hcommits hx =>
      ⟨fun hbusy hmid => ?busy, fun h => ⟨fun hbridge => ?waits, fun hpulse hbraking => ?starts⟩⟩,
    fun b p => ⟨pulseRefusal_fault b p, pulseRefusal_vsht b p, pulseRefusal_limit b p, fun h => ?runs, fun _ => startPulse_refused⟩,
    fun dt p x s hs hpulse hdue hx => ?ended, fun dt p s hs hpulse hearly hnight => ?early,
    fun dt s hs hbraking hdue => ?braked, fun dt level p x s hs hcheck hdue hx => ?checked,
    fun dt p s hs hpulse => ?overcurrent,
    fun b cause => ⟨shutterFault_fault b cause, shutterFault_pos b cause, shutterFault_cause b cause⟩⟩
  case busy =>
    subst hx
    show s.run dt (fun b => b.stepShutter i) = _
    rw [run_result _ hs, Block.stepShutter, fireWith_commits hfire hcommits, shutterAction_busy hbusy hmid]
  case waits =>
    subst hx
    show s.run dt (fun b => b.stepShutter i) = _
    rw [run_result _ hs, Block.stepShutter, fireWith_commits hfire hcommits, shutterAction_offered h, offerPulse_waits _ hbridge]
  case starts =>
    subst hx
    show s.run dt (fun b => b.stepShutter i) = _
    rw [run_result _ hs, Block.stepShutter, fireWith_commits hfire hcommits, shutterAction_offered h,
      offerPulse_starts _ hpulse hbraking]
  case runs =>
    obtain ⟨hlo, hhi⟩ := pulseWidth_bounds b p
    obtain ⟨hrun, hpos⟩ := startPulse_runs h
    exact ⟨hlo, hhi, _, hrun, rfl, rfl, rfl, hpos⟩
  case ended =>
    show s.run dt (fun b => b.stepPulseEnd.nightPulse) = _
    rw [run_result _ hs, stepPulseEnd_due (b := s.m.elapse dt) hpulse hdue hx]
  case early =>
    show s.run dt (fun b => b.stepPulseEnd.nightPulse) = _
    rw [run_result _ hs, stepPulseEnd_early (b := s.m.elapse dt) hpulse hearly, nightPulse_nothing (b := s.m.elapse dt) hnight]
  case braked =>
    show s.run dt Block.stepBrakeEnd = _
    rw [run_result _ hs, stepBrakeEnd_due (b := s.m.elapse dt) hbraking hdue]
    rfl
  case checked =>
    show s.run dt (fun b => (b.stepShpos level).nightPulse) = _
    rw [run_result _ hs, stepShpos_due (b := s.m.elapse dt) level hcheck hdue hx]
    rfl
  case overcurrent =>
    show s.run dt Block.stepShutterOc = _
    rw [run_result _ hs, stepShutterOc_running (b := s.m.elapse dt) hpulse]

end Sys2Proof.Proofs
end

section
/-! PROOFS. Midnight requests, the start of a cycle, M5 and the drift reference of M8 (R293, R294, R298 to R302). -/

namespace Sys2Proof.Proofs

open Sys2Proof.Machine Sys2Proof.Laws

/-! ## A step of the cycle (R293, R316) -/

section
variable (b : Block) (k : Nat)

/-- A step shows in STEP and, outside Dawn, in the sequencer's step; of the cycle it changes where it stands. -/
theorem nightStep_rest : b.nightStep k = { b with
    regs := (b.set R.CP_MN_STATUS.STEP (k + 1)).regs, night := { b.night with step := k, settled := 0 },
    seq := { b.seq with step := (b.nightStep k).seq.step, restarts := (b.nightStep k).seq.restarts } } := by
  unfold Block.nightStep
  simp only []
  split <;> rfl

theorem nightStep_night : (b.nightStep k).night = { b.night with step := k, settled := 0 } := by rw [nightStep_rest]
theorem nightStep_undef : (b.nightStep k).undef = b.undef := by rw [nightStep_rest]
theorem nightStep_routine : (b.nightStep k).seq.routine = b.seq.routine := by rw [nightStep_rest]

theorem nightStep_shows : (b.nightStep k).get R.CP_MN_STATUS.STEP = (k + 1) % 16 := by
  have hregs : (b.nightStep k).regs = (b.set R.CP_MN_STATUS.STEP (k + 1)).regs := by rw [nightStep_rest]
  rw [get_congr hregs]
  exact get_set_self b R.CP_MN_STATUS.STEP _ rfl

end

/-! ## Acceptance (R272, R293, R302) -/

section
variable {b : Block}

/-- Taking the shadow leaves the cycle and the sequencer alone. -/
theorem takeShadow_kept {x : Block} (h : b.takeShadow = some x) : x.night = b.night ∧ x.seq = b.seq := by
  unfold Block.takeShadow at h
  split at h
  · cases h
  · cases h
    unfold Block.discardShadow
    split <;> exact ⟨rfl, rfl⟩

/-- The end of M0 leaves the cycle running, with its trigger, and its routine. -/
theorem nightAccept_kept (b : Block) : b.nightAccept.night.running = b.night.running ∧
    b.nightAccept.night.trigger = b.night.trigger ∧ b.nightAccept.seq.routine = b.seq.routine := by
  unfold Block.nightAccept
  split
  · exact ⟨rfl, rfl, rfl⟩
  · split
    · exact ⟨rfl, rfl, rfl⟩
    · next x hx =>
      obtain ⟨hnight, hseq⟩ := takeShadow_kept hx
      simp only [nightStep_night, nightStep_routine, block_setNight_night, block_setNight_seq, hnight, hseq, and_self]

theorem nightAccept_running (b : Block) : b.nightAccept.night.running = b.night.running := (nightAccept_kept b).1
theorem nightAccept_trigger (b : Block) : b.nightAccept.night.trigger = b.night.trigger := (nightAccept_kept b).2.1
theorem nightAccept_routine (b : Block) : b.nightAccept.seq.routine = b.seq.routine := (nightAccept_kept b).2.2

/-- The four grounds on which M0 refuses a request. -/
theorem nightRefused_iff (b : Block) : b.nightRefused = true ↔ b.power.valid.contains .vsht = false ∨
    b.flag R.CP_SHT_STATUS.SHT_FAULT = true ∨ b.phase < 5 ∨ b.phase = 14 := by
  simp only [Block.nightRefused, Block.beforeD5, Bool.or_eq_true, Bool.not_eq_true', decide_eq_true_eq, beq_iff_eq, or_assoc]

/-- A refused request shows REFUSED and starts nothing. -/
theorem beginMidnight_refused (trigger : Nat) (dawn : Bool) (h : b.nightRefused = true) :
    (b.beginMidnight trigger dawn none).get R.CP_MN_STATUS.LAST_RESULT = 4 ∧
    (b.beginMidnight trigger dawn none).night.running = b.night.running := by
  simp only [Block.beginMidnight, h, if_true, Block.replyOpt, Block.nightFail]
  constructor
  · rw [block_event_get _ _ _ (by decide)]
    exact get_set_self b R.CP_MN_STATUS.LAST_RESULT 4 rfl
  · rw [block_event_night]
    rfl

/-- A request that is not refused starts the cycle, with its trigger, as the sequencer's routine. -/
theorem beginMidnight_accepted (trigger : Nat) (h : b.nightRefused = false) :
    (b.beginMidnight trigger false none).night.running = true ∧ (b.beginMidnight trigger false none).night.trigger = trigger ∧
    (b.beginMidnight trigger false none).seq.routine = some .midnight := by
  simp only [Block.beginMidnight, h, Bool.false_eq_true, if_false, Block.replyOpt]
  rw [nightAccept_running, nightAccept_trigger, nightAccept_routine, block_event_night, block_event_seq]
  exact ⟨rfl, rfl, rfl⟩

/-! ## Requests (R300, R301) -/

/-- A request while a cycle runs, or within a minute of a failure, is discarded. -/
theorem requestMidnight_discarded (trigger : Nat) {failed : Nat}
    (h : b.night.running = true ∨ (b.night.failedAt = some failed ∧ b.now < failed + 6000000000)) : b.requestMidnight trigger = b := by
  rcases h with h | ⟨hfailed, hrecent⟩
  · simp [Block.requestMidnight, h]
  · have hminute : b.now < failed + msec 60000 := hrecent
    simp [Block.requestMidnight, hfailed, hminute]

/-- Any other starts its cycle, or is kept behind the routine that runs. -/
theorem requestMidnight_taken (trigger : Nat) (hrun : b.night.running = false) (hfailed : b.night.failedAt = none)
    (hheld : b.seq.held = []) : b.requestMidnight trigger =
    if b.seqFree then b.beginMidnight trigger false none else b.hold (.midnight trigger) := by
  simp [Block.requestMidnight, hrun, hfailed, hheld]

/-- In RUN the timer asks when its minutes have passed. -/
theorem stepMidnightTimer_due {t : Nat} (htimer : b.get R.CP_MN_CTL.TIMER_MIN ≠ 0) (hmode : b.power.mode = .run)
    (hdone : b.night.lastDone = some t) (hdue : t + 6000000000 * b.get R.CP_MN_CTL.TIMER_MIN ≤ b.now) :
    b.stepMidnightTimer = b.requestMidnight 0 := by
  have hpassed : msec (60000 * b.get R.CP_MN_CTL.TIMER_MIN) ≤ b.now - t := by unfold msec; omega
  simp only [Block.stepMidnightTimer, Block.sinceDone, hdone, Option.map_some]
  exact if_pos ⟨htimer, hpassed, hmode⟩

/-- Else it asks for nothing. -/
theorem stepMidnightTimer_notDue (h : b.get R.CP_MN_CTL.TIMER_MIN = 0 ∨ b.power.mode ≠ .run ∨ b.night.lastDone = none ∨
    ∃ t, b.night.lastDone = some t ∧ b.now < t + 6000000000 * b.get R.CP_MN_CTL.TIMER_MIN) : b.stepMidnightTimer = b := by
  unfold Block.stepMidnightTimer Block.sinceDone
  cases hdone : b.night.lastDone with
  | none => rfl
  | some t =>
    refine if_neg ?_
    rintro ⟨htimer, hpassed, hmode⟩
    rcases h with h | h | h | ⟨u, hu, hearly⟩
    · exact htimer h
    · exact h hmode
    · simp [hdone] at h
    · rw [hdone, Option.some.injEq] at hu
      have hlate : msec (60000 * b.get R.CP_MN_CTL.TIMER_MIN) ≤ b.now - t := hpassed
      unfold msec at hlate
      omega

/-! ## M5 (R294) -/

/-- M5 forms its results, empties the frames and goes to M6. -/
theorem stepCompute_m5 (hrun : b.night.running = true) (hstep : b.night.step = 5) :
    ∃ x : Block, b.stepCompute = x.nightStep 6 ∧ x.night.running = true ∧ x.night.frames = [] ∧ x.undef = b.undef := by
  have hm5 : (!b.night.running || b.night.step != 5) = false := by simp [hrun, hstep]
  rw [Block.stepCompute, if_neg (by rw [hm5]; exact Bool.false_ne_true)]
  exact ⟨_, rfl, hrun, rfl, rfl⟩

theorem stepCompute_other (h : b.night.running = false ∨ b.night.step ≠ 5) : b.stepCompute = b := by
  refine if_pos ?_
  rcases h with h | h <;> simp [h]

end

/-! ## The drift reference at M8 (R298, R299) -/

section
variable (b : Block)

theorem Exchanged.thermal {a b : Block} (h : Exchanged a b) : b.thermal = a.thermal := by rw [h.rest]

theorem netOff_thermal (n : Nat) : (b.netOff n).thermal = b.thermal := by
  unfold Block.netOff
  simp only []
  split
  · rw [block_event_thermal]; rfl
  · rfl

theorem nightOver_thermal (result : Nat) (how : RoutineEnd) (status : Nat) (ws : List Nat) :
    (b.nightOver result how status ws).thermal = b.thermal := by
  have hfinish (x : Block) : (x.finishRoutine how status ws).thermal = x.thermal := by
    rw [Block.finishRoutine, endRoutine_rest]
    exact (replyOpt_exchanged x _ _ _).thermal
  unfold Block.nightOver
  simp only []
  split
  · rfl
  · rw [hfinish]; rfl

/-- The reference is the mean of the temperatures of the accumulated frames, and ΔT is taken against it at once. -/
theorem offsetSwap_thermal (n : Nat) : (b.offsetSwap n).thermal = { b.thermal with
    driftRef := roundUp b.night.meanTfpa, dT := b.thermal.latched0 - roundUp b.night.meanTfpa } := by
  simp only [Block.offsetSwap, nightOver_thermal, netOff_thermal, block_event_thermal]
  cases b.night.newShutRef <;> rfl

end

/-- Settles O49: the timer and the requests, the two outcomes of M0, M5 and the swap of M8, each by the lemma of its part. -/
theorem midnightRequests : Obligations.MidnightRequests := by
  refine ⟨fun dt s hs htimer hmode t hdone hdue => ?due, fun dt s hs h => ?notDue,
    fun b t failed h => requestMidnight_discarded t h, fun b t hrun hfailed hheld => requestMidnight_taken t hrun hfailed hheld,
    fun b t dawn h => beginMidnight_refused t dawn ((nightRefused_iff b).mpr h), fun b t hvsht hfault hphase hhalt => ?accepted,
    fun dt s hs hrun hstep => ?m5, fun dt s hs h => ?notM5, fun b n => ?swap⟩
  case due =>
    show s.run dt Block.stepMidnightTimer = _
    rw [run_result _ hs, stepMidnightTimer_due (b := s.m.elapse dt) htimer hmode hdone hdue]
  case notDue =>
    show s.run dt Block.stepMidnightTimer = _
    rw [run_result _ hs, stepMidnightTimer_notDue (b := s.m.elapse dt) h]
  case accepted =>
    refine beginMidnight_accepted t (Bool.eq_false_iff.mpr fun hrefused => ?_)
    rcases (nightRefused_iff b).mp hrefused with h | h | h | h
    · exact absurd (hvsht.symm.trans h) (by decide)
    · exact absurd (hfault.symm.trans h) (by decide)
    · omega
    · exact hhalt h
  case m5 =>
    obtain ⟨x, hcompute, hruns, hframes, hundef⟩ := stepCompute_m5 (b := s.m.elapse dt) hrun hstep
    have hdefined : (x.nightStep 6).undef = none := (nightStep_undef x 6).trans (hundef.trans hs)
    refine ⟨_, (run_result _ hs : s.run dt Block.stepCompute = _), ?_⟩
    rw [hcompute, result_m hdefined, nightStep_night]
    exact ⟨rfl, nightStep_shows x 6, hframes, hruns⟩
  case notM5 =>
    show s.run dt Block.stepCompute = _
    rw [run_result _ hs, stepCompute_other (b := s.m.elapse dt) h]
  case swap =>
    rw [offsetSwap_thermal]
    exact ⟨rfl, rfl⟩

end Sys2Proof.Proofs
end

section
/-! PROOFS. The drain of the armed-action rings and the arming of a host entry (R353, R355, R356, R358, R360, R366, R370, R373). -/

namespace Sys2Proof.Proofs

open Sys2Proof.Machine Sys2Proof.Laws

/-- Outside undefined behaviour a meaning answers the result of what its step makes of the block once time has passed. -/
theorem run_of_step {s : State} {dt : Nat} (hs : s.defined) {step : Block → Block} {m : Block} (h : step (s.m.elapse dt) = m) :
    s.run dt step = .next (s.result m) := by
  rw [run_result _ hs, h]

/-! ## The ring that the drain serves (R38, R353, R370, R377) -/

section
variable {b : Block} {k : Nat}

theorem drainable_iff : b.drainable k = true ↔ b.flag R.AS_CTL.DRAIN_EN = true ∧ b.drainRing = some k ∧ b.drainPaced = true ∧
    b.sched.admitting = true ∧ b.tableFull = false ∧ b.bindingsOffer = false := by
  simp [Block.drainable, and_assoc]

/-- The ring served is the first that offers an entry, counted from the one to be visited next. -/
theorem drainRing_first (h : b.drainRing = some k) : ∃ i < 32, k = (b.sched.visit + i) % 32 ∧ b.drainOffers k = true ∧
    ∀ j < i, b.drainOffers ((b.sched.visit + j) % 32) = false := by
  rw [Block.drainRing, List.find?_map, Option.map_eq_some_iff] at h
  obtain ⟨i, hfind, rfl⟩ := h
  obtain ⟨hoffers, hi, hbefore⟩ := List.find?_range_eq_some.mp hfind
  exact ⟨i, List.mem_range.mp hi, rfl, hoffers, fun j hj => by simpa using hbefore j hj⟩

theorem drainOffers_of_drainable (h : b.drainable k = true) : b.drainOffers k = true := by
  obtain ⟨-, hring, -⟩ := drainable_iff.mp h
  obtain ⟨_, _, _, hoffers, _⟩ := drainRing_first hring
  exact hoffers

/-- No other ring that offers an entry comes before the one served (log entry 182). -/
theorem drainable_nearest (h : b.drainable k = true) {j : Nat} (hj : j < 32) (hoffers : b.drainOffers j = true)
    (hvisit : b.sched.visit < 32) : (k + 32 - b.sched.visit) % 32 ≤ (j + 32 - b.sched.visit) % 32 := by
  obtain ⟨-, hring, -⟩ := drainable_iff.mp h
  obtain ⟨i, hi, rfl, -, hbefore⟩ := drainRing_first hring
  by_contra hcloser
  have hskipped := hbefore ((j + 32 - b.sched.visit) % 32) (by omega)
  rw [show (b.sched.visit + (j + 32 - b.sched.visit) % 32) % 32 = j by omega, hoffers] at hskipped
  cases hskipped

theorem drainPaced_early {t : Nat} (ht : b.sched.drainAt = some t) (hearly : b.now < t + 25) : b.drainPaced = false := by
  simpa [Block.drainPaced, ht] using hearly

/-- Each condition that keeps the drain from a ring. -/
theorem not_drainable (h : 512 ≤ b.sched.table.length ∨ b.publicationDue = true ∨ b.now < b.sched.bindEnd ∨
    (∃ t, b.sched.drainAt = some t ∧ b.now < t + 25) ∨ b.drainOffers k = false) : b.drainable k = false := by
  by_contra hdrain
  have hdrain := Bool.eq_true_of_not_eq_false hdrain
  obtain ⟨-, -, hpaced, -, hfull, hbindings⟩ := drainable_iff.mp hdrain
  rcases h with h | h | h | ⟨t, ht, h⟩ | h
  · simp [Block.tableFull, h] at hfull
  · simp [Block.bindingsOffer, h] at hbindings
  · simp [Block.bindingsOffer, h] at hbindings
  · rw [drainPaced_early ht h] at hpaced
    cases hpaced
  · rw [drainOffers_of_drainable hdrain] at h
    cases h

theorem advanceTail_visit : (b.advanceTail k).sched.visit = (k + 1) % 32 := by
  unfold Block.advanceTail
  simp only []
  split
  · rw [block_doorbell_sched]; rfl
  · rfl

end

/-! ## Taking the entry at the TAIL (R353, R358, R360, R366) -/

section
variable {b : Block} {k : Nat} {ops : List Nat} (f : List Byte → Block → Block)

theorem drainWith_takes (hdrain : b.drainable k = true) (hop : ringOp (b.ringTailEntry k) ∈ ops) :
    b.drainWith k ops f = (f (b.ringTailEntry k) b).advanceTail k := by
  simp [Block.drainWith, hdrain, hop]

theorem drainWith_stays (hdrain : b.drainable k = false) : b.drainWith k ops f = b := by
  simp [Block.drainWith, hdrain]

end

section
variable {b : Block} {k : Nat}

theorem stepDrain_arm (h : ringOp (b.ringTailEntry k) = 0 ∨ ringOp (b.ringTailEntry k) = 3) : b.stepDrain k = b.stepArm k := by
  rcases h with h | h <;> simp only [Block.stepDrain, h]

theorem stepDrain_cancel (h : ringOp (b.ringTailEntry k) = 1) : b.stepDrain k = b.stepCancel k := by simp only [Block.stepDrain, h]

theorem stepDrain_confirm (h : ringOp (b.ringTailEntry k) = 2) : b.stepDrain k = b.stepConfirm k := by simp only [Block.stepDrain, h]

theorem stepDrain_stays (h : b.drainable k = false) : b.stepDrain k = b := by
  unfold Block.stepDrain
  split <;> exact drainWith_stays _ h

end

/-! ## A host entry at its arming (R355, R356, R358, R373) -/

section
variable (b : Block) {op : Nat} {e : ArmedEntry}

/-- The response ring is resolved without a look at the rest of the entry. -/
theorem resolveRing_rest : b.resolveRing e = { e with ring := (b.resolveRing e).ring, redirect := (b.resolveRing e).redirect } := by
  unfold Block.resolveRing
  split <;> rfl

theorem resolveRing_type : (b.resolveRing e).type = e.type := by rw [resolveRing_rest]
theorem resolveRing_channel : (b.resolveRing e).channel = e.channel := by rw [resolveRing_rest]
theorem resolveRing_baseWp : (b.resolveRing e).baseWp = e.baseWp := by rw [resolveRing_rest]
theorem resolveRing_tentative : (b.resolveRing e).tentative = e.tentative := by rw [resolveRing_rest]
theorem resolveRing_state : (b.resolveRing e).state = e.state := by rw [resolveRing_rest]
theorem resolveRing_tf : (b.resolveRing e).tf = e.tf := by rw [resolveRing_rest]

/-- OP 3, and a type or a channel that the part does not have, is rejected with cause RANGE. -/
theorem armHost_range (h : op = 3 ∨ rangeOk e.type e.channel = false) : b.armHost op e = b.reject (b.resolveRing e) 5 := by
  rcases h with h | h <;> simp [Block.armHost, resolveRing_type, resolveRing_channel, h]

section
variable (hop : op ≠ 3) (hrange : rangeOk e.type e.channel = true) (hbase : e.baseWp = false) (htentative : e.tentative = false)
include hop hrange hbase htentative

/-- An entry in range, not tentative and with its fire time in press time enters as the check of R358 leaves it. -/
theorem armHost_enters {x : ArmedEntry} (h : b.arrive (b.resolveRing e) = some x) : b.armHost op e = b.enterTable x := by
  simp [Block.armHost, resolveRing_type, resolveRing_channel, resolveRing_baseWp, resolveRing_tentative, hop, hrange, hbase,
    htentative, h]

/-- Such an entry is rejected with cause LATE when the check finds it late. -/
theorem armHost_late (h : b.arrive (b.resolveRing e) = none) : b.armHost op e = b.reject (b.resolveRing e) 4 := by
  simp [Block.armHost, resolveRing_type, resolveRing_channel, resolveRing_baseWp, resolveRing_tentative, hop, hrange, hbase,
    htentative, h]

end

theorem arrive_ahead (harmed : e.state = .armed) (h : 0 < ptDiff e.tf b.clock.pt) : b.arrive e = some e := by
  simp [Block.arrive, harmed, h]

theorem arrive_inGrace (harmed : e.state = .armed) (hpast : ptDiff e.tf b.clock.pt ≤ 0)
    (hgrace : -ptDiff e.tf b.clock.pt ≤ (usec (b.get R.AS_CTL.LATE_GRACE) : Nat)) : b.arrive e = some { e with late := true } := by
  simp only [Block.arrive, harmed, Int.not_lt.mpr hpast, hgrace, reduceCtorEq, if_false, if_true]

theorem arrive_tooLate (harmed : e.state = .armed) (h : (usec (b.get R.AS_CTL.LATE_GRACE) : Nat) < -ptDiff e.tf b.clock.pt) :
    b.arrive e = none := by
  have hpast : ¬ 0 < ptDiff e.tf b.clock.pt := by omega
  simp only [Block.arrive, harmed, hpast, Int.not_le.mpr h, reduceCtorEq, if_false]

end

/-- Settles O40: what the drain takes by its OP, what it leaves, which ring it serves, and how a host entry arms. -/
theorem drainTakesEntries : Obligations.DrainTakesEntries := by
  refine ⟨fun dt k bs s hs hdrain hbs => ?takes, fun dt k s hs hidle => ?stays, fun b k => not_drainable,
    fun b k hdrain => ⟨drainOffers_of_drainable hdrain, fun j hj hoffers => ?nearest, advanceTail_visit⟩,
    fun b op e hop hrange hbase htentative harmed hlate => ?hostEntry, fun b op e h => armHost_range b h⟩
  case takes =>
    subst hbs
    simp only [List.forall_mem_cons, List.not_mem_nil, false_imp_iff, implies_true, and_true]
    refine ⟨fun hop => ?_, fun hop => ?_, fun hop => ?_⟩
    · have htakes : (s.m.elapse dt).stepArm k = _ := drainWith_takes _ hdrain (by simpa using hop)
      exact ⟨run_of_step hs (step := fun b => b.stepArm k) htakes,
        run_of_step hs (step := fun b => b.stepDrain k) ((stepDrain_arm hop).trans htakes)⟩
    · have htakes : (s.m.elapse dt).stepCancel k = _ := drainWith_takes _ hdrain (by simp [hop])
      exact ⟨run_of_step hs (step := fun b => b.stepCancel k) htakes,
        run_of_step hs (step := fun b => b.stepDrain k) ((stepDrain_cancel hop).trans htakes)⟩
    · have htakes : (s.m.elapse dt).stepConfirm k = _ := drainWith_takes _ hdrain (by simp [hop])
      exact ⟨run_of_step hs (step := fun b => b.stepConfirm k) htakes,
        run_of_step hs (step := fun b => b.stepDrain k) ((stepDrain_confirm hop).trans htakes)⟩
  case stays =>
    simp only [List.forall_mem_cons, List.not_mem_nil, false_imp_iff, implies_true, and_true]
    exact ⟨run_of_step hs (step := fun b => b.stepArm k) (drainWith_stays _ hidle),
      run_of_step hs (step := fun b => b.stepCancel k) (drainWith_stays _ hidle),
      run_of_step hs (step := fun b => b.stepConfirm k) (drainWith_stays _ hidle),
      run_of_step hs (step := fun b => b.stepDrain k) (stepDrain_stays hidle)⟩
  case nearest =>
    rcases Nat.lt_or_ge b.sched.visit 32 with hvisit | hvisit
    · exact .inl (drainable_nearest hdrain hj hoffers hvisit)
    · exact .inr hvisit
  case hostEntry =>
    have harmed' : (b.resolveRing e).state = .armed := by rw [resolveRing_state, harmed]
    have htf : (b.resolveRing e).tf = e.tf := resolveRing_tf b
    refine ⟨fun h => armHost_enters b hop hrange hbase htentative ?_,
      fun hpast hgrace => armHost_enters b hop hrange hbase htentative ?_,
      fun h => armHost_late b hop hrange hbase htentative ?_⟩
    · exact arrive_ahead b harmed' (by rwa [htf])
    · exact arrive_inGrace b harmed' (by rwa [htf]) (by rwa [htf])
    · exact arrive_tooLate b harmed' (by rwa [htf])

end Sys2Proof.Proofs
end

section
/-! PROOFS. Actions at their fire time: cancelled, or committed; the notes and LAMP_SET (R168, R351, R357, R359, R363, R368, R375,
R437). -/

namespace Sys2Proof.Proofs

open Sys2Proof.Machine Sys2Proof.Laws

/-! ## The entry that fires (R168, R357, R359) -/

section
variable {b : Block} {i ty : Nat} {e : ArmedEntry}

theorem fireable_some (h : b.fireable i ty = some e) : b.entry i = some e ∧ e.type = ty ∧ b.due e = true ∧
    ∀ p ∈ b.sched.table, b.due p.2 = true → p.2.ahead e = false := by
  unfold Block.fireable at h
  split at h
  · cases h
  · next x hx =>
    split at h
    · next hcond =>
      cases h
      obtain ⟨htype, hdue, hall⟩ := hcond
      refine ⟨hx, htype, hdue, fun p hp hpdue => ?_⟩
      simpa [hpdue] using List.all_eq_true.mp hall p hp
    · cases h

/-- An entry that is not ahead of another fires after it on the same channel, and not earlier than it on another. -/
theorem not_ahead {x y : ArmedEntry} (h : x.ahead y = false) :
    (x.lane = y.lane → x.before y = false) ∧ (x.lane ≠ y.lane → 0 ≤ ptDiff x.tf y.tf) := by
  unfold ArmedEntry.ahead at h
  refine ⟨fun hlane => ?_, fun hlane => ?_⟩
  · rwa [if_pos hlane] at h
  · rw [if_neg hlane] at h
    exact Int.not_lt.mp (of_decide_eq_false h)

end

/-! ## Cancelled or fired (R363) -/

/-- What the command of an action leaves where its entry does not commit: the entry is cancelled unconfirmed, or nothing is due. -/
def CancelsOrRests (b : Block) (i ty : Nat) (t : Block) : Prop :=
  (∀ e, b.fireable i ty = some e → ¬ e.commits → t = b.cancelEntry e 2) ∧ (b.fireable i ty = none → t = b)

/-- The test of R363 in the model is that the entry does not commit. -/
theorem unconfirmed_iff (e : ArmedEntry) : (e.tentative && decide (e.confirms < e.k) && !e.unconf) = true ↔ ¬ e.commits := by
  simp [ArmedEntry.commits, and_assoc]

theorem not_unconfirmed {e : ArmedEntry} (h : e.commits) : (e.tentative && decide (e.confirms < e.k) && !e.unconf) = false :=
  Bool.eq_false_iff.mpr fun hun => (unconfirmed_iff e).mp hun h

section
variable (b : Block) (i : Nat)

theorem fireWith_cancelsOrRests (ty : Nat) (f : ArmedEntry → Block → Block) : CancelsOrRests b i ty (b.fireWith i ty f) := by
  refine ⟨fun e hfire hcommits => ?_, fun hnone => ?_⟩
  · simp only [Block.fireWith, hfire, (unconfirmed_iff e).mpr hcommits, if_true]
  · simp only [Block.fireWith, hnone]

theorem stepPeerNote_cancelsOrRests : CancelsOrRests b i 6 (b.stepPeerNote i) := by
  refine ⟨fun e hfire hcommits => ?_, fun hnone => ?_⟩
  · simp only [Block.stepPeerNote, hfire, (unconfirmed_iff e).mpr hcommits, if_true]
  · simp only [Block.stepPeerNote, hnone]

end

theorem run_cancelsOrRests {s : State} {dt i ty : Nat} (hs : s.defined) {step : Block → Block}
    (h : CancelsOrRests (s.m.elapse dt) i ty (step (s.m.elapse dt))) :
    (∀ e, (s.m.elapse dt).fireable i ty = some e → ¬ e.commits →
      s.run dt step = .next (s.result ((s.m.elapse dt).cancelEntry e 2))) ∧
    ((s.m.elapse dt).fireable i ty = none → s.run dt step = .next (s.result (s.m.elapse dt))) := by
  obtain ⟨hcancels, hrests⟩ := h
  exact ⟨fun e hfire hcommits => run_of_step hs (hcancels e hfire hcommits), fun hnone => run_of_step hs (hrests hnone)⟩

/-! ## What the notes and LAMP_SET do (R368, R375, R437) -/

section
variable {b : Block} {i : Nat} {e : ArmedEntry}

section
variable (hfire : b.fireable i 6 = some e) (hcommits : e.commits)
include hfire hcommits

/-- With room on the outbound peer queue the slot follows the firing, and the sequence byte counts on (log entry 137). -/
theorem stepPeerNote_queues (hroom : b.clock.sync.queue.length < 4) : b.stepPeerNote i =
    ((b.fired e).queuePeer (peerSlot e b.clock.sync.peerSeq)).setSync (fun x =>
      { x with peerSeq := (b.clock.sync.peerSeq + 1) % 256 }) := by
  simp only [Block.stepPeerNote, hfire, not_unconfirmed hcommits, Block.peerRoom, hroom, decide_true, Bool.not_true,
    Bool.false_eq_true, if_false]
  rfl

/-- On a full queue it is rejected with cause FULL. -/
theorem stepPeerNote_full (hfull : ¬ b.clock.sync.queue.length < 4) : b.stepPeerNote i = (b.freeEntry i).reject e 7 := by
  simp only [Block.stepPeerNote, hfire, not_unconfirmed hcommits, Block.peerRoom, hfull, decide_false, Bool.not_false,
    Bool.false_eq_true, if_false, if_true]

end

/-- A LAMP_SET is tested for LOOP, DISABLED and FAULT, in this order. -/
theorem lampSet_eq (x : Block) : x.lampSet e =
    (if x.loopRuns e.channel then
      (x.recordEntry 0x0609 e 24).setLamp e.channel (fun c => { c with refused := min 65535 (c.refused + 1) })
     else if x.lampOn e.channel = false then
      (x.recordEntry 0x0609 e 25).setLamp e.channel (fun c => { c with refused := min 65535 (c.refused + 1) })
     else if x.lampLatched e.channel then
      (x.recordEntry 0x0609 e 26).setLamp e.channel (fun c => { c with refused := min 65535 (c.refused + 1) })
     else x.setLamp e.channel (fun c => { c with
      req := e.width % 4096, fresh := true, replaced := if c.fresh then min 65535 (c.replaced + 1) else c.replaced })) := by
  simp only [Block.lampSet, Bool.not_eq_true']
  rfl

end

/-- Settles O41: every action's command cancels or rests alike, and the entry it fires is next; then each committed effect. -/
theorem actionsFireOrCancel : Obligations.ActionsFireOrCancel := by
  refine ⟨⟨fun dt i s hs => ?cancels, fun b i ty e hfire => ?next⟩, fun dt i e s hs hfire hcommits => ?hostNote,
    fun dt i e s hs hfire hcommits => ?peerNote, fun dt i e x s hs hfire hcommits hx => ?lampSet⟩
  case cancels =>
    simp only [List.forall_mem_cons, List.not_mem_nil, false_imp_iff, implies_true, and_true]
    exact ⟨run_cancelsOrRests hs (step := fun b => b.stepValvePulse i) (fireWith_cancelsOrRests _ i 0 Block.valvePulse),
      run_cancelsOrRests hs (step := fun b => b.stepValveLevel i) (fireWith_cancelsOrRests _ i 1 Block.valveLevel),
      run_cancelsOrRests hs (step := fun b => b.stepValveRelease i) (fireWith_cancelsOrRests _ i 2 Block.valveRelease),
      run_cancelsOrRests hs (step := fun b => b.stepLampSet i) (fireWith_cancelsOrRests _ i 3 Block.lampSet),
      run_cancelsOrRests hs (step := fun b => b.stepShutter i) (fireWith_cancelsOrRests _ i 4 Block.shutterAction),
      run_cancelsOrRests hs (step := fun b => b.stepHostNote i) (fireWith_cancelsOrRests _ i 5 (fun e b => b.recordNote e)),
      run_cancelsOrRests hs (step := fun b => b.stepPeerNote i) (stepPeerNote_cancelsOrRests _ i)⟩
  case next =>
    obtain ⟨hentry, htype, hdue, hfirst⟩ := fireable_some hfire
    exact ⟨hentry, htype, hdue, fun p hp hpdue => not_ahead (hfirst p hp hpdue)⟩
  case hostNote => exact run_of_step hs (step := fun b => b.stepHostNote i) (fireWith_commits hfire hcommits _)
  case peerNote =>
    refine run_of_step hs (step := fun b => b.stepPeerNote i) ?_
    split
    · next hroom => exact stepPeerNote_queues hfire hcommits hroom
    · next hfull => exact stepPeerNote_full hfire hcommits hfull
  case lampSet =>
    subst hx
    exact run_of_step hs (step := fun b => b.stepLampSet i) ((fireWith_commits hfire hcommits _).trans (lampSet_eq _))

end Sys2Proof.Proofs
end

section
/-! PROOFS. Committed valve actions and lead-ins by the phase of their channel (R361, R385, R396 to R398, R401 to R405, R418). -/

namespace Sys2Proof.Proofs

open Sys2Proof.Machine Sys2Proof.Laws

/-! ## Requests for a bank (R397, R398) -/

section
variable {b : Block} {e : ArmedEntry} (leadin : Bool)

theorem request_starts (howner : (b.bank (bankOf e.channel)).owner = none) (hwaiting : (b.bank (bankOf e.channel)).waiting = []) :
    b.request e leadin = b.startRequest e leadin := by
  simp [Block.request, howner, hwaiting]

theorem request_waits (h : (b.bank (bankOf e.channel)).owner ≠ none ∨ (b.bank (bankOf e.channel)).waiting ≠ []) :
    b.request e leadin = b.waitBank e leadin := by
  have hbusy : ¬ ((b.bank (bankOf e.channel)).owner = none ∧ (b.bank (bankOf e.channel)).waiting = []) :=
    fun ⟨howner, hwaiting⟩ => h.elim (· howner) (· hwaiting)
  simp [Block.request, hbusy]

end

/-! ## The three actions (R385, R396, R402 to R405, R418) -/

section
variable {b : Block} {e : ArmedEntry}

/-- On a drive that does not run an action's entry fires and nothing follows. -/
theorem valvePulse_stopped (h : b.valves.running = false) : b.valvePulse e = b := by simp [Block.valvePulse, h]
theorem valveLevel_stopped (h : b.valves.running = false) : b.valveLevel e = b := by simp [Block.valveLevel, h]
theorem valveRelease_stopped (h : b.valves.running = false) : b.valveRelease e = b := by simp [Block.valveRelease, h]

end

section
variable {b x : Block} {e : ArmedEntry} (hrun : b.valves.running = true)
include hrun

theorem valvePulse_refused (hx : x = b.dropWaitingLeadin e) {c : Nat} (h : x.refusal e = some c) :
    b.valvePulse e = x.refuseValve e c := by
  simp only [Block.valvePulse, hrun, ← hx, h, Bool.not_true, Bool.false_eq_true, if_false]

section
variable (hx : x = b.dropWaitingLeadin e) (hok : x.refusal e = none)
include hx hok

theorem valvePulse_off (h : (x.valve e.channel).phase = .off) : b.valvePulse e = x.request e false := by
  simp only [Block.valvePulse, hrun, ← hx, hok, h, Bool.not_true, Bool.false_eq_true, if_false]

theorem valvePulse_releasing (h : (x.valve e.channel).phase = .release ∨ (x.valve e.channel).phase = .slowDecay) :
    b.valvePulse e = x.waitBank e false := by
  rcases h with h | h <;> simp only [Block.valvePulse, hrun, ← hx, hok, h, Bool.not_true, Bool.false_eq_true, if_false]

theorem valvePulse_driven (h : (x.valve e.channel).phase = .boost ∨ (x.valve e.channel).phase = .hold) :
    b.valvePulse e = x.restartCommand e.channel e true := by
  rcases h with h | h <;> simp only [Block.valvePulse, hrun, ← hx, hok, h, Bool.not_true, Bool.false_eq_true, if_false]

/-- A lead-in of the entry's own commits with the profile it read; one of another entry is spent, and the profile read now. -/
theorem valvePulse_leadin (h : (x.valve e.channel).phase = .leadin) : b.valvePulse e =
    if (x.valve e.channel).owner = e.seq then x.restartCommand e.channel e false
    else (x.spendLeadin (x.valve e.channel).owner).restartCommand e.channel e true := by
  simp only [Block.valvePulse, hrun, ← hx, hok, h, Bool.not_true, Bool.false_eq_true, if_false]

end

theorem valveLevel_refused {c : Nat} (h : b.refusal e = some c) : b.valveLevel e = b.refuseValve e c := by
  simp only [Block.valveLevel, hrun, h, Bool.not_true, Bool.false_eq_true, if_false]

theorem valveRelease_refused {c : Nat} (h : b.refusal e = some c) : b.valveRelease e = b.refuseValve e c := by
  simp only [Block.valveRelease, hrun, h, Bool.not_true, Bool.false_eq_true, if_false]

variable (hok : b.refusal e = none)
include hok

theorem valveLevel_driven (h : (b.valve e.channel).phase = .boost ∨ (b.valve e.channel).phase = .hold) :
    b.valveLevel e = b.setLogical e.channel (fun c => { c with scale := e.width % 4096 }) := by
  rcases h with h | h <;> simp only [Block.valveLevel, hrun, hok, h, Bool.not_true, Bool.false_eq_true, if_false]

theorem valveLevel_off (h : (b.valve e.channel).phase = .off) : b.valveLevel e = b.request e false := by
  simp only [Block.valveLevel, hrun, hok, h, Bool.not_true, Bool.false_eq_true, if_false]

theorem valveLevel_waits (h : (b.valve e.channel).phase = .leadin ∨ (b.valve e.channel).phase = .release ∨
    (b.valve e.channel).phase = .slowDecay) : b.valveLevel e = b.waitBank e false := by
  rcases h with h | h | h <;> simp only [Block.valveLevel, hrun, hok, h, Bool.not_true, Bool.false_eq_true, if_false]

theorem valveRelease_driven (h : (b.valve e.channel).phase = .boost ∨ (b.valve e.channel).phase = .hold) :
    b.valveRelease e = b.startRelease e.channel := by
  rcases h with h | h <;> simp only [Block.valveRelease, hrun, hok, h, Bool.not_true, Bool.false_eq_true, if_false]

theorem valveRelease_undriven (hboost : (b.valve e.channel).phase ≠ .boost) (hhold : (b.valve e.channel).phase ≠ .hold) :
    b.valveRelease e = b := by
  simp only [Block.valveRelease, hrun, hok, Bool.not_true, Bool.false_eq_true, if_false]
  cases h : (b.valve e.channel).phase with
  | boost => exact absurd h hboost
  | hold => exact absurd h hhold
  | off | leadin | release | slowDecay => rfl

end

/-! ## Lead-ins (R361, R398, R401) -/

/-- A lead-in is skipped where its pulse would be refused, takes a free bank from OFF, and waits otherwise (log entry 16). -/
theorem stepLeadinStart_due {b : Block} {i : Nat} {e : ArmedEntry} (hdue : b.leadinDue i = some e) : b.stepLeadinStart i =
    (if b.valves.running = false ∨ (b.refusal e).isSome then b.skipLeadin e
     else if (b.valve e.channel).phase = .off ∧ (b.bank (bankOf e.channel)).owner = none ∧ (b.bank (bankOf e.channel)).waiting = []
      then (b.takeBank e.channel).startLeadin e.channel e
     else b.waitBank e true) := by
  simp only [Block.stepLeadinStart, hdue, Bool.not_eq_true']
  refine if_congr Iff.rfl rfl ?_
  by_cases hoff : (b.valve e.channel).phase = .off
  · by_cases hfree : (b.bank (bankOf e.channel)).owner = none ∧ (b.bank (bankOf e.channel)).waiting = []
    · rw [if_pos hoff, if_pos ⟨hoff, hfree⟩, request_starts true hfree.1 hfree.2]
      rfl
    · rw [if_pos hoff, if_neg (fun h => hfree h.2), request_waits true (not_and_or.mp hfree)]
  · rw [if_neg hoff, if_neg (fun h => hoff h.1)]

/-! ## The commands -/

section
variable {s : State} {dt i : Nat} {e : ArmedEntry} {t : Block} (hs : s.defined) (hcommits : e.commits)
include hs hcommits

theorem exec_valvePulse (hfire : (s.m.elapse dt).fireable i 0 = some e) (h : ((s.m.elapse dt).fired e).valvePulse e = t) :
    exec (.valvePulse dt i) s = .next (s.result t) :=
  run_of_step hs (step := fun b => b.stepValvePulse i) ((fireWith_commits hfire hcommits _).trans h)

theorem exec_valveLevel (hfire : (s.m.elapse dt).fireable i 1 = some e) (h : ((s.m.elapse dt).fired e).valveLevel e = t) :
    exec (.valveLevel dt i) s = .next (s.result t) :=
  run_of_step hs (step := fun b => b.stepValveLevel i) ((fireWith_commits hfire hcommits _).trans h)

theorem exec_valveRelease (hfire : (s.m.elapse dt).fireable i 2 = some e) (h : ((s.m.elapse dt).fired e).valveRelease e = t) :
    exec (.valveRelease dt i) s = .next (s.result t) :=
  run_of_step hs (step := fun b => b.stepValveRelease i) ((fireWith_commits hfire hcommits _).trans h)

end

/-- Settles O42: each action by the phase of its channel, the stopped drive, and the lead-in. -/
theorem valveActions : Obligations.ValveActions := by
  refine ⟨fun dt i e x s hs hfire hcommits hrun hx => ?pulse, fun dt i e x s hs hfire hcommits hx hrun => ?level,
    fun dt i e x s hs hx hstopped hcommits => ?stopped, fun dt i e x s hs hfire hcommits hx hrun => ?release,
    fun dt i e s hs hdue => run_of_step hs (step := fun b => b.stepLeadinStart i) (stepLeadinStart_due hdue)⟩
  case pulse =>
    have hexec {t : Block} (h : ((s.m.elapse dt).fired e).valvePulse e = t) : exec (.valvePulse dt i) s = .next (s.result t) :=
      exec_valvePulse hs hcommits hfire h
    refine ⟨fun c hc => hexec (valvePulse_refused hrun hx hc), fun hok => ⟨fun hoff howner hwaiting => ?free,
      fun hoff hbusy => ?busy, fun hphase => hexec (valvePulse_releasing hrun hx hok hphase),
      fun hphase => hexec (valvePulse_driven hrun hx hok hphase), fun hphase hown => ?own, fun hphase hother => ?other⟩⟩
    case free => exact hexec ((valvePulse_off hrun hx hok hoff).trans (request_starts false howner hwaiting))
    case busy => exact hexec ((valvePulse_off hrun hx hok hoff).trans (request_waits false hbusy))
    case own => exact hexec ((valvePulse_leadin hrun hx hok hphase).trans (if_pos hown))
    case other => exact hexec ((valvePulse_leadin hrun hx hok hphase).trans (if_neg hother))
  case level =>
    subst hx
    have hexec {t : Block} (h : ((s.m.elapse dt).fired e).valveLevel e = t) : exec (.valveLevel dt i) s = .next (s.result t) :=
      exec_valveLevel hs hcommits hfire h
    exact ⟨fun c hc => hexec (valveLevel_refused hrun hc), fun hok => ⟨fun hphase => hexec (valveLevel_driven hrun hok hphase),
      fun hoff => hexec (valveLevel_off hrun hok hoff), fun hphase => hexec (valveLevel_waits hrun hok hphase)⟩⟩
  case stopped =>
    subst hx
    simp only [List.forall_mem_cons, List.not_mem_nil, false_imp_iff, implies_true, and_true]
    exact ⟨fun hfire => exec_valvePulse hs hcommits hfire (valvePulse_stopped hstopped),
      fun hfire => exec_valveLevel hs hcommits hfire (valveLevel_stopped hstopped),
      fun hfire => exec_valveRelease hs hcommits hfire (valveRelease_stopped hstopped)⟩
  case release =>
    subst hx
    have hexec {t : Block} (h : ((s.m.elapse dt).fired e).valveRelease e = t) : exec (.valveRelease dt i) s = .next (s.result t) :=
      exec_valveRelease hs hcommits hfire h
    exact ⟨fun c hc => hexec (valveRelease_refused hrun hc), fun hok => ⟨fun hphase => hexec (valveRelease_driven hrun hok hphase),
      fun hboost hhold => hexec (valveRelease_undriven hrun hok hboost hhold)⟩⟩

end Sys2Proof.Proofs
end

section
/-! PROOFS. What a release and what the boost converter's state leaves alone in the valve drive (R385, R406, R407, R411, R412). -/

namespace Sys2Proof.Proofs

open Sys2Proof.Machine Sys2Proof.Laws

/-! ## One channel changed -/

/-- The phases in which a channel's coil is driven (R385). -/
def drivenPhases : List ValvePhase := [.leadin, .boost, .hold]

/-- A channel as it was changed keeps its trip and its model temperature, and is driven only where it was. -/
structure ChannelEased (c d : ValveChannel) : Prop where
  tripped : d.tripped = c.tripped
  temp : d.temp = c.temp
  undriven : c.phase ∉ drivenPhases → d.phase ∉ drivenPhases

theorem ChannelEased.refl (c : ValveChannel) : ChannelEased c c := ⟨rfl, rfl, id⟩

theorem ChannelEased.trans {c d e : ValveChannel} (h : ChannelEased c d) (k : ChannelEased d e) : ChannelEased c e :=
  ⟨k.tripped.trans h.tripped, k.temp.trans h.temp, fun hc => k.undriven (h.undriven hc)⟩

section
variable (b : Block) (n k : Nat) (f : ValveChannel → ValveChannel)

theorem valve_setValve : (b.setValve n f).valve k = if k = n ∧ n < 16 then f (b.valve n) else b.valve k := by
  unfold Block.setValve Block.valve updAt
  by_cases hn : n < 16
  · by_cases hk : k = n
    · subst hk; simp [Vector.getD, hn]
    · simp [Vector.getD, hn, hk, Ne.symm hk]
  · simp [hn]

theorem valve_setValve_same (hn : n < 16) : (b.setValve n f).valve n = f (b.valve n) := by
  rw [valve_setValve, if_pos ⟨rfl, hn⟩]

end

/-! ## The whole drive -/

/-- `b` is `a` in the same TIME clock with the registers as they were but for IC_STAT, and with no channel driven that was not; trips
and model temperatures stay. -/
structure Eased (a b : Block) : Prop where
  fields : WritesOnly [] a b
  valve : ∀ k, ChannelEased (a.valve k) (b.valve k)

namespace Eased

variable {a b c : Block}

theorem refl (a : Block) : Eased a a := ⟨.refl a, fun _ => .refl _⟩

theorem trans (h : Eased a b) (k : Eased b c) : Eased a c := ⟨h.fields.trans k.fields, fun n => (h.valve n).trans (k.valve n)⟩

theorem foldl {α : Type} (f : Block → α → Block) (h : ∀ (b : Block) (x : α), Eased b (f b x)) (l : List α) (b : Block) :
    Eased b (l.foldl f b) := by
  induction l generalizing b with
  | nil => exact refl b
  | cons x xs ih => exact (h b x).trans (ih (f b x))

/-- Reports touch no channel. -/
theorem of_reported (h : a.Reported b) : Eased a b where
  fields := .of_exchanged (.of_reported h)
  valve k := by rw [Block.valve, Block.valve, reported_valves h]; exact .refl _

theorem of_setBoost (b : Block) (f : Boost → Boost) : Eased b (b.setBoost f) := ⟨⟨rfl, rfl, fun _ _ _ => rfl⟩, fun _ => .refl _⟩

theorem of_setBank (b : Block) (x : Nat) (f : Bank → Bank) : Eased b (b.setBank x f) := ⟨⟨rfl, rfl, fun _ _ _ => rfl⟩, fun _ => .refl _⟩

theorem of_setValve (b : Block) (n : Nat) {f : ValveChannel → ValveChannel} (h : ∀ c, ChannelEased c (f c)) :
    Eased b (b.setValve n f) where
  fields := ⟨rfl, rfl, fun _ _ _ => rfl⟩
  valve k := by
    rw [valve_setValve]
    split
    · rename_i hk; rw [hk.1]; exact h _
    · exact .refl _

theorem of_setLogical (b : Block) (n : Nat) {f : ValveChannel → ValveChannel} (h : ∀ c, ChannelEased c (f c)) :
    Eased b (b.setLogical n f) :=
  foldl _ (fun b k => of_setValve b k h) _ b

theorem now (h : Eased a b) : b.now = a.now := h.fields.now

/-- A field of any register but IC_STAT. -/
theorem get (h : Eased a b) {f : RegField} (hf : f.idx ≠ 0xCB) : b.get f = a.get f :=
  h.fields.get f hf (fun _ hg => absurd hg List.not_mem_nil)

theorem setpoint (h : Eased a b) : b.setpoint = a.setpoint := by rw [Block.setpoint, h.get (by decide), Block.setpoint]

theorem overVoltage (h : Eased a b) (v : Nat) : b.overVoltage v = a.overVoltage v := by
  rw [Block.overVoltage, h.setpoint, Block.overVoltage]

end Eased

/-! ## The operations -/

section
variable (b : Block)

theorem boostOver_eased : Eased b b.boostOver := by
  unfold Block.boostOver
  split
  · exact (Eased.of_setBoost b _).trans (.of_reported (event_reported _ _ _))
  · exact .refl b

theorem fallback_eased (x : Nat) : Eased b (b.fallback x) := by
  unfold Block.fallback
  split
  · exact .refl b
  · split
    · refine (Eased.of_setLogical b _ fun c => ?_).trans ((Eased.of_setBank _ x _).trans (.of_reported (eventFrom_reported _ _ _ _ _)))
      exact ⟨rfl, rfl, fun _ => (by decide : ValvePhase.slowDecay ∉ drivenPhases)⟩
    · exact .refl b

theorem fallbacks_eased (xs : List Nat) : Eased b (xs.foldl Block.fallback b) := .foldl _ fallback_eased xs b

theorem regulate_eased : Eased b b.regulate := by
  unfold Block.regulate
  exact .of_setBoost b _

end

/-- The banks in RELEASE fall back while VBOOST, measured as `v`, is above its setpoint by 10 % (R407). -/
def fallBack (v : Nat) (b : Block) : Block := if b.overVoltage v then ([0, 1, 2, 3] : List Nat).foldl Block.fallback b else b

/-- A converter that BOOST_OV stopped restarts once VBOOST, measured as `v`, is below its setpoint (R412). -/
def restartBoost (v : Nat) (b : Block) : Block :=
  if b.valves.boost.ovStop ∧ v < b.setpoint then
    (b.setBoost (fun k => { k with ovStop := false, running := true })).event 0x0509 (leBytes 2 v)
  else b

section
variable (b : Block) (v : Nat)

/-- The four stages of a measurement of VBOOST. -/
theorem boostSense_eq : b.boostSense v = (restartBoost v (fallBack v (b.setBoost (fun k => { k with vboost := v })).boostOver)).regulate :=
  rfl

theorem fallBack_eased : Eased b (fallBack v b) := by
  unfold fallBack
  split
  · exact fallbacks_eased b _
  · exact .refl b

theorem restartBoost_eased : Eased b (restartBoost v b) := by
  unfold restartBoost
  split
  · exact (Eased.of_setBoost b _).trans (.of_reported (event_reported _ _ _))
  · exact .refl b

/-- A measurement of VBOOST lets no channel be driven that was not. -/
theorem boostSense_eased : Eased b (b.boostSense v) := by
  rw [boostSense_eq]
  exact (((Eased.of_setBoost b _).trans (boostOver_eased _)).trans (fallBack_eased _ v)).trans
    ((restartBoost_eased _ v).trans (regulate_eased _))

end

/-- A channel at the start of its RELEASE (R385). -/
def releasing (now : Nat) (c : ValveChannel) : ValveChannel :=
  { c.enter now .recovery with phase := .release, checking := false, cmdEnd := none, releaseAt := now, chopOn := 0 }

theorem releasing_eased (now : Nat) (c : ValveChannel) : ChannelEased c (releasing now c) :=
  ⟨rfl, rfl, fun _ => (by decide : ValvePhase.release ∉ drivenPhases)⟩

section
variable (b : Block)

/-- What follows the change of the channels in a RELEASE's start drives none of them. -/
theorem startRelease_eased_setLogical (n : Nat) : Eased (b.setLogical n (releasing b.now)) (b.startRelease n) := by
  unfold Block.startRelease
  refine (Eased.of_setBank _ (bankOf n) (fun k => { k with fallback := false })).trans ?_
  dsimp only
  split
  · exact (boostOver_eased _).trans (fallback_eased _ _)
  · exact .refl _

theorem startRelease_eased (n : Nat) : Eased b (b.startRelease n) :=
  (Eased.of_setLogical b n (releasing_eased b.now)).trans (startRelease_eased_setLogical b n)

/-- The first channel of a logical channel is the one that gives it its number. -/
theorem members_eq_cons (n : Nat) : ∃ l, b.members n = n :: l := by
  unfold Block.members
  split
  · exact ⟨_, rfl⟩
  · exact ⟨_, rfl⟩

/-- A channel whose RELEASE has started is not driven. -/
theorem startRelease_undriven {n : Nat} (hn : n < 16) : ((b.startRelease n).valve n).phase ∉ drivenPhases := by
  obtain ⟨l, hl⟩ := members_eq_cons b n
  have hrest : Eased (b.setValve n (releasing b.now)) (b.setLogical n (releasing b.now)) := by
    rw [Block.setLogical, hl]
    exact .foldl _ (fun b k => .of_setValve b k (releasing_eased _)) l _
  refine ((hrest.trans (startRelease_eased_setLogical b n)).valve n).undriven ?_
  rw [valve_setValve_same _ _ _ hn]
  exact (by decide : ValvePhase.release ∉ drivenPhases)

end

end Sys2Proof.Proofs
end

section
/-! PROOFS. How the phases of a running channel end, and its chop periods (R385, R386, R389 to R391, R398, R413, R417). -/

namespace Sys2Proof.Proofs

open Sys2Proof.Machine Sys2Proof.Laws

/-! ## The ends of the phases -/

section
variable {b : Block} {n i : Nat} {r : Option Nat}

theorem stepLowside_passed {x : Block} (hcheck : (b.valve n).checking = true)
    (hcode : (b.valve n).code i ≤ b.ownCode n (b.valve n).shortI) (hdue : (b.valve n).checkAt + 200 ≤ b.now)
    (hx : x = b.setValve n (fun c => { c with checking := false, iMeas := i })) :
    b.stepLowside n i r = if ∃ k ∈ x.members (b.logical n), (x.valve k).checking = true then x
      else x.switchOn (b.logical n) (x.sensed (b.logical n)) r := by
  have hpassed : ¬ b.now < (b.valve n).checkAt + usec 2 := Nat.not_lt.mpr hdue
  subst hx
  simp only [Block.stepLowside, hcheck, Bool.not_true, Bool.false_eq_true, if_false, if_neg (Nat.not_lt.mpr hcode), if_neg hpassed]
  exact if_congr List.any_eq_true rfl rfl

theorem stepLowside_short (hcheck : (b.valve n).checking = true) (hcode : b.ownCode n (b.valve n).shortI < (b.valve n).code i) :
    b.stepLowside n i r = b.latchAll (b.latchGroup n) 1 (fun _ => i) := by
  simp only [Block.stepLowside, hcheck, Bool.not_true, Bool.false_eq_true, if_false, if_pos hcode]

theorem stepBoostEnd_due {m : Nat} (hm : m = b.logical n) (hphase : (b.valve m).phase = .boost) (hcheck : (b.valve m).checking = false)
    (hend : (b.valve m).code (b.valve m).profile.boostI ≤ (b.valve m).code i ∨
      (b.valve m).boostAt + 100 * (b.valve m).profile.boostT ≤ b.now) :
    b.stepBoostEnd n i r = ((b.setLogical m (fun c =>
      { c with phase := .hold, next := .hold, holdAt := b.now, debt := 0, fullOn := 0 })).measured m i).chopLogical m i r := by
  subst hm
  exact if_pos ⟨hphase, by rw [hcheck]; rfl, hend⟩

theorem stepBoostEnd_rests (h : (b.valve (b.logical n)).phase ≠ .boost) : b.stepBoostEnd n i r = b := if_neg fun hc => h hc.1

theorem stepCommandEnd_due {t : Nat} (hphase : (b.valve n).phase = .boost ∨ (b.valve n).phase = .hold)
    (hcmd : (b.valve n).cmdEnd = some t) (hdue : t ≤ b.now) : b.stepCommandEnd n = b.startRelease (b.logical n) := by
  simp only [Block.stepCommandEnd, if_pos hphase, hcmd, if_pos hdue]

theorem stepReleaseEnd_due {c : ValveChannel} (hc : c = b.valve (b.logical n))
    (h : (c.phase = .release ∧ c.releaseAt + 100 * c.profile.relTMax ≤ b.now) ∨
      (c.phase = .slowDecay ∧ c.releaseAt + 100 * (20 * c.profile.relTMax) ≤ b.now) ∨
      ((c.phase = .release ∨ c.phase = .slowDecay) ∧ c.code i < c.code c.profile.relI)) :
    b.stepReleaseEnd n i = (b.freeBank (b.logical n)).grant (bankOf n) := by
  subst hc
  refine if_pos ?_
  rcases h with ⟨hphase, hdue⟩ | ⟨hphase, hdue⟩ | ⟨hphase, hcode⟩
  · exact ⟨.inl hphase, .inr (by simpa only [ValveChannel.releaseBound, usec, hphase, reduceCtorEq, if_false] using hdue)⟩
  · exact ⟨.inr hphase, .inr (by simpa only [ValveChannel.releaseBound, usec, hphase, if_true] using hdue)⟩
  · exact ⟨hphase, .inl hcode⟩

/-- The record of a trip names the time since the BOOST start, and the RELEASE that it starts takes none. -/
theorem stepOntimeTrip_due (hphase : (b.valve n).phase = .boost ∨ (b.valve n).phase = .hold) (hprot : bitOf (b.prot n) 1 = true)
    (hdue : (b.valve n).boostAt + 100000 * b.maxOn n ≤ b.now) : b.stepOntimeTrip n =
      ((b.startRelease (b.logical n)).setBit R.VD_TRIP.ONTIME_SEEN n).eventFrom 0x0504 (0x30 + n) (0x30 + n)
        (leBytes 1 n ++ leBytes 2 ((b.now - (b.valve n).boostAt) / 100000)) := by
  have htrip : b.stepOntimeTrip n = ((b.startRelease (b.logical n)).setBit R.VD_TRIP.ONTIME_SEEN n).eventFrom 0x0504 (0x30 + n) (0x30 + n)
      (leBytes 1 n ++ leBytes 2 (((b.startRelease (b.logical n)).now - (b.valve n).boostAt) / 100000)) :=
    if_pos ⟨hphase, hprot, hdue⟩
  rw [htrip, (startRelease_eased b _).now]

theorem stepChop_due {m : Nat} (hm : m = b.logical n) (hphase : (b.valve m).phase = .hold ∨ (b.valve m).phase = .leadin)
    (hcheck : ∀ k ∈ b.members m, (b.valve k).checking = false) : b.stepChop n i r = (b.measured m i).chopLogical m i r := by
  subst hm
  have hnone : ((b.members (b.logical n)).any fun k => (b.valve k).checking) = false :=
    List.any_eq_false.mpr fun k hk => ne_true_of_eq_false (hcheck k hk)
  exact if_pos ⟨hphase, by rw [hnone]; rfl⟩

theorem stepChop_rests (h : (b.valve (b.logical n)).phase ∉ [ValvePhase.hold, ValvePhase.leadin]) : b.stepChop n i r = b :=
  if_neg fun hc => h (by simpa using hc.1)

end

/-! ## Chop periods at the peak current (R390, R391, R394) -/

section
variable {c : ValveChannel} {now i t : Nat} {r : Option Nat}

/-- A hold that is not open and not proportional at 0 is regulated to the peak current, and so is a lead-in. -/
theorem chop_eq_peakChop (hphase : c.phase = .leadin ∨ (c.phase = .hold ∧ c.profile.openMode = false))
    (hlevel : ¬ (c.phase = .hold ∧ c.level = true ∧ c.scale = 0)) : c.chop now i r = c.peakChop now i r := by
  have hopen : ¬ (c.phase = .hold ∧ c.profile.openMode = true) := by
    rintro ⟨hhold, hmode⟩
    rcases hphase with h | ⟨-, h⟩
    · rw [hhold] at h; cases h
    · rw [hmode] at h; cases h
  rw [ValveChannel.chop, if_neg hlevel, if_neg hopen]

theorem peakChop_above (h : c.setpointCode now < c.code i) : c.peakChop now i r = c.startPeriod now 0 :=
  if_pos (decide_eq_true h)

section
variable (h : c.code i ≤ c.setpointCode now) (hfull : c.fullOn < 32)
include h hfull

/-- At or below the setpoint with no refresh due a period starts in ON. -/
theorem above_refreshDue_eq_false : c.above now i = false ∧ c.refreshDue = false :=
  ⟨decide_eq_false (Nat.not_lt.mpr h), decide_eq_false (Nat.not_le.mpr hfull)⟩

/-- A period that starts in ON stays there until the setpoint is reached, the blanking at least. -/
theorem peakChop_reached : c.peakChop now i (some t) = c.startPeriod now (min c.chopPeriod (max 50 t : Nat)) := by
  simp only [ValveChannel.peakChop, above_refreshDue_eq_false h hfull, Bool.false_eq_true, if_false]

/-- A period in which the setpoint is not reached is in ON throughout. -/
theorem peakChop_unreached : c.peakChop now i none = c.startPeriod now c.chopPeriod := by
  simp only [ValveChannel.peakChop, above_refreshDue_eq_false h hfull, Bool.false_eq_true, if_false]

end

/-- CHOP_F of 10 to 50 kHz: a chop period takes 20 µs at least. -/
theorem le_chopPeriod (hlo : 10 ≤ c.profile.chopF) (hhi : c.profile.chopF ≤ 50) : (2000 : Rat) ≤ c.chopPeriod := by
  have hlo' : (10 : Rat) ≤ c.profile.chopF := by exact_mod_cast hlo
  have hhi' : (c.profile.chopF : Rat) ≤ 50 := by exact_mod_cast hhi
  rw [ValveChannel.chopPeriod, le_div_iff₀ (by linarith)]
  linarith

theorem startPeriod_on {on : Rat} (h : 0 < on) : (c.startPeriod now on).drive = .on :=
  if_neg (not_le.mpr h)

/-- FREEWHEEL follows ON when the on-time of the period has passed. -/
theorem driveNow_of_on (hdrive : c.drive = .on) (hat : c.chopAt = now) (hon : c.chopOn = (t : Rat)) (u : Nat) :
    c.driveNow u = if u < now + t then .on else .freewheel := by
  have hpassed : c.chopped u = decide (now + t ≤ u) := by
    rw [ValveChannel.chopped, hdrive, hat, hon, ← Nat.cast_add]
    simp only [beq_self_eq_true, Bool.true_and, Nat.cast_le]
  rw [ValveChannel.driveNow, hpassed, hdrive]
  by_cases hu : u < now + t
  · rw [if_pos hu, if_neg (by simpa using hu)]
  · rw [if_neg hu, if_pos (by simpa using hu)]

end

/-- Settles O43: each phase by the step that ends it, and the chop period by the current at its start. -/
theorem valvePhasesEnd : Obligations.ValvePhasesEnd := by
  refine ⟨fun dt n i r x s hs hcheck hcode hdue hx => ?passed, fun dt n i r s hs hcheck hcode => ?short,
    fun dt n i m r s hs hm hphase hcheck hend => ?boost, fun dt n t s hs hphase hcmd hdue => ?command,
    fun dt n i c s hs hc h => ?release, fun dt x late s hs hlate => ?wait, fun dt n s hs hphase hprot hdue => ?ontime,
    fun dt n i m r s hs hm hphase hcheck => ?chop, fun dt n i r s hs => ⟨fun h => ?chopRests, fun h => ?boostRests⟩,
    fun c now i t r hphase hlevel => ?peak, fun c now t hdrive hat hon u _ => driveNow_of_on hdrive hat hon u⟩
  case passed => exact run_of_step hs (step := fun b => b.stepLowside n i r) (stepLowside_passed hcheck hcode hdue hx)
  case short => exact run_of_step hs (step := fun b => b.stepLowside n i r) (stepLowside_short hcheck hcode)
  case boost => exact run_of_step hs (step := fun b => b.stepBoostEnd n i r) (stepBoostEnd_due hm hphase hcheck hend)
  case command => exact run_of_step hs (step := fun b => b.stepCommandEnd n) (stepCommandEnd_due hphase hcmd hdue)
  case release => exact run_of_step hs (step := fun b => b.stepReleaseEnd n i) (stepReleaseEnd_due hc h)
  case wait =>
    subst hlate
    exact run_of_step hs (step := fun b => b.stepBankWait x) rfl
  case ontime => exact run_of_step hs (step := fun b => b.stepOntimeTrip n) (stepOntimeTrip_due hphase hprot hdue)
  case chop => exact run_of_step hs (step := fun b => b.stepChop n i r) (stepChop_due hm hphase hcheck)
  case chopRests => exact run_of_step hs (step := fun b => b.stepChop n i r) (stepChop_rests h)
  case boostRests => exact run_of_step hs (step := fun b => b.stepBoostEnd n i r) (stepBoostEnd_rests h)
  case peak =>
    rw [chop_eq_peakChop hphase hlevel]
    refine ⟨fun habove => ?_, fun hbelow hfull hlo hhi => ?_⟩
    · rw [peakChop_above habove]
      exact ⟨rfl, rfl⟩
    · have hperiod := le_chopPeriod hlo hhi
      cases r with
      | none =>
        rw [peakChop_unreached hbelow hfull]
        exact ⟨rfl, startPeriod_on (by linarith), nofun, fun _ => ⟨rfl, if_pos le_rfl⟩⟩
      | some reach =>
        rw [peakChop_reached hbelow hfull]
        have hblank : (0 : Rat) < (max 50 reach : Nat) := by exact_mod_cast (by omega : 0 < max 50 reach)
        refine ⟨rfl, startPeriod_on (lt_min (by linarith) hblank), fun hr ht => ?_, nofun⟩
        cases hr
        refine min_eq_right ?_
        rw [Nat.cast_max]
        exact max_le (by norm_num; linarith) ht

end Sys2Proof.Proofs
end

section
/-! PROOFS. What latches valve channels, the boost converter and the coil model (R407, R409, R411, R412, R415, R416, R418 to R420). -/

namespace Sys2Proof.Proofs

open Sys2Proof.Machine Sys2Proof.Laws

/-! ## Faults of a channel and of a bank (R418 to R420) -/

section
variable {b : Block} {n i : Nat}

theorem stepOvercurrent_latches (hphase : (b.valve n).phase ≠ .off) (hcheck : (b.valve n).checking = false)
    (hcode : b.ownCode n (b.valve n).profile.ocI < (b.valve n).code i) :
    b.stepOvercurrent n i = b.latchAll (b.latchGroup n) 0 (fun _ => i) :=
  if_pos ⟨hphase, by rw [hcheck]; rfl, hcode⟩

theorem stepOpenCoil_latches (hphase : (b.valve n).phase = .boost ∨ (b.valve n).phase = .hold) (hwin : (b.valve n).profile.openWin ≠ 0)
    (hdue : (b.valve n).boostAt + 100 * (b.valve n).profile.openWin ≤ b.now)
    (hcode : (b.valve n).code i < b.ownCode n (b.valve n).profile.openI) :
    b.stepOpenCoil n i = b.latchAll (b.latchGroup n) 2 (fun _ => i) :=
  if_pos ⟨hphase, hwin, hdue, hcode⟩

/-- BOOTSTRAP_UV counts while the bank's GB or GH is on for the channel that occupies it. -/
theorem stepBootstrapUv_occupied {x : Nat} (l : List Nat) (howner : (b.bank x).owner = some n) : b.stepBootstrapUv x l =
    if (b.valve n).driveNow b.now = .boost ∨ (b.valve n).driveNow b.now = .on then
      (b.setBit R.VD_FAULT.BOOTSTRAP_UV x).latchAll [4 * x, 4 * x + 1, 4 * x + 2, 4 * x + 3] 3 (b.detected l (4 * x))
    else b := by
  simp only [Block.stepBootstrapUv, howner]

/-- A latched channel, bank or pair partner refuses an action on an enabled bank with FAULT. -/
theorem refusal_of_faulted {e : ArmedEntry} (hbank : b.bitAt R.VD_CTL.BANK_EN (bankOf e.channel) = true)
    (h : b.latched e.channel = true ∨ b.bitAt R.VD_FAULT.BOOTSTRAP_UV (bankOf e.channel) = true ∨ b.flag R.VD_FAULT.BOOST_UV = true ∨
      (b.pairedNow e.channel = true ∧ b.latched (e.channel + 1) = true)) : b.refusal e = some 21 := by
  have hfault : b.faulted e.channel = true := by
    simpa only [Block.faulted, Block.bankLatched, Bool.or_eq_true, Bool.and_eq_true, or_assoc] using h
  simp only [Block.refusal, hbank, hfault, Bool.not_true, Bool.false_eq_true, if_false, if_true]

end

/-! ## The boost converter (R407, R409, R411, R412) -/

section
variable {b : Block} {v : Nat}

theorem boostOver_within (h : ¬ 11 * b.setpoint < 10 * b.valves.boost.vboost) : b.boostOver = b :=
  if_neg fun hc => h (of_decide_eq_true hc.2)

theorem fallBack_within (h : ¬ 11 * b.setpoint < 10 * v) : fallBack v b = b := if_neg fun hc => h (of_decide_eq_true hc)

/-- Above the setpoint by 10 % the running converter stops with BOOST_OV and every RELEASE falls back. -/
theorem boostSense_over {x : Block} (hx : x = b.setBoost (fun k => { k with vboost := v })) (hrun : b.valves.boost.running = true)
    (hover : 11 * b.setpoint < 10 * v) : b.boostSense v =
      (([0, 1, 2, 3] : List Nat).foldl Block.fallback
        ((x.setBoost (fun k => { k with running := false, ovStop := true, pumping := false })).event 0x0508 (leBytes 2 v))).regulate := by
  have hstop : x.boostOver =
      (x.setBoost (fun k => { k with running := false, ovStop := true, pumping := false })).event 0x0508 (leBytes 2 v) := by
    subst hx; exact if_pos ⟨hrun, decide_eq_true hover⟩
  have heased : Eased b x.boostOver := by subst hx; exact (Eased.of_setBoost b _).trans (boostOver_eased _)
  have hfall : fallBack v x.boostOver = ([0, 1, 2, 3] : List Nat).foldl Block.fallback x.boostOver :=
    if_pos ((heased.overVoltage v).trans (decide_eq_true hover))
  have hrest : restartBoost v (fallBack v x.boostOver) = fallBack v x.boostOver :=
    if_neg fun hc => by have hlt := hc.2; rw [(heased.trans (fallBack_eased _ v)).setpoint] at hlt; omega
  rw [boostSense_eq, ← hx, hrest, hfall, hstop]

/-- Within 10 % of the setpoint nothing stops and nothing falls back; a stopped converter may restart. -/
theorem boostSense_within {x : Block} (hx : x = b.setBoost (fun k => { k with vboost := v })) (h : 10 * v ≤ 11 * b.setpoint) :
    b.boostSense v = (restartBoost v x).regulate := by
  have hover : x.boostOver = x := by subst hx; exact boostOver_within (Nat.not_lt.mpr h)
  have hfall : fallBack v x = x := by subst hx; exact fallBack_within (Nat.not_lt.mpr h)
  rw [boostSense_eq, ← hx, hover, hfall]

theorem boostSense_restores {x : Block} (hx : x = b.setBoost (fun k => { k with vboost := v })) (hstop : b.valves.boost.ovStop = true)
    (hlt : v < b.setpoint) : b.boostSense v =
      ((x.setBoost (fun k => { k with ovStop := false, running := true })).event 0x0509 (leBytes 2 v)).regulate := by
  rw [boostSense_within hx (by omega)]
  subst hx
  exact congrArg Block.regulate (if_pos ⟨hstop, hlt⟩)

theorem boostSense_regulates {x : Block} (hx : x = b.setBoost (fun k => { k with vboost := v })) (hle : 10 * v ≤ 11 * b.setpoint)
    (hstop : b.valves.boost.ovStop = false) : b.boostSense v = x.regulate := by
  rw [boostSense_within hx hle]
  subst hx
  exact congrArg Block.regulate (if_neg fun hc => ne_true_of_eq_false hstop hc.1)

/-- The converter switches below its target: on from where it did, from SETPOINT − HYST down, or for a lead-in's top-up. -/
theorem regulate_pumping_iff {x : Boost} (hx : x = b.valves.boost) : b.regulate.valves.boost.pumping = true ↔
    x.running = true ∧ (x.vboost : Rat) < b.boostTarget ∧
      (x.pumping = true ∨ (x.vboost : Rat) ≤ b.boostTarget - (5 * b.get R.VD_BST_CTL.HYST : Nat) ∨
        ∃ c ∈ b.valves.chans.toList, c.phase = .leadin) := by
  subst hx
  simp only [Block.regulate, block_setBoost_valves, Block.topUp, Bool.and_eq_true, Bool.or_eq_true, decide_eq_true_eq,
    List.any_eq_true, beq_iff_eq, and_assoc, or_assoc]
  exact Iff.rfl

theorem softStart_iff : b.softStart = true ↔ b.valves.boost.running = true ∧ b.now < b.valves.boost.startedAt + 1000000 := by
  rw [Block.softStart, Bool.and_eq_true, decide_eq_true_eq, msec]

theorem boostTarget_ramping {x : Boost} (hx : x = b.valves.boost) (hrun : x.running = true) (h : b.now < x.startedAt + 1000000) :
    b.boostTarget = x.vstart + ((b.setpoint : Rat) - x.vstart) * (b.now - x.startedAt : Nat) / 1000000 := by
  subst hx
  have hsoft : b.softStart = true := softStart_iff.mpr ⟨hrun, h⟩
  simp only [Block.boostTarget, hsoft, if_true, msec]
  norm_num

theorem boostTarget_ramped (h : b.valves.boost.startedAt + 1000000 ≤ b.now) : b.boostTarget = (b.setpoint : Rat) := by
  have hsoft : ¬ b.softStart = true := fun hc => Nat.not_lt.mpr h (softStart_iff.mp hc).2
  simp only [Block.boostTarget, if_neg hsoft]

variable {x : Block} (hx : x = b.boostSense v)
include hx

/-- BOOST_UV latches every channel while the check is armed (R420); the setpoint is not the measurement's to change. -/
theorem stepBoostUv_eq (l : List Nat) : b.stepBoostUv v l =
    if x.valves.boost.uvArmed = true ∧ 100 * v < 85 * b.setpoint then
      (x.setFlag R.VD_FAULT.BOOST_UV true).latchAll (List.range 16) 4 (x.detected l 0)
    else x := by
  subst hx
  rw [← (boostSense_eased b v).setpoint]
  rfl

theorem stepBoostUvArm_eq : b.stepBoostUvArm v =
    if x.valves.boost.running = true ∧
        (b.setpoint ≤ v + 5 * b.get R.VD_BST_CTL.HYST ∨ x.valves.boost.startedAt + 5000000 ≤ b.now) then
      x.setBoost (fun k => { k with uvArmed := true })
    else x := by
  subst hx
  have heased := boostSense_eased b v
  rw [← heased.setpoint, ← heased.now, ← heased.get (f := R.VD_BST_CTL.HYST) (by decide)]
  rfl

end

/-! ## The coil model (R415, R416) -/

/-- A channel after one update of its model. -/
def warmed (t sq : Rat) (c : ValveChannel) : ValveChannel := { c with temp := t, iMeas := if sq = 0 then 0 else c.iMeas }

/-- Channel `n` is tripped at `t` °C or no longer is, with the event of it. -/
def markTrip (tripped : Bool) (code n : Nat) (t : Rat) (b : Block) : Block :=
  (b.setValve n (fun c => { c with tripped := tripped })).eventFrom code (0x30 + n) (0x30 + n) (leBytes 1 n ++ leBytes 2 (tempCode t))

/-- A logical channel that is driven goes to RELEASE. -/
def releaseDriven (m : Nat) (b : Block) : Block := if (b.valve m).phase ∈ drivenPhases then b.startRelease m else b

/-- Channel `n` trips at `t` °C, and what drives it goes to RELEASE. -/
def coilTrip (n : Nat) (t : Rat) (b : Block) : Block := releaseDriven (b.logical n) (markTrip true 0x0502 n t b)

section
variable (b : Block) {n : Nat}

theorem releaseDriven_eased (m : Nat) : Eased b (releaseDriven m b) := by
  unfold releaseDriven
  split
  · exact startRelease_eased b m
  · exact .refl b

theorem releaseDriven_undriven {m : Nat} (hm : m < 16) : ((releaseDriven m b).valve m).phase ∉ drivenPhases := by
  unfold releaseDriven
  split
  · exact startRelease_undriven b hm
  · assumption

/-- The model's own case split on the phase of a tripped channel. -/
theorem releaseDriven_eq_match (m : Nat) : releaseDriven m b = match (b.valve m).phase with
    | .leadin => b.startRelease m
    | .boost => b.startRelease m
    | .hold => b.startRelease m
    | .off => b
    | .release => b
    | .slowDecay => b := by
  unfold releaseDriven
  cases (b.valve m).phase <;> rfl

/-- Which logical channel a channel belongs to is the banks' to say, and a trip changes none. -/
theorem markTrip_logical (tripped : Bool) (code : Nat) (t : Rat) (m : Nat) : (markTrip tripped code n t b).logical m = b.logical m := by
  unfold Block.logical Block.bank markTrip
  rw [block_eventFrom_valves, block_setValve_valves]

theorem markTrip_valve (hn : n < 16) (tripped : Bool) (code : Nat) (t : Rat) :
    (markTrip tripped code n t b).valve n = { b.valve n with tripped := tripped } := by
  rw [← valve_setValve_same b n (fun c => { c with tripped := tripped }) hn, markTrip, Block.valve, block_eventFrom_valves, Block.valve]

theorem coilTrip_valve (hn : n < 16) (t : Rat) :
    ((coilTrip n t b).valve n).tripped = true ∧ ((coilTrip n t b).valve n).temp = (b.valve n).temp := by
  have hkept := (releaseDriven_eased (markTrip true 0x0502 n t b) (b.logical n)).valve n
  rw [markTrip_valve b hn] at hkept
  exact ⟨hkept.tripped, hkept.temp⟩

/-- One update of a channel's model: the new temperature, then a trip, the end of one, or neither. -/
theorem coilChannel_eq (hn : n < 16) {sq t : Rat} (ht : t = b.coilStep n sq) : b.coilChannel (n, sq) =
    if (b.valve n).tripped = false ∧ bitOf (b.prot n) 0 = true ∧ (b.coilMax n : Rat) ≤ t then coilTrip n t (b.setValve n (warmed t sq))
    else if (b.valve n).tripped = true ∧ t ≤ (b.coilMax n : Rat) - (b.coilHyst n : Rat) then
      markTrip false 0x0503 n t (b.setValve n (warmed t sq))
    else b.setValve n (warmed t sq) := by
  obtain ⟨x, hx⟩ : ∃ x, x = b.setValve n (warmed t sq) := ⟨_, rfl⟩
  have htripped : (x.valve n).tripped = (b.valve n).tripped := by rw [hx, valve_setValve_same _ _ _ hn]; rfl
  rw [← hx, coilTrip, releaseDriven_eq_match, ← markTrip_logical (n := n) x true 0x0502 t n, ← htripped]
  subst ht hx
  simp only [Block.coilChannel, Bool.and_eq_true, Bool.not_eq_true', decide_eq_true_eq, and_assoc]
  rfl

variable {sq t : Rat} (hn : n < 16) (ht : t = b.coilStep n sq)
include hn ht

/-- TCOIL_MAX trips a protected channel and, where it is its own logical channel, ends what drives it. -/
theorem coilChannel_trips (htripped : (b.valve n).tripped = false) (hprot : bitOf (b.prot n) 0 = true) (hmax : (b.coilMax n : Rat) ≤ t) :
    ((b.coilChannel (n, sq)).valve n).tripped = true ∧ ((b.coilChannel (n, sq)).valve n).temp = t ∧
      (b.logical n = n → ((b.coilChannel (n, sq)).valve n).phase ∉ drivenPhases) := by
  rw [coilChannel_eq b hn ht, if_pos ⟨htripped, hprot, hmax⟩]
  obtain ⟨htrip, htemp⟩ := coilTrip_valve (b.setValve n (warmed t sq)) hn t
  refine ⟨htrip, htemp.trans ?_, fun hlogical => ?_⟩
  · rw [valve_setValve_same _ _ _ hn, warmed]
  · rw [coilTrip, show (b.setValve n (warmed t sq)).logical n = n from hlogical]
    exact releaseDriven_undriven _ hn

/-- A tripped channel that has cooled by THYST resumes. -/
theorem coilChannel_resumes (htripped : (b.valve n).tripped = true) (hcool : t ≤ (b.coilMax n : Rat) - (b.coilHyst n : Rat)) :
    ((b.coilChannel (n, sq)).valve n).tripped = false ∧ ((b.coilChannel (n, sq)).valve n).temp = t := by
  rw [coilChannel_eq b hn ht, if_neg (by rw [htripped]; exact fun hc => Bool.noConfusion hc.1), if_pos ⟨htripped, hcool⟩,
    markTrip_valve _ hn, valve_setValve_same _ _ _ hn]
  exact ⟨rfl, rfl⟩

theorem coilChannel_stays (hcool : (b.valve n).tripped = false → bitOf (b.prot n) 0 = false ∨ t < (b.coilMax n : Rat))
    (hhot : (b.valve n).tripped = true → (b.coilMax n : Rat) - (b.coilHyst n : Rat) < t) :
    b.coilChannel (n, sq) = b.setValve n (warmed t sq) := by
  rw [coilChannel_eq b hn ht, if_neg, if_neg fun hc => absurd hc.2 (not_le.mpr (hhot hc.1))]
  rintro ⟨htripped, hprot, hmax⟩
  exact (hcool htripped).elim (ne_true_of_eq_false · hprot) (not_le.mpr · hmax)

end

/-- Settles O44: the latches, the converter's measurements and target, the refusal, and the coil model's three outcomes. -/
theorem valveFaultsLatch : Obligations.ValveFaultsLatch := by
  refine ⟨fun dt n i s hs hphase hcheck hcode => ?overcurrent, fun dt n i s hs hphase hwin hdue hcode => ?openCoil,
    fun dt x n l d s hs howner hd => ?bootstrap, fun dt v l x s hs hx => ?measured,
    fun b x v hx => ⟨boostSense_over hx, boostSense_restores hx, boostSense_regulates hx⟩,
    fun b x hx => ⟨regulate_pumping_iff hx, rfl, fun hrun _ h => boostTarget_ramping hx hrun h, fun h => boostTarget_ramped (hx ▸ h)⟩,
    fun b e hbank h => refusal_of_faulted hbank h, fun dt l s hs => ?model, fun b n sq t hn ht => ?coil⟩
  case overcurrent => exact run_of_step hs (step := fun b => b.stepOvercurrent n i) (stepOvercurrent_latches hphase hcheck hcode)
  case openCoil => exact run_of_step hs (step := fun b => b.stepOpenCoil n i) (stepOpenCoil_latches hphase hwin hdue hcode)
  case bootstrap =>
    subst hd
    have hstep := stepBootstrapUv_occupied (b := s.m.elapse dt) l howner
    exact ⟨fun hdriven => run_of_step hs (step := fun b => b.stepBootstrapUv x l) (hstep.trans (if_pos hdriven)),
      fun hboost hon => run_of_step hs (step := fun b => b.stepBootstrapUv x l) (hstep.trans (if_neg (not_or.mpr ⟨hboost, hon⟩)))⟩
  case measured =>
    exact ⟨run_of_step hs (step := fun b => b.stepBoostUv v l) (stepBoostUv_eq hx l),
      run_of_step hs (step := fun b => b.stepBoostUvArm v) (stepBoostUvArm_eq hx),
      run_of_step hs (step := fun b => b.stepBoostOv v) hx.symm, run_of_step hs (step := fun b => b.stepBoostRestored v) hx.symm⟩
  case model => exact run_of_step hs (step := fun b => b.stepCoilModel l) List.foldl_map
  case coil => exact ⟨coilChannel_trips b hn ht, coilChannel_resumes b hn ht, coilChannel_stays b hn ht⟩

end Sys2Proof.Proofs
end

section
/-! PROOFS. The lamp channels: how a period starts, how the inrush is limited, paused and ended, and what latches a channel (R431,
R433, R435, R438, R440 to R444, R450, R452, R454). -/

namespace Sys2Proof.Proofs

open Sys2Proof.Machine Sys2Proof.Laws

/-! ## One channel changed, one bit stored -/

section
variable (b : Block) {k : Nat}

theorem lamp_setLamp_same (hk : k < 8) (f : LampChannel → LampChannel) : (b.setLamp k f).lamp k = f (b.lamp k) := by
  simp [Block.lamp, Vector.getD, updAt, hk]

theorem lamp_eventFrom (code source irq : Nat) (payload : List Byte) : (b.eventFrom code source irq payload).lamp k = b.lamp k := by
  rw [Block.lamp, block_eventFrom_lamps, Block.lamp]

/-- A bit that was set reads 1. -/
theorem bitAt_setBit_self {f : RegField} {i : Nat} (hf : fits f = true) (hi : i < f.width) : (b.setBit f i).bitAt f i = true := by
  rw [Block.bitAt, Block.setBit, get_set_self _ _ _ hf, bitOf_eq_testBit, Nat.testBit_mod_two_pow, decide_eq_true hi, Bool.true_and, orBit]
  split
  case isTrue hset => rwa [bitOf_eq_testBit] at hset
  case isFalse hclear =>
    rw [bitOf_eq_testBit, Bool.not_eq_true] at hclear
    rw [Nat.add_comm, Nat.testBit_two_pow_add_eq, hclear, Bool.not_false]

/-- A stored field leaves the bits of every other field as they were. -/
theorem bitAt_set_other {f g : RegField} (v i : Nat) (hf : fits f = true) (h : Apart f g) : (b.set f v).bitAt g i = b.bitAt g i := by
  rw [Block.bitAt, get_set_other _ _ _ _ hf h, Block.bitAt]

/-- A latch leaves its channel with the gate off, without a request and with its cause, and sets its bit of LD_FAULT. -/
theorem lampOff_latches (hk : k < 8) (cause : Nat) : ((b.lampOff k cause).lamp k).gate = false ∧ ((b.lampOff k cause).lamp k).req = 0 ∧
    ((b.lampOff k cause).lamp k).cause = cause ∧ ((b.lampOff k cause).lamp k).state = .fault ∧ (b.lampOff k cause).lampLatched k = true := by
  have hlamp : (b.lampOff k cause).lamp k = _ := lamp_setLamp_same b hk _
  rw [hlamp]
  exact ⟨rfl, rfl, rfl, rfl, bitAt_setBit_self _ (by decide) hk⟩

end

/-! ## The supply (R431, R444) -/

section
variable {b : Block} {v : Nat}

theorem lampSupply_low (h : v < b.get R.LD_SUPPLY.UV_PAUSE) :
    b.lampSupply v = { b.set R.LD_SUPPLY.VLMP v with lamps := { b.lamps with lowAt := b.now } } := by
  have hlow : v < (b.set R.LD_SUPPLY.VLMP v).get R.LD_SUPPLY.UV_PAUSE := by
    rwa [get_set_other _ _ _ _ (by decide) (by decide)]
  exact if_pos hlow

theorem lampSupply_high (h : b.get R.LD_SUPPLY.UV_PAUSE ≤ v) : b.lampSupply v = b.set R.LD_SUPPLY.VLMP v := by
  have hhigh : (b.set R.LD_SUPPLY.VLMP v).get R.LD_SUPPLY.UV_PAUSE ≤ v := by
    rwa [get_set_other _ _ _ _ (by decide) (by decide)]
  exact if_neg (Nat.not_lt.mpr hhigh)

end

/-! ## Periods (R433, R435, R438, R440, R441) -/

section
variable {b : Block} {k : Nat}

/-- A period is due only while the block runs, and not before the one in progress has run its time. -/
theorem periodDue_spent (h : b.periodDue k = true) :
    b.lamps.running = true ∧ ∀ t, (b.lamp k).periodAt = some t → b.pwmPeriod ≤ 2 * (b.now - t) + 1 := by
  obtain ⟨hstands, hover⟩ := Bool.and_eq_true_iff.mp h
  obtain ⟨hrun, -⟩ := Bool.and_eq_true_iff.mp hstands
  refine ⟨hrun, fun t ht => ?_⟩
  simpa only [Block.periodOver, ht, decide_eq_true_eq] using hover

/-- A period that starts takes its sample first: enough low ones in a row latch OPEN, and else the period runs. -/
theorem stepLampPeriod_due {x : Block} {inp : LampSample} (hdue : b.periodDue k = true) (hon : b.lampOn k = true)
    (hlatch : b.lampLatched k = false)
    (hx : x = (b.lampSupply inp.vlmp).setLamp k (fun c => c.sampled inp.vlmp inp.current
      (decide (b.lampCode k inp.current < b.lampCode k (b.lampParam k 18 2))))) :
    b.stepLampPeriod k inp =
      if b.lampParam k 20 1 ≠ 0 ∧ b.lampParam k 20 1 ≤ (x.lamp k).openCount then
        x.lampLatch k 0x0602 1 (leBytes 1 k ++ leBytes 2 ((x.lamp k).openSum / (x.lamp k).openCount))
      else x.lampPeriod k := by
  have hstarts : ¬ (b.periodDue k = false ∨ b.lampOn k = false ∨ b.lampLatched k = true) := by
    simp only [hdue, hon, hlatch, reduceCtorEq, or_self, not_false_eq_true]
  subst hx
  simp only [Block.stepLampPeriod, Bool.not_eq_true', if_neg hstarts]

theorem stepLampPeriod_rests {inp : LampSample} (h : b.periodDue k = false ∨ b.lampOn k = false ∨ b.lampLatched k = true) :
    b.stepLampPeriod k inp = b := by
  simp only [Block.stepLampPeriod, Bool.not_eq_true', if_pos h]

/-- With a request, a channel that is not latched is cold in OFF, and after COLD_MS with its applied duty 0. -/
theorem cold_iff {c : LampChannel} {now ms : Nat} (hreq : c.req ≠ 0) (hstate : c.state ≠ .fault) :
    c.cold now ms = true ↔ c.state = .off ∨ (ms ≠ 0 ∧ ∃ t, c.zeroSince = some t ∧ t + 100000 * ms ≤ now) := by
  rw [LampChannel.cold]
  cases c.zeroSince with
  | none => simp [hreq]
  | some t =>
    simp only [bne_iff_ne.mpr hreq, bne_iff_ne.mpr hstate, Bool.true_and, Bool.or_eq_true, Bool.and_eq_true, beq_iff_eq, bne_iff_ne,
      decide_eq_true_eq, Option.some.injEq, exists_eq_left']
    exact Iff.rfl

theorem elapsed_of_inrush {c : LampChannel} (h : c.state = .inrush) (now : Nat) : c.elapsed now = c.inrushTime + (now - c.inrushMark) :=
  if_pos h

theorem stepInrushEnd_due (hstate : (b.lamp k).state = .inrush) (hdue : b.periodDue k = true)
    (hramp : b.rampTime k ≤ (b.lamp k).inrushTime + (b.now - (b.lamp k).inrushMark)) :
    b.stepInrushEnd k = b.setLamp k (fun c => { c with state := .on, ceil := 4095, steady := 0 }) := by
  rw [← elapsed_of_inrush hstate] at hramp
  exact (if_pos hdue).trans (if_pos ⟨hstate, hramp⟩)

theorem stepInrushEnd_rests (h : (b.lamp k).state ≠ .inrush ∨ b.periodDue k = false) : b.stepInrushEnd k = b := by
  rcases h with hstate | hdue
  · have hramp : b.rampEnd k = b := if_neg fun hc => hstate hc.1
    rw [Block.stepInrushEnd, hramp, ite_self]
  · exact if_neg (ne_true_of_eq_false hdue)

end

/-! ## The current of a channel (R442, R450, R452) -/

section
variable {b : Block} {k i : Nat}

theorem stepLampShort_shorts (hgate : b.lampGate k = true) (hcode : b.lampCode k (b.lampParam k 16 2) ≤ b.lampCode k i) :
    b.stepLampShort k i = b.lampLatch k 0x0601 0 (leBytes 1 k ++ leBytes 2 (i / 100)) :=
  if_pos (Bool.and_eq_true_iff.mpr ⟨hgate, decide_eq_true hcode⟩)

/-- SHORT latches before the limit acts. -/
theorem stepInrushLimit_shorts (hgate : b.lampGate k = true) (hcode : b.lampCode k (b.lampParam k 16 2) ≤ b.lampCode k i) :
    b.stepInrushLimit k i = b.lampLatch k 0x0601 0 (leBytes 1 k ++ leBytes 2 (i / 100)) :=
  (if_pos (Bool.and_eq_true_iff.mpr ⟨hgate, decide_eq_true hcode⟩)).trans (stepLampShort_shorts hgate hcode)

/-- Below ISHORT the limit alone decides. -/
theorem stepInrushLimit_unshorted (hshort : b.lampCode k i < b.lampCode k (b.lampParam k 16 2)) : b.stepInrushLimit k i =
    if b.overLimit k i then b.setLamp k (fun c => { c with gate := false, limitCyc := min 65535 (c.limitCyc + 1) }) else b := by
  refine if_neg fun hc => Nat.not_le.mpr hshort ?_
  exact of_decide_eq_true (Bool.and_eq_true_iff.mp hc).2

theorem overLimit_iff : b.overLimit k i = true ↔ ((b.lamp k).state = .inrush ∨ (b.lamp k).state = .paused) ∧ b.lampGate k = true ∧
    (b.lamp k).unblanked b.now = true ∧ b.lampCode k (b.lampParam k 14 2) < b.lampCode k i := by
  simp only [Block.overLimit, Bool.and_eq_true, Bool.or_eq_true, beq_iff_eq, decide_eq_true_eq, and_assoc]

theorem stepInrushLimit_limits (hstate : (b.lamp k).state = .inrush ∨ (b.lamp k).state = .paused) (hgate : b.lampGate k = true)
    (hblank : (b.lamp k).unblanked b.now = true) (hlimit : b.lampCode k (b.lampParam k 14 2) < b.lampCode k i)
    (hshort : b.lampCode k i < b.lampCode k (b.lampParam k 16 2)) :
    b.stepInrushLimit k i = b.setLamp k (fun c => { c with gate := false, limitCyc := min 65535 (c.limitCyc + 1) }) :=
  (stepInrushLimit_unshorted hshort).trans (if_pos (overLimit_iff.mpr ⟨hstate, hgate, hblank, hlimit⟩))

theorem stepInrushLimit_rests (hshort : b.lampCode k i < b.lampCode k (b.lampParam k 16 2))
    (h : (b.lamp k).state = .on ∨ b.lampCode k i ≤ b.lampCode k (b.lampParam k 14 2)) : b.stepInrushLimit k i = b := by
  refine (stepInrushLimit_unshorted hshort).trans (if_neg fun hc => ?_)
  obtain ⟨hstate, -, -, hlimit⟩ := overLimit_iff.mp hc
  rcases h with hon | hwithin
  · rw [hon] at hstate
    exact hstate.elim nofun nofun
  · exact Nat.not_lt.mpr hwithin hlimit

theorem stepSoftShort_latches (hstate : (b.lamp k).state = .on) (hres : 16 ≤ (b.lamp k).lowRes) :
    b.stepSoftShort k = b.lampLatch k 0x0603 2 (leBytes 1 k ++ leBytes 2 (b.lamp k).resCode) :=
  if_pos ⟨hstate, hres⟩

end

/-! ## The sag (R443, R444) -/

section
variable {b : Block} {k v : Nat}

theorem stepInrushPause_sags {x : Block} (hrun : b.lamps.running = true) (hlow : v < b.get R.LD_SUPPLY.UV_PAUSE)
    (hx : x = { b.set R.LD_SUPPLY.VLMP v with lamps := { b.lamps with sag := true, lowAt := b.now } }) :
    b.stepInrushPause v = (List.range 8).foldl (Block.pauseLamp v) x := by
  rw [Block.stepInrushPause, if_pos ⟨hrun, hlow⟩, lampSupply_low hlow, hx]

theorem sagOver_iff : b.sagOver v = true ↔
    b.lamps.sag = true ∧ b.get R.LD_SUPPLY.UV_PAUSE ≤ v ∧ b.pwmPeriod ≤ 2 * (b.now - b.lamps.lowAt) := by
  simp only [Block.sagOver, Bool.and_eq_true, decide_eq_true_eq, and_assoc]

theorem stepInrushResume_over {x : Block} (hsag : b.lamps.sag = true) (hhigh : b.get R.LD_SUPPLY.UV_PAUSE ≤ v)
    (hfull : b.pwmPeriod ≤ 2 * (b.now - b.lamps.lowAt))
    (hx : x = { b.set R.LD_SUPPLY.VLMP v with lamps := { b.lamps with sag := false } }) :
    b.stepInrushResume v = (List.range 8).foldl Block.resumeLamp x := by
  rw [Block.stepInrushResume, if_pos (sagOver_iff.mpr ⟨hsag, hhigh, hfull⟩), lampSupply_high hhigh, hx]
  rfl

theorem stepInrushResume_rests (h : 2 * (b.now - b.lamps.lowAt) < b.pwmPeriod) : b.stepInrushResume v = b :=
  if_neg fun hc => Nat.not_le.mpr h (sagOver_iff.mp hc).2.2

/-- A channel in inrush pauses with its inrush time brought up to now. -/
theorem pauseLamp_inrush (hk : k < 8) (h : (b.lamp k).state = .inrush) : ((b.pauseLamp v k).lamp k).state = .paused ∧
    ((b.pauseLamp v k).lamp k).inrushTime = (b.lamp k).inrushTime + (b.now - (b.lamp k).inrushMark) := by
  simp only [Block.pauseLamp, if_pos h, lamp_eventFrom, lamp_setLamp_same _ hk, elapsed_of_inrush h, and_self]

theorem pauseLamp_rests (h : (b.lamp k).state ≠ .inrush) : b.pauseLamp v k = b := if_neg h

/-- A paused channel goes on in inrush from now. -/
theorem resumeLamp_paused (hk : k < 8) (h : (b.lamp k).state = .paused) :
    ((b.resumeLamp k).lamp k).state = .inrush ∧ ((b.resumeLamp k).lamp k).inrushMark = b.now := by
  simp only [Block.resumeLamp, if_pos h, lamp_eventFrom, lamp_setLamp_same _ hk, and_self]

theorem resumeLamp_rests (h : (b.lamp k).state ≠ .paused) : b.resumeLamp k = b := if_neg h

end

/-! ## The total current (R431, R452, R454) -/

section
variable {b : Block} {code : Nat} {total : Rat}
  (htotal : total = (120000000 * code : Nat) / (4096 * max 1 (b.get R.LD_TOTAL.RSHUNT_T) : Nat))
include htotal

/-- Above I_TRIP every enabled channel that is not latched yet latches; measuring the current enables and clears none. -/
theorem stepGroupOc_trips {x : Block} {ks : List Nat} (hrun : b.lamps.running = true) (htrip : b.get R.LD_BUDGET.I_TRIP ≠ 0)
    (hx : x = b.set R.LD_TOTAL.ITOTAL (tenthAmps total)) (hover : (10 * b.get R.LD_BUDGET.I_TRIP : Nat) < total)
    (hks : ks = (List.range 8).filter (fun k => b.lampOn k && !b.lampLatched k)) :
    b.stepGroupOc code = ks.foldl (fun b k => b.message (0x40 + k))
      (((ks.foldl (fun b k => b.lampOff k 3) x).setFlag R.LD_FAULT.GROUP_OC true).eventFrom 0x0604 (0x40 + ks.headD 0) 0
        (leBytes 2 (tenthAmps total) ++ leBytes 1 (ks.map (2 ^ ·)).sum)) := by
  have hmeasured : b.lampTotal code = x := by rw [hx, htotal]; rfl
  have henabled : ∀ k, x.lampOn k = b.lampOn k := fun k => by
    rw [hx]; exact bitAt_set_other _ _ _ (by decide) (by decide)
  have hlatched : ∀ k, x.lampLatched k = b.lampLatched k := fun k => by
    rw [hx]; exact bitAt_set_other _ _ _ (by decide) (by decide)
  have hlamps : x.lamps.running = true := by rw [hx]; exact hrun
  have hcurrent : b.totalCurrent code = total := htotal.symm
  have hall : x.lamps.running = true ∧ b.get R.LD_BUDGET.I_TRIP ≠ 0 ∧ (10 * b.get R.LD_BUDGET.I_TRIP : Nat) < total :=
    ⟨hlamps, htrip, hover⟩
  simp only [Block.stepGroupOc, hmeasured, hcurrent, henabled, hlatched, ← hks, if_pos hall]

/-- Up to I_TRIP, or with no I_TRIP, the current is measured and no more. -/
theorem stepGroupOc_within (h : b.get R.LD_BUDGET.I_TRIP = 0 ∨ total ≤ (10 * b.get R.LD_BUDGET.I_TRIP : Nat)) :
    b.stepGroupOc code = b.set R.LD_TOTAL.ITOTAL (tenthAmps total) := by
  subst htotal
  refine if_neg fun hc => ?_
  obtain ⟨-, htrip, hover⟩ := hc
  exact h.elim htrip (not_le.mpr hover)

end

/-- Settles O47: each command by the step it takes, and each latch by what it leaves of its channel. -/
theorem lampChannels : Obligations.LampChannels := by
  refine ⟨⟨fun dt k inp x s hs hdue hon hlatch hopen hx => ?period, fun dt k inp s hs h => ?periodRests, fun b k h => periodDue_spent h,
      fun b k c => ⟨rfl, rfl, rfl, rfl, rfl⟩, fun c now ms hreq hstate => cold_iff hreq hstate, fun dt k s hs hstate hdue hramp => ?ends,
      fun dt k s hs h => ?endRests, fun dt k i s hs hstate hgate hblank hlimit hshort => ?limit, fun dt k i s hs hshort h => ?limitRests,
      fun dt v x s hs hrun hlow hx => ?sags, fun dt v x s hs hsag hhigh hfull hx => ?resumes, fun dt v s hs h => ?resumeRests,
      fun b v k hk => ⟨pauseLamp_inrush hk, pauseLamp_rests, resumeLamp_paused hk, resumeLamp_rests⟩⟩,
    fun b k cause hk => lampOff_latches b hk cause, fun dt k i s hs hgate hcode => ?short, fun dt k s hs hstate hres => ?softShort,
    fun dt k n inp x s hs hdue hon hlatch hn hpos hcount hx => ?openLamp, fun dt code total ks x s hs hrun htrip htotal hx hover hks => ?group,
    fun dt code total s hs htotal h => ?groupRests⟩
  case period =>
    have hfew : ¬ (s.m.lampParam k 20 1 ≠ 0 ∧ s.m.lampParam k 20 1 ≤ (x.lamp k).openCount) :=
      fun hc => hopen.elim hc.1 (Nat.not_lt.mpr hc.2)
    exact run_of_step hs (step := fun b => b.stepLampPeriod k inp) ((stepLampPeriod_due hdue hon hlatch hx).trans (if_neg hfew))
  case periodRests => exact run_of_step hs (step := fun b => b.stepLampPeriod k inp) (stepLampPeriod_rests h)
  case ends => exact run_of_step hs (step := fun b => b.stepInrushEnd k) (stepInrushEnd_due hstate hdue hramp)
  case endRests => exact run_of_step hs (step := fun b => b.stepInrushEnd k) (stepInrushEnd_rests h)
  case limit =>
    exact run_of_step hs (step := fun b => b.stepInrushLimit k i) (stepInrushLimit_limits hstate hgate hblank hlimit hshort)
  case limitRests => exact run_of_step hs (step := fun b => b.stepInrushLimit k i) (stepInrushLimit_rests hshort h)
  case sags => exact run_of_step hs (step := fun b => b.stepInrushPause v) (stepInrushPause_sags hrun hlow hx)
  case resumes => exact run_of_step hs (step := fun b => b.stepInrushResume v) (stepInrushResume_over hsag hhigh hfull hx)
  case resumeRests => exact run_of_step hs (step := fun b => b.stepInrushResume v) (stepInrushResume_rests h)
  case short =>
    simp only [List.forall_mem_cons, List.not_mem_nil, false_imp_iff, implies_true, and_true]
    exact ⟨run_of_step hs (step := fun b => b.stepLampShort k i) (stepLampShort_shorts hgate hcode),
      run_of_step hs (step := fun b => b.stepInrushLimit k i) (stepInrushLimit_shorts hgate hcode)⟩
  case softShort => exact run_of_step hs (step := fun b => b.stepSoftShort k) (stepSoftShort_latches hstate hres)
  case openLamp =>
    subst hn
    exact run_of_step hs (step := fun b => b.stepLampPeriod k inp)
      ((stepLampPeriod_due hdue hon hlatch hx).trans (if_pos ⟨hpos, hcount⟩))
  case group =>
    exact run_of_step hs (step := fun b => b.stepGroupOc code) (stepGroupOc_trips (b := s.m.elapse dt) htotal hrun htrip hx hover hks)
  case groupRests => exact run_of_step hs (step := fun b => b.stepGroupOc code) (stepGroupOc_within (b := s.m.elapse dt) htotal h)

end Sys2Proof.Proofs
end

section
/-! PROOFS. The stacks of the interrupt targets rise strictly and hold at most 15 entries, at every step (R573 to R575, R587). -/

namespace Sys2Proof.Proofs

open Sys2Proof.Machine Sys2Proof.Laws

/-! ## One target (R573 to R575) -/

/-- A stack that rises strictly to a running priority is no longer than that priority. -/
theorem length_le_of_risingBelow {run : Nat} {l : List Nat} (h : risingBelow run l) : l.length ≤ run := by
  induction l generalizing run with
  | nil => exact Nat.zero_le run
  | cons p ps ih =>
    obtain ⟨hlt, hps⟩ := h
    have := ih hps
    simp only [List.length_cons]
    omega

section
variable {n : Nest}

theorem nest_length_le (h : n.ordered) : n.stack.length ≤ 15 := (length_le_of_risingBelow h.2).trans h.1

theorem nest_empty_ordered : Nest.ordered {} := ⟨Nat.zero_le 15, rfl⟩

/-- A priority above the running one may be pushed over it. -/
theorem nest_push_ordered (h : n.ordered) {prio : Nat} (hlt : n.running < prio) (hle : prio < 16) :
    Nest.ordered { running := prio, stack := n.running :: n.stack } := ⟨Nat.le_of_lt_succ hle, hlt, h.2⟩

/-- The top of a stack may be popped into the running priority. -/
theorem nest_pop_ordered (h : n.ordered) {top : Nat} {rest : List Nat} (hstack : n.stack = top :: rest) :
    Nest.ordered { running := top, stack := rest } := by
  obtain ⟨hrun, hrising⟩ := h
  rw [hstack] at hrising
  obtain ⟨hlt, hrest⟩ := hrising
  exact ⟨by show top ≤ 15; omega, hrest⟩

theorem acknowledge_ordered (b : Block) (src : Nat) {prio : Nat} (h : n.ordered) (hle : prio < 16) :
    (b.acknowledge n src prio).1.ordered := by
  unfold Block.acknowledge
  simp only []
  split_ifs with hc
  · exact nest_push_ordered h (of_decide_eq_true (Bool.and_eq_true_iff.mp hc).2) hle
  · exact h

theorem endInterrupt_ordered (b : Block) (h : n.ordered) : (b.endInterrupt n).1.ordered := by
  unfold Block.endInterrupt
  split
  · next hstack => exact nest_pop_ordered h hstack
  · exact h

end

/-! ## The three targets -/

section
variable {n : Nests} (h : n.ordered)
include h

theorem nests_port_ordered (p : Port) : (n.port p).ordered := by
  obtain ⟨ha, hb, -⟩ := h
  cases p with
  | a => exact ha
  | b => exact hb

theorem nests_setPort_ordered (p : Port) {x : Nest} (hx : x.ordered) : (n.setPort p x).ordered := by
  obtain ⟨ha, hb, hseq⟩ := h
  cases p with
  | a => exact ⟨hx, hb, hseq⟩
  | b => exact ⟨ha, hx, hseq⟩

theorem nests_seqCleared_ordered : Nests.ordered { n with seq := {} } := ⟨h.1, h.2.1, nest_empty_ordered⟩

theorem nests_after_ordered (m : PowerMode) : (n.after m).ordered := by
  unfold Nests.after
  split
  · exact ⟨nest_empty_ordered, nest_empty_ordered, nest_empty_ordered⟩
  · exact h

theorem ackPort_ordered (p : Port) (src : Nat) {prio : Nat} (b : Block) (hle : prio < 16) : (ackPort p src prio n b).1.ordered :=
  nests_setPort_ordered h p (acknowledge_ordered b src (nests_port_ordered h p) hle)

theorem eoiPort_ordered (p : Port) (b : Block) : (eoiPort p n b).1.ordered :=
  nests_setPort_ordered h p (endInterrupt_ordered b (nests_port_ordered h p))

/-! ## Accesses of a host: an acknowledge carries a priority of 4 bits, and the other accesses push nothing -/

theorem clearRead_ordered (p : Port) (idx : Nat) (w shifted : Word) (b : Block) : (clearRead p idx w shifted n b).1.ordered := by
  unfold clearRead
  simp only []
  split
  · exact h
  · split
    · exact h
    · exact h
    · exact h
    · split
      · exact ackPort_ordered h .a _ b (get_lt R.IC_ACK_A.PRIO w)
      · exact h
    · split
      · exact ackPort_ordered h .b _ b (get_lt R.IC_ACK_B.PRIO w)
      · exact h
    · exact h

omit h in
/-- Of the register writes only the two ends of interrupt change a stack (R574). -/
theorem writeRegister_nests (p : Port) (x : WriteRun) (i idx : Nat) (w : Word) (b : Block) : (writeRegister p x i idx w n b).2.1 =
    if idx = 0xC5 then (eoiPort .a n b).1 else if idx = 0xC7 then (eoiPort .b n b).1 else n := by
  unfold writeRegister
  by_cases hC5 : idx = 0xC5
  · simp [hC5]
  · by_cases hC7 : idx = 0xC7
    · simp [hC7]
    · simp only [hC5, hC7, if_false]
      split_ifs <;> rfl

theorem writeItem_ordered (p : Port) (op index : Nat) (x : WriteRun) (b : Block) (iw : Nat × Word) :
    (writeItem p op index (x, n, b) iw).2.1.ordered := by
  unfold writeItem
  split
  · rw [writeRegister_nests]
    split
    · exact eoiPort_ordered h .a b
    · split
      · exact eoiPort_ordered h .b b
      · exact h
  · exact h

theorem readItem_clear_ordered (p : Port) (x : ReadItem) (shifted : Word) (b : Block) : (ReadItem.clear p x shifted (n, b)).1.ordered := by
  unfold ReadItem.clear
  split
  · exact clearRead_ordered h p _ x.word shifted b
  · split <;> exact h
  · exact h

/-! ## Frames of a host (R471, R474) -/

theorem endRead_ordered (p : Port) (f : FrameInProgress) (bits : Nat) (b : Block) : (endRead p f bits n b).1.ordered := by
  unfold endRead
  simp only []
  split
  · exact h
  · exact List.foldlRecOn _ _ (motive := fun acc : Nests × Block => acc.1.ordered) h
      (fun acc hacc x _ => readItem_clear_ordered hacc p x.1 _ acc.2)

theorem endWrite_ordered (p : Port) (f : FrameInProgress) (bits : Nat) (b : Block) : (endWrite p f bits n b).1.ordered := by
  unfold endWrite
  split
  · exact h
  · exact List.foldlRecOn _ _ (motive := fun acc : WriteRun × Nests × Block => acc.2.1.ordered) h
      (fun acc hacc iw _ => writeItem_ordered hacc p f.op f.index acc.1 acc.2.2 iw)

theorem frameRise_ordered (p : Port) (last : Nat) (b : Block) : (frameRise p last n b).1.ordered := by
  unfold frameRise
  simp only []
  split
  · exact h
  · split
    · exact h
    · split
      · exact h
      · split
        · exact h
        · split
          · exact endRead_ordered h p _ _ _
          · exact endWrite_ordered h p _ _ _

theorem hostFrame_ordered (f : FrameInput) (b : Block) : (hostFrame f n b).1.ordered := by
  unfold hostFrame
  split
  · exact h
  · split
    · exact h
    · exact h
    · exact frameRise_ordered h f.port _ b

theorem singleWrite_ordered (p : Port) (idx : Nat) (w : Word) (b : Block) : (singleWrite p idx w n b).1.ordered := by
  unfold singleWrite
  split
  · exact h
  · exact writeItem_ordered h p 1 idx {} b.settleWire (0, w)

end

/-! ## Every command (R575, R587) -/

/-- The three targets are in order in the next state, where there is one. -/
def LeavesOrdered (o : Host.Outcome State Fault Refusal) : Prop := ∀ t, o = .next t → t.nests.ordered

theorem runReset_ordered (s : State) (dt : Nat) (f : Block → Block) : LeavesOrdered (s.runReset dt f) := by
  intro t ht
  cases ht
  exact ⟨nest_empty_ordered, nest_empty_ordered, nest_empty_ordered⟩

theorem runNests_ordered {s : State} (dt : Nat) (f : Nests → Block → Nests × Block) (hf : (f s.nests (s.m.elapse dt)).1.ordered) :
    LeavesOrdered (s.runNests dt f) := by
  intro t ht
  obtain ⟨-, -, -, hnests⟩ := runNests_next f ht
  exact hnests ▸ nests_after_ordered hf _

section
variable {s : State} (h : s.nests.ordered)
include h

theorem run_ordered (dt : Nat) (f : Block → Block) : LeavesOrdered (s.run dt f) := by
  intro t ht
  obtain ⟨-, -, -, hnests⟩ := run_next f ht
  exact hnests ▸ nests_after_ordered h _

/-- A command that acts on the stacks only while the ports answer. -/
theorem runNests_answered_ordered (dt : Nat) (f : Nests → Block → Nests × Block) (hf : (f s.nests (s.m.elapse dt)).1.ordered) :
    LeavesOrdered (s.runNests dt (fun n b => if b.portsAnswer then f n b else (n, b))) := by
  refine runNests_ordered dt _ ?_
  split
  · exact hf
  · exact h

/-- Every command keeps the three targets in order, an acknowledge with a priority of 0 to 15. -/
theorem exec_ordered (c : Instr) (hc : c.wf = true) : LeavesOrdered (exec c s) := by
  cases c with
  | powerOnReset | pinReset => unfold exec; exact runReset_ordered s _ _
  | systemReset dt =>
    show LeavesOrdered (execSystemReset dt s)
    unfold execSystemReset
    split
    · exact runReset_ordered s dt _
    · exact run_ordered h dt _
  | railUv dt rail =>
    show LeavesOrdered (execRailUv dt rail s)
    unfold execRailUv
    split
    · exact runReset_ordered s dt _
    · exact run_ordered h dt _
  | nvWindowWrite dt port items =>
    show LeavesOrdered (execNvWindowWrite dt port items s)
    unfold execNvWindowWrite
    split
    · exact run_ordered h dt _
    · exact run_ordered h dt _
  | stagedWrite dt port entry =>
    show LeavesOrdered (execStagedWrite dt port entry s)
    unfold execStagedWrite
    split
    · exact run_ordered h dt _
    · exact run_ordered h dt _
  | hostFrame dt frame => exact runNests_ordered dt _ (hostFrame_ordered h frame _)
  | registerWrite dt port idx value => exact runNests_ordered dt _ (singleWrite_ordered h port idx value _)
  | readClear dt port idx value => exact runNests_answered_ordered h dt _ (clearRead_ordered h port idx value _ _)
  | icAck dt target source prio =>
    have hle : prio < 16 := of_decide_eq_true (Bool.and_eq_true_iff.mp hc).2
    exact runNests_answered_ordered h dt _ (ackPort_ordered h target source _ hle)
  | icEoi dt target => exact runNests_answered_ordered h dt _ (eoiPort_ordered h target _)
  | seqRestart dt =>
    refine runNests_ordered dt (fun n b => (if b.seqWorks && b.seq.routine.isSome then { n with seq := {} } else n, b.stepRestart)) ?_
    simp only []
    split
    · exact nests_seqCleared_ordered h
    · exact h
  | _ => unfold exec; exact run_ordered h _ _

end

/-- Settles O4: an acknowledge pushes below a greater priority, an end of interrupt pops, and no other command touches a stack but
to empty it. -/
theorem interruptStacksNeverOverflow : Obligations.InterruptStacksNeverOverflow := by
  intro s t hs hwf ht
  obtain ⟨hordered, hpending⟩ : t.nests.ordered ∧ t.pending.all Instr.wf = true := by
    cases hp : s.pending with
    | nil => rw [step_nil hp] at ht; cases ht; exact ⟨hs, hwf⟩
    | cons c rest =>
      rw [step_cons c rest hp] at ht
      rw [hp, List.all_cons, Bool.and_eq_true] at hwf
      obtain ⟨hc, hrest⟩ := hwf
      have hqueue := shaped_next_pending (exec_shaped c { s with pending := rest }) ht
      exact ⟨exec_ordered (s := { s with pending := rest }) hs c hc t ht, hqueue ▸ hrest⟩
  obtain ⟨ha, hb, hseq⟩ := hordered
  exact ⟨⟨ha, hb, hseq⟩, hpending, nest_length_le ha, nest_length_le hb, nest_length_le hseq⟩

end Sys2Proof.Proofs
end

section
/-! PROOFS. The highest eligible source of a target, and the ends of interrupts (R569, R574). -/

namespace Sys2Proof.Proofs

open Sys2Proof.Machine Sys2Proof.Laws

/-! ## The highest eligible source (R569) -/

/-- A source may interrupt a target that runs at a priority. -/
def Eligible (target run : Nat) (x : IrqSource) : Prop := x.pending = true ∧ x.dest = target ∧ run < x.prio

/-- What R569 asks of the source chosen among the sources of a list: it is eligible, none has a greater priority, and of equal ones
it has the lowest number. -/
def HighestOf (l : List IrqSource) (target run : Nat) : Option (Nat × Nat) → Prop
  | none => ∀ (k : Nat) (y : IrqSource), l[k]? = some y → ¬ Eligible target run y
  | some (n, p) => (∃ x, l[n]? = some x ∧ Eligible target run x ∧ x.prio = p) ∧
      ∀ (k : Nat) (y : IrqSource), l[k]? = some y → Eligible target run y → y.prio < p ∨ (y.prio = p ∧ n ≤ k)

/-- The choice among the sources of a list, as the interrupt controller makes it. -/
def chooseSource (target run : Nat) (l : List IrqSource) : Option (Nat × Nat) :=
  l.zipIdx.foldl (fun best p =>
    if p.1.pending && p.1.dest == target && decide (run < p.1.prio) then betterSource best p.2 p.1.prio else best) none

theorem highest_eq_chooseSource (b : Block) (target run : Nat) : b.highest target run = chooseSource target run b.irq.toList := rfl

section
variable {target run : Nat} {l : List IrqSource} {x : IrqSource} {best : Option (Nat × Nat)}

theorem eligible_iff : (x.pending && x.dest == target && decide (run < x.prio)) = true ↔ Eligible target run x := by
  simp [Eligible, and_assoc]

/-- One source more, of the next number. -/
theorem chooseSource_append : chooseSource target run (l ++ [x]) =
    if x.pending && x.dest == target && decide (run < x.prio) then betterSource (chooseSource target run l) l.length x.prio
    else chooseSource target run l := by
  simp [chooseSource, List.zipIdx_append]

theorem getElem?_append_one {k : Nat} {y : IrqSource} : (l ++ [x])[k]? = some y ↔ l[k]? = some y ∨ (k = l.length ∧ y = x) := by
  rcases lt_trichotomy k l.length with hk | rfl | hk
  · simp [List.getElem?_append_left hk, hk.ne]
  · simp [eq_comm]
  · simp [hk.ne', Nat.not_lt.mpr hk.le, List.getElem?_eq_none (l := l ++ [x]) (i := k) (by simp; omega)]

/-- A source that is not eligible changes no choice. -/
theorem highestOf_append_not (h : HighestOf l target run best) (hx : ¬ Eligible target run x) : HighestOf (l ++ [x]) target run best := by
  cases best with
  | none =>
    intro k y hy
    rcases getElem?_append_one.mp hy with hy | ⟨-, rfl⟩
    · exact h k y hy
    · exact hx
  | some np =>
    obtain ⟨⟨z, hz, helig, hprio⟩, hmax⟩ := h
    refine ⟨⟨z, getElem?_append_one.mpr (.inl hz), helig, hprio⟩, fun k y hy hye => ?_⟩
    rcases getElem?_append_one.mp hy with hy | ⟨-, rfl⟩
    · exact hmax k y hy hye
    · exact absurd hye hx

/-- An eligible source is chosen where its priority is greater than that of the choice before it. -/
theorem highestOf_append (h : HighestOf l target run best) (hx : Eligible target run x) :
    HighestOf (l ++ [x]) target run (betterSource best l.length x.prio) := by
  have hlast : (l ++ [x])[l.length]? = some x := getElem?_append_one.mpr (.inr ⟨rfl, rfl⟩)
  cases best with
  | none =>
    refine ⟨⟨x, hlast, hx, rfl⟩, fun k y hy hye => ?_⟩
    rcases getElem?_append_one.mp hy with hy | ⟨rfl, rfl⟩
    · exact absurd hye (h k y hy)
    · exact .inr ⟨rfl, le_rfl⟩
  | some np =>
    obtain ⟨n, p⟩ := np
    obtain ⟨⟨z, hz, helig, hprio⟩, hmax⟩ := h
    have hn : n < l.length := (List.getElem?_eq_some_iff.mp hz).1
    unfold betterSource
    simp only []
    split
    · next hgreater =>
      refine ⟨⟨x, hlast, hx, rfl⟩, fun k y hy hye => ?_⟩
      rcases getElem?_append_one.mp hy with hy | ⟨rfl, rfl⟩
      · have := hmax k y hy hye
        omega
      · exact .inr ⟨rfl, le_rfl⟩
    · next hless =>
      refine ⟨⟨z, getElem?_append_one.mpr (.inl hz), helig, hprio⟩, fun k y hy hye => ?_⟩
      rcases getElem?_append_one.mp hy with hy | ⟨rfl, rfl⟩
      · exact hmax k y hy hye
      · omega

end

theorem chooseSource_highestOf (target run : Nat) (l : List IrqSource) : HighestOf l target run (chooseSource target run l) := by
  induction l using List.reverseRecOn with
  | nil => exact fun k y hy => by simp at hy
  | append_singleton l x ih =>
    rw [chooseSource_append]
    split
    · next helig => exact highestOf_append ih (eligible_iff.mp helig)
    · next hnot => exact highestOf_append_not ih (fun he => hnot (eligible_iff.mpr he))

/-- The sources of a block by their numbers. -/
theorem highest_highestOf (b : Block) (target run : Nat) : HighestOf b.irq.toList target run (b.highest target run) :=
  highest_eq_chooseSource b target run ▸ chooseSource_highestOf target run b.irq.toList

/-- Settles O26: the choice is the highest eligible source of the list of all sources. -/
theorem highestSourceWins : Obligations.HighestSourceWins := by
  refine ⟨fun n hn hempty => ?rest, fun b target run => ⟨fun n p hhigh => ?wins, fun hnone k y hy hpend hdest => ?none⟩⟩
  case rest =>
    have hrising := hn.2
    rwa [hempty] at hrising
  case wins =>
    have h := highest_highestOf b target run
    rw [hhigh] at h
    obtain ⟨⟨x, hx, ⟨hpend, hdest, hrun⟩, hprio⟩, hmax⟩ := h
    exact ⟨⟨x, by simpa using hx, hpend, hdest, hprio, hprio ▸ hrun⟩,
      fun k y hy hp hd hr => hmax k y (by simpa using hy) ⟨hp, hd, hr⟩⟩
  case none =>
    have h := highest_highestOf b target run
    rw [hnone] at h
    by_contra hgreater
    exact h k y (by simpa using hy) ⟨hpend, hdest, by omega⟩

/-! ## Ends of interrupts (R574) -/

section
variable (p : Port) {n : Nests} (b : Block)

/-- An end of interrupt pops the stack of its port (R574). -/
theorem eoiPort_pops {top : Nat} {rest : List Nat} (h : (n.port p).stack = top :: rest) :
    eoiPort p n b = (n.setPort p { running := top, stack := rest }, b) := by
  simp only [eoiPort, Block.endInterrupt, h]

/-- With nothing in service it is counted (R574). -/
theorem eoiPort_empty (h : (n.port p).stack = []) : eoiPort p n b = (n, b.inc R.IC_STAT.EOI_EMPTY) := by
  simp only [eoiPort, Block.endInterrupt, h, nests_setPort_port]

end

/-- IC_EOI at a port that answers. -/
theorem icEoi_result {s : State} (hs : s.defined) (dt : Nat) (p : Port) (hp : s.m.portsAnswer = true) : exec (.icEoi dt p) s =
    .next ({ s with nests := (eoiPort p s.nests (s.m.elapse dt)).1 }.result (eoiPort p s.nests (s.m.elapse dt)).2) := by
  show execIcEoi dt p s = _
  rw [execIcEoi, runNests_result _ hs, portsAnswer_elapse, if_pos hp]

/-- Settles O25: the stack of the port is popped, or the end of interrupt is counted. -/
theorem endOfInterruptPops : Obligations.EndOfInterruptPops := by
  intro dt p s hs hp
  rw [icEoi_result hs dt p hp]
  refine ⟨fun top rest hstack => ?_, fun hempty => ?_⟩
  · rw [eoiPort_pops p _ hstack]
  · rw [eoiPort_empty p _ hempty]
    rfl

end Sys2Proof.Proofs
end

section
/-! PROOFS. Transactions: begin, pend, stage and roll back (chapter 15). -/

namespace Sys2Proof.Proofs

open Sys2Proof.Machine Sys2Proof.Laws

/-- A command of a port that answers, from what its step does to the elapsed block. -/
theorem runPort_of_step {s : State} {dt : Nat} {p : Port} (hs : s.defined) (hp : s.m.portsAnswer = true)
    {f : Block → HostResult × Block} {r : HostResult} {m : Block} (h : f (s.m.elapse dt) = (r, m)) :
    s.runPort dt p f = .next (s.portResult p r m) := by
  rw [runPort_result p f hs hp, h]

/-! ## Begin and commit (R490, R493, R495, R496) -/

section
variable {b : Block}

theorem mayCommit_iff {mid : Nat} : b.mayCommit mid = true ↔ b.txn.owner = some mid ∧ b.txn.pending = none ∧ b.txn.doomed = false := by
  simp [Block.mayCommit, and_assoc]

/-- A commit for the current tick or an earlier one is late (R496). -/
theorem pendAt_late {t : Nat} (ht : t < 2 ^ 32) (h : (b.tickNow + 2 ^ 32 - t) % 2 ^ 32 < 2 ^ 31) : b.pendAt t =
    ((b.setTxn (fun x => { x with pending := some .next })).setFlag R.CFG_STATUS.LATE true).event 0x0904
      (leBytes 4 t ++ leBytes 4 b.tickNext) := by
  rw [Block.pendAt, Nat.mod_eq_of_lt ht, if_pos h]

theorem pendAt_later {t : Nat} (ht : t < 2 ^ 32) (h : 2 ^ 31 ≤ (b.tickNow + 2 ^ 32 - t) % 2 ^ 32) :
    b.pendAt t = b.setTxn (fun x => { x with pending := some (.at t) }) := by
  rw [Block.pendAt, Nat.mod_eq_of_lt ht, if_neg (Nat.not_lt.mpr h)]

end

/-- A commit command of a port acts where the port's MID may commit (R493, R495). -/
theorem runPort_mayCommit {s : State} (hs : s.defined) (dt : Nat) {p : Port} (hp : s.m.portsAnswer = true) (pend : Block → Block) :
    s.runPort dt p (fun b => if b.mayCommit p.mid then (.ok, pend b) else (.txnRefused, b)) = .next
      (if s.m.txn.owner = some p.mid ∧ s.m.txn.pending = none ∧ s.m.txn.doomed = false then s.portResult p .ok (pend (s.m.elapse dt))
       else s.portResult p .txnRefused (s.m.elapse dt)) := by
  have hiff := mayCommit_iff (b := s.m.elapse dt) (mid := p.mid)
  split
  · next h => exact runPort_of_step hs hp (if_pos (hiff.mpr h))
  · next h => exact runPort_of_step hs hp (if_neg (fun hmay => h (hiff.mp hmay)))

/-- Settles O30: the transaction of the elapsed block is that of the state, and each command asks it whether it may act. -/
theorem transactionsBeginAndPend : Obligations.TransactionsBeginAndPend := by
  refine ⟨⟨fun dt p s hs hp => ?begin, fun dt p s hs hp => ?next, fun dt p s hs hp => ?tick⟩,
    fun b t ht => ⟨pendAt_late ht, pendAt_later ht⟩⟩
  case begin =>
    show execBeginTxn dt p s = _
    split
    · next h => exact runPort_of_step hs hp (if_pos h)
    · next h => exact runPort_of_step hs hp (if_neg h)
  case next => exact runPort_mayCommit hs dt hp (fun b => b.setTxn (fun x => { x with pending := some .next }))
  case tick => exact runPort_mayCommit hs dt hp (fun b => b.pendAt (b.get R.CFG_COMMIT_TICK.TICK))

/-! ## Rolling back (R493, R494, R498, R499) -/

section
variable {b : Block} {o mid : Nat} {force : Bool}

theorem stepRollback_owner (h : b.txn.owner = some mid) : b.stepRollback mid force = (.ok, b.rollbackTxn (bit force)) := by
  simp [Block.stepRollback, h]

theorem stepRollback_forced (h : b.txn.owner = some o) (hne : o ≠ mid) (hhost : o < 2) :
    b.stepRollback mid true = (.ok, b.rollbackTxn 1) := by
  simp [Block.stepRollback, h, hne, hhost]

theorem stepRollback_refused (h : b.txn.owner = some o) (hne : o ≠ mid) (hno : 2 ≤ o ∨ force = false) :
    b.stepRollback mid force = (.txnRefused, b) := by
  have : ¬ (force = true ∧ o < 2) := by
    rintro ⟨rfl, hlt⟩
    simp at hno
    omega
  simp only [Block.stepRollback, h, if_neg hne, if_neg this]

theorem stepRollback_none (h : b.txn.owner = none) : b.stepRollback mid force = (.txnRefused, b) := by
  simp [Block.stepRollback, h]

/-- The transaction of a host that no commit awaits is rolled back when its time is over (R498). -/
theorem stepTxnTimeout_host (h : b.txn.owner = some o) (ho : o < 2) (ht : b.txn.timeout ≠ 0) (hp : b.txn.pending = none) :
    b.stepTxnTimeout = if b.txn.beganAt + 100000 * b.txn.timeout ≤ b.now then b.rollbackTxn 2 else b := by
  simp [Block.stepTxnTimeout, h, ho, ht, hp, msec]

end

/-- Settles O31: the cases of the owner, and what `rollbackTxn` does to a host's transaction. -/
theorem transactionsRollBack : Obligations.TransactionsRollBack := by
  refine ⟨fun dt p force s hs hp => ⟨fun h => ?owner, fun o h hne ho hf => ?forced, fun o h hne hno => ?refused, fun h => ?none⟩,
    fun dt o s hs h ho ht hpend => ?timeout, fun b o cause h ho _ => ?rollback⟩
  case owner =>
    show execRollback dt p force s = _
    exact runPort_of_step hs hp (stepRollback_owner (b := s.m.elapse dt) h)
  case forced =>
    show execRollback dt p force s = _
    subst hf
    exact runPort_of_step hs hp (stepRollback_forced (b := s.m.elapse dt) h hne ho)
  case refused =>
    show execRollback dt p force s = _
    exact runPort_of_step hs hp (stepRollback_refused (b := s.m.elapse dt) h hne hno)
  case none =>
    show execRollback dt p force s = _
    exact runPort_of_step hs hp (stepRollback_none (b := s.m.elapse dt) h)
  case timeout => exact run_of_step hs (step := Block.stepTxnTimeout) (stepTxnTimeout_host (b := s.m.elapse dt) h ho ht hpend)
  case rollback =>
    rw [rollbackTxn_some b cause h, if_neg (by omega)]
    rfl

/-! ## Staged writes (R491, R492, R503, R504) -/

section
variable {b : Block} {o mid : Nat} {e : JournalEntry}

/-- The first item of a frame joins no entry before it. -/
theorem addEntry_none (l : List JournalEntry) (e : JournalEntry) : addEntry none l e = l ++ [e] := by
  unfold addEntry
  split
  · rw [if_neg (by simp)]
  · rfl

theorem stage_refused (h : b.txn.owner = some o) (hno : o ≠ mid ∨ b.txn.pending.isSome = true ∨ b.txn.doomed = true) :
    b.stage mid {} e = (.txnRefused, { next := none }, b) := by
  simp only [Block.stage, h, if_pos hno]

theorem stage_owner (h : b.txn.owner = some mid) (hp : b.txn.pending = none) (hd : b.txn.doomed = false) :
    b.stage mid {} e = if 65536 < journalSize (b.txn.journal ++ [e]) then (.ok, { next := none }, b.doom mid)
      else (.ok, { next := nextRun e }, b.setTxn (fun x => { x with journal := b.txn.journal ++ [e] })) := by
  simp [Block.stage, h, hp, hd, addEntry_none]

theorem journalSize_singleton (e : JournalEntry) : journalSize [e] = e.size := by simp [journalSize]

/-- An item outside a transaction forms a group of its own (R504). -/
theorem stage_outside (h : b.txn.owner = none) (hg : b.geometryHit e = false) :
    b.stage mid {} e = if 4096 < journalSize b.txn.implicit.flatten + e.size then (.txnRefused, { next := none }, b)
      else (.ok, { group := true, next := nextRun e }, b.setTxn (fun x => { x with implicit := b.txn.implicit ++ [[e]] })) := by
  have hg' : (b.setTxn (fun x => { x with implicit := b.txn.implicit ++ [[e]] })).geometryHit e = false := hg
  simp [Block.stage, h, Block.stageImplicit, addEntry_none, journalSize_singleton, hg']

end

/-- The staged write of an item that has an entry. -/
theorem stagedWrite_of_stage {dt : Nat} {p : Port} {i : StagedItem} {e : JournalEntry} {s : State} (hs : s.defined)
    (hp : s.m.portsAnswer = true) (he : stagedEntry i = some e) {r : HostResult} {run : FrameRun} {m : Block}
    (h : (s.m.elapse dt).stage p.mid {} e = (r, run, m)) : exec (.stagedWrite dt p i) s = .next (s.portResult p r m) := by
  show execStagedWrite dt p i s = _
  rw [execStagedWrite, he]
  exact runPort_of_step hs hp (by simp only [h])

/-- Settles O32: the first item of a frame is staged in the transaction, or as a group of its own. -/
theorem stagedWrites : Obligations.StagedWrites := by
  refine ⟨fun dt o p i e s hs hp he ho => ⟨fun hno => ?refused, fun hmid hpend hd hfit => ?joins, fun hmid hpend hd hover => ?dooms⟩,
    fun dt p i e s hs hp he ho hg => ⟨fun hfit => ?group, fun hover => ?full⟩⟩
  case refused => exact stagedWrite_of_stage hs hp he (stage_refused (b := s.m.elapse dt) ho hno)
  case joins =>
    subst hmid
    exact stagedWrite_of_stage hs hp he ((stage_owner (b := s.m.elapse dt) ho hpend hd).trans (if_neg (Nat.not_lt.mpr hfit)))
  case dooms =>
    subst hmid
    exact stagedWrite_of_stage hs hp he ((stage_owner (b := s.m.elapse dt) ho hpend hd).trans (if_pos hover))
  case group =>
    exact stagedWrite_of_stage hs hp he ((stage_outside (b := s.m.elapse dt) ho hg).trans (if_neg (Nat.not_lt.mpr hfit)))
  case full => exact stagedWrite_of_stage hs hp he ((stage_outside (b := s.m.elapse dt) ho hg).trans (if_pos hover))

end Sys2Proof.Proofs
end

section
/-! PROOFS. The rings of a block, what they take and what they lose (R525 to R537). -/

namespace Sys2Proof.Proofs

open Sys2Proof.Machine Sys2Proof.Laws

/-! ## The rings and memory under what a block reports -/

/-- Memory and the rings stay. -/
def SameStore (b c : Block) : Prop := c.mem = b.mem ∧ c.rings = b.rings

section
variable (b : Block) {k : Nat}

@[simp] theorem ring_setRing_same (hk : k < 32) (r : Ring) : (b.setRing k r).ring k = r := by
  simp [Block.ring, Block.setRing, Vector.getD, hk]

theorem ring_setRing_other {j : Nat} (hj : j ≠ k) (r : Ring) : (b.setRing k r).ring j = b.ring j := by
  by_cases hlt : j < 32
  · simp [Block.ring, Block.setRing, Vector.getD, hlt, hj.symm]
  · simp [Block.ring, Vector.getD, hlt]

theorem message_sameStore (src : Nat) : SameStore b (b.message src) := by
  unfold Block.message
  split
  · exact ⟨rfl, rfl⟩
  · repeat' split
    all_goals exact ⟨rfl, rfl⟩

theorem doorbell_sameStore (mid i : Nat) : SameStore b (b.doorbell mid i) := by
  have hmessage : ∀ (c : Block) (masked : Bool) (src : Nat), SameStore c (if masked = true then c.message src else c) := by
    intro c masked src
    split
    · exact message_sameStore c src
    · exact ⟨rfl, rfl⟩
  unfold Block.doorbell
  split
  · exact hmessage { b with dbA := _ } _ _
  · exact hmessage { b with dbB := _ } _ _
  · exact hmessage { b with dbSeq := _ } _ _
  · exact ⟨rfl, rfl⟩

theorem ringBell_sameStore (k : Nat) : SameStore b (b.ringBell k) := by
  unfold Block.ringBell
  simp only []
  split
  · exact ⟨rfl, rfl⟩
  · split
    · exact ⟨rfl, rfl⟩
    · exact doorbell_sameStore b _ _

/-! ## Putting a record into a ring (R532 to R537) -/

theorem ringAppend_mem (k tag : Nat) (rec : Record) : (b.ringAppend k tag rec).mem =
    Mem.writeBytes 0#8 b.mem ((b.ring k).slot (b.ring k).head) (rec.encode tag (b.ring k).esize) :=
  (ringBell_sameStore _ k).1

theorem ringAppend_rings (k tag : Nat) (rec : Record) : (b.ringAppend k tag rec).rings =
    (b.setRing k { b.ring k with head := ((b.ring k).head + 1) % (b.ring k).depth, seq := ((b.ring k).seq + 1) % 2 ^ 32 }).rings :=
  (ringBell_sameStore _ k).2

theorem ring_congr {c : Block} (h : c.rings = b.rings) (j : Nat) : c.ring j = b.ring j := by simp only [Block.ring, h]

/-- A ring that dropped nothing, or that has no room, writes no loss (R537). -/
theorem flushLost_idle (h : (b.ring k).pendLost = 0 ∨ (b.ring k).full = true) : b.flushLost k = b := by
  rw [Block.flushLost]
  exact if_pos (.inr h)

theorem ringPut_append {tag : Option Nat} (rec : Record) (hfree : (b.ring k).full = false) (hnone : (b.ring k).pendLost = 0) :
    b.ringPut k tag rec = b.ringAppend k (tag.getD (b.ring k).seq) rec := by
  simp [Block.ringPut, flushLost_idle b (.inl hnone), hfree]

theorem ringPut_drop {tag : Option Nat} (rec : Record) (hfull : (b.ring k).full = true) (hkeeps : (b.ring k).overwrites = false) :
    b.ringPut k tag rec = b.setRing k ((b.ring k).drop (tag.getD (b.ring k).seq) rec) := by
  simp [Block.ringPut, flushLost_idle b (.inr hfull), hfull, hkeeps]

theorem flushLost_ring_other {j : Nat} (hj : j ≠ k) : (b.flushLost k).ring j = b.ring j := by
  unfold Block.flushLost
  simp only []
  split
  · rfl
  · rw [ring_congr _ (ringAppend_rings _ k _ _), ring_setRing_other _ hj, ring_setRing_other _ hj]

/-- A record put into one ring moves no other. -/
theorem ringPut_ring_other {j : Nat} (hj : j ≠ k) (tag : Option Nat) (rec : Record) : (b.ringPut k tag rec).ring j = b.ring j := by
  unfold Block.ringPut
  simp only []
  split
  · split
    · rw [ring_congr _ (ringAppend_rings _ k _ _), ring_setRing_other _ hj, ring_setRing_other _ hj, flushLost_ring_other b hj]
    · rw [ring_setRing_other _ hj, flushLost_ring_other b hj]
  · rw [ring_congr _ (ringAppend_rings _ k _ _), ring_setRing_other _ hj, flushLost_ring_other b hj]

/-! ## Enabling a ring and moving its indices (R525 to R530) -/

theorem ringEnable_keeps (hk : k < 32) (hen : (b.ring k).en = false) (hrule : b.ringRule k = none) : b.ringEnable k =
    b.setRing k { b.ring k with cfg := (b.ring k).cfg ||| 1#32, head := 0, tail := 0, seq := 0, pendLost := 0 } := by
  simp [Block.ringEnable, hen, Nat.not_le.mpr hk, hrule]

theorem ringEnable_breaks {n : Nat} (hk : k < 32) (hen : (b.ring k).en = false) (hrule : b.ringRule k = some n) : b.ringEnable k =
    (b.setRing k { b.ring k with cfgErr := true }).event 0x0B04 (leBytes 1 k ++ leBytes 1 n) := by
  simp [Block.ringEnable, hen, Nat.not_le.mpr hk, hrule]

theorem writeHead_within {mid v : Nat} (hv : (b.ring k).beyond v = false) : b.writeHead mid k v =
    if (b.ring k).en ∧ (b.ring k).role = 0 ∧ (b.ring k).owner = mid ∧
        (b.ring k).count ≤ (v + (b.ring k).depth - (b.ring k).tail) % (b.ring k).depth then b.setRing k { b.ring k with head := v }
    else b := by
  exact if_neg (by simp [hv])

theorem writeTail_within {mid v : Nat} (hv : (b.ring k).beyond v = false) : b.writeTail mid k v =
    if (b.ring k).en ∧ (b.ring k).role ≠ 0 ∧ (b.ring k).owner = mid ∧
        (v + (b.ring k).depth - (b.ring k).tail) % (b.ring k).depth ≤ (b.ring k).count then
      (b.setRing k { b.ring k with tail := v }).flushLost k
    else b := by
  exact if_neg (by simp [hv])

/-- An index that the ring does not have is undefined behaviour (R530). -/
theorem writeTail_beyond {mid v : Nat} (hv : (b.ring k).beyond v = true) : b.writeTail mid k v = b.enterUndef .ringIndex := by
  simp [Block.writeTail, hv]

end

/-- A command of a port that enters undefined behaviour holds the outputs off (R6). -/
theorem portResult_enterUndef (s : State) (p : Port) (r : HostResult) (b : Block) (c : UndefCase) :
    (s.portResult p r (b.enterUndef c)).m.undef = some c ∧ (s.portResult p r (b.enterUndef c)).m.outputsOff := by
  have hundef : (s.portResult p r (b.enterUndef c)).m.undef = some c := by
    show (Machine.portResult p (r, b.enterUndef c)).offWhileUndef.undef = _
    rw [offWhileUndef_undef]
    cases p <;> rfl
  refine ⟨hundef, heldOff_offWhileUndef _ ?_⟩
  show (s.portResult p r (b.enterUndef c)).m.undef.isSome = true
  rw [hundef]
  rfl

/-- Settles O28: each move of a ring from its own lemma; a record is appended, or dropped. -/
theorem ringsMoveAndRecord : Obligations.RingsMoveAndRecord := by
  refine ⟨⟨fun dt k s hs hp hk hen => ⟨fun hrule => ?enabled, fun n hrule => ?broken⟩, fun dt p k v s hs hp hk hv => ?head,
    fun dt p k v s hs hp hk hv => ?tail, fun dt p k v s hs hp hk hv => ?beyond,
    fun dt k s hs => run_of_step hs (step := fun b => b.flushLost k) rfl⟩,
    fun b k rec hk => ⟨fun hfree hnone => ?appended, fun hfull hkeeps => ?dropped, fun j hj => ringPut_ring_other b hj none rec⟩⟩
  case enabled =>
    show execRingEnable dt k s = _
    exact run_of_step hs ((if_pos (by simp [hp, hk])).trans (ringEnable_keeps (s.m.elapse dt) hk hen hrule))
  case broken =>
    show execRingEnable dt k s = _
    exact run_of_step hs ((if_pos (by simp [hp, hk])).trans (ringEnable_breaks (s.m.elapse dt) hk hen hrule))
  case head =>
    show execRingHeadWrite dt p k v s = _
    exact runPort_of_step hs hp (congrArg (HostResult.ok, ·) ((if_pos hk).trans (writeHead_within (s.m.elapse dt) hv)))
  case tail =>
    show execRingTailWrite dt p k v s = _
    exact runPort_of_step hs hp (congrArg (HostResult.ok, ·) ((if_pos hk).trans (writeTail_within (s.m.elapse dt) hv)))
  case beyond =>
    refine ⟨_, ?_, portResult_enterUndef s p .ok (s.m.elapse dt) .ringIndex⟩
    show execRingTailWrite dt p k v s = _
    exact runPort_of_step hs hp (congrArg (HostResult.ok, ·) ((if_pos hk).trans (writeTail_beyond (s.m.elapse dt) hv)))
  case appended =>
    rw [ringPut_append b rec hfree hnone]
    exact ⟨ringAppend_mem b k _ rec, (ring_congr _ (ringAppend_rings b k _ rec) k).trans (ring_setRing_same b hk _)⟩
  case dropped =>
    rw [ringPut_drop b rec hfull hkeeps, ring_setRing_same b hk]
    unfold Ring.drop
    simp only []
    split <;> exact ⟨rfl, rfl, rfl, rfl, rfl, rfl, rfl⟩

end Sys2Proof.Proofs
end

section
/-! PROOFS. What a commit writes, and the overlay routine (R490, R497, R513 to R519). -/

namespace Sys2Proof.Proofs

open Sys2Proof.Machine Sys2Proof.Laws

/-! ## The entries of a commit (R497) -/

section
variable (b : Block) (v : Word)

/-- Each field written from a word takes its part of the word; a field of its own is not touched by others. -/
theorem get_foldl_set_of_word {f : RegField} (hf : f ∈ fieldsOf f.idx) (fs : List RegField) (hfs : ∀ g ∈ fs, g ∈ fieldsOf g.idx) :
    (fs.foldl (fun b g => b.set g (g.get v)) b).get f = if f ∈ fs then f.get v else b.get f := by
  induction fs generalizing b with
  | nil => simp
  | cons g gs ih =>
    rw [List.foldl_cons, ih _ (fun x hx => hfs x (.tail g hx))]
    have hg : g ∈ fieldsOf g.idx := hfs g (.head gs)
    by_cases hin : f ∈ gs
    · simp [hin]
    · by_cases heq : f = g
      · subst heq
        simp [hin, get_set_of_word b f v (fits_of_mem_fieldsOf hf)]
      · simp [hin, heq, get_set_other b g f _ (fits_of_mem_fieldsOf hg) (apart_of_ne hg hf (Ne.symm heq))]

theorem foldl_set_regs (fs : List RegField) : fs.foldl (fun b g => b.set g (g.get v)) b =
    { b with regs := (fs.foldl (fun b g => b.set g (g.get v)) b).regs } := by
  induction fs generalizing b with
  | nil => rfl
  | cons g gs ih => exact ih _

theorem mem_stagedFields_iff {f : RegField} (hf : f ∈ fieldsOf f.idx) (idx : Nat) :
    f ∈ stagedFields idx ↔ f.idx = idx ∧ f.cls = .S ∧ f.acc = .rw := by
  simp only [stagedFields, List.mem_filter, Bool.and_eq_true, beq_iff_eq]
  exact ⟨fun h => ⟨idx_of_mem_fieldsOf h.1, h.2⟩, fun h => ⟨h.1 ▸ hf, h.2⟩⟩

/-- A register entry writes the S-class fields of its register (R497). -/
theorem applyEntry_register_get {f : RegField} (hf : f ∈ fieldsOf f.idx) (idx : Nat) : (b.applyEntry (.register idx v)).get f =
    if f.idx = idx ∧ f.cls = .S ∧ f.acc = .rw then f.get v else b.get f := by
  have hown : ∀ g ∈ stagedFields idx, g ∈ fieldsOf g.idx := by
    intro g hg
    have hmem : g ∈ fieldsOf idx := (List.mem_filter.mp hg).1
    exact (idx_of_mem_fieldsOf hmem).symm ▸ hmem
  show ((stagedFields idx).foldl (fun b g => b.set g (g.get v)) b).get f = _
  rw [get_foldl_set_of_word b v hf _ hown]
  simp only [mem_stagedFields_iff hf]

end

/-- A byte of a table entry takes the staged bits of its address (R497). -/
def writeStaged (m : Mem) (a : Nat) (x : Byte) : Mem :=
  let k := BitVec.ofNat 8 (stagedMask a)
  if k = 0#8 then m else Mem.write 0#8 m a ((Mem.read 0#8 m a &&& ~~~ k) ||| (x &&& k))

theorem applyEntry_table (b : Block) (a : Nat) (bs : List Byte) : b.applyEntry (.table a bs) =
    { b with mem := bs.zipIdx.foldl (fun m p => writeStaged m (a + p.2) p.1) b.mem } := rfl

section
variable {m : Mem} (a : Nat) (x : Byte)

theorem writeStaged_wf (hm : Mem.wf 0#8 m = true) : Mem.wf 0#8 (writeStaged m a x) = true := by
  unfold writeStaged
  simp only []
  split
  · exact hm
  · exact mem_write_wf a _ hm

theorem read_writeStaged_same (hm : Mem.wf 0#8 m = true) : Mem.read 0#8 (writeStaged m a x) a =
    (Mem.read 0#8 m a &&& ~~~ BitVec.ofNat 8 (stagedMask a)) ||| (x &&& BitVec.ofNat 8 (stagedMask a)) := by
  unfold writeStaged
  simp only []
  split
  · next hnone => rw [hnone, BitVec.not_zero, BitVec.and_allOnes, BitVec.and_zero, BitVec.or_zero]
  · exact mem_read_write_same a _ hm

theorem read_writeStaged_other (hm : Mem.wf 0#8 m = true) {y : Nat} (hy : y ≠ a) :
    Mem.read 0#8 (writeStaged m a x) y = Mem.read 0#8 m y := by
  unfold writeStaged
  simp only []
  split
  · rfl
  · exact mem_read_write_other _ hm hy

end

/-- The bytes of a table entry from the `n`-th on: each is written at its address. -/
theorem read_foldl_writeStaged {m : Mem} (hm : Mem.wf 0#8 m = true) (a n y : Nat) (bs : List Byte) :
    Mem.read 0#8 ((bs.zipIdx n).foldl (fun m p => writeStaged m (a + p.2) p.1) m) y =
      if a + n ≤ y ∧ y < a + n + bs.length then
        (Mem.read 0#8 m y &&& ~~~ BitVec.ofNat 8 (stagedMask y)) ||| (bs.getD (y - (a + n)) 0#8 &&& BitVec.ofNat 8 (stagedMask y))
      else Mem.read 0#8 m y := by
  induction bs generalizing m n with
  | nil =>
    rw [if_neg (by rw [List.length_nil]; omega)]
    rfl
  | cons x xs ih =>
    rw [List.zipIdx_cons, List.foldl_cons, ih (writeStaged_wf (a + n) x hm) (n + 1)]
    rcases lt_trichotomy y (a + n) with hlt | rfl | hgt
    · rw [if_neg (by omega), if_neg (by omega), read_writeStaged_other _ _ hm (by omega)]
    · rw [if_neg (by omega), if_pos (by simp), read_writeStaged_same _ _ hm, Nat.sub_self, List.getD_cons_zero]
    · have hat : y - (a + n) = y - (a + (n + 1)) + 1 := by omega
      simp only [List.length_cons]
      by_cases hin : y < a + n + (xs.length + 1)
      · rw [if_pos (by omega), if_pos (by omega), read_writeStaged_other _ _ hm (by omega), hat, List.getD_cons_succ]
      · rw [if_neg (by omega), if_neg (by omega), read_writeStaged_other _ _ hm (by omega)]

/-! ## The steps of the apply routine (R490, R513, R519) -/

section
variable {b : Block}

theorem overlaySlice_O1 (h : b.seq.step = 1) : b.overlaySlice = b.overlayO1 := by simp only [Block.overlaySlice, h]

theorem overlaySlice_O2 (h : b.seq.step = 2) : b.overlaySlice = b.overlayO2 := by simp only [Block.overlaySlice, h]

theorem overlaySlice_O5 (h : b.seq.step = 5) : b.overlaySlice = b.overlayO5 := by simp only [Block.overlaySlice, h]

theorem overlayO1_closed (h : b.txn.owner = none) : b.overlayO1 =
    (((b.openTxn 2 0).set R.CFG_OVERLAY.STATE 1).setOv (fun x => { x with id := x.want, body := [], flags := 0, got := [] })).toStep 2 := by
  simp [Block.overlayO1, h]

theorem overlayO1_open (h : b.txn.owner.isSome = true) : b.overlayO1 = b.overlayFail 5 false := by
  simp [Block.overlayO1, h]

theorem overlayO2_base (h : b.overlay.id = 0x7F) : b.overlayO2 = (b.setOv (fun x => { x with body := [], flags := 0 })).toStep 3 := by
  simp [Block.overlayO2, h]

theorem overlayO2_absent (h : b.overlay.id ≠ 0x7F) (hsrc : (b.slotOf b.overlay.id).src = 2) : b.overlayO2 = b.overlayFail 0 true := by
  simp [Block.overlayO2, h, hsrc]

theorem overlayO5_next (hp : b.txn.pending = none) (ht : b.overlay.tick = none) :
    b.overlayO5 = (b.set R.CFG_OVERLAY.STATE 3).setTxn (fun x => { x with pending := some .next }) := by
  simp [Block.overlayO5, hp, ht]

end

/-! ## The reverts (R515) -/

/-- A byte lies in a range. -/
def InRange (r : Nat × Nat) (a : Nat) : Prop := r.1 ≤ a ∧ a < r.1 + r.2

/-- A range cut by another covers what the one covers and the other does not. -/
theorem covered_cutRange_iff (r c : Nat × Nat) (a : Nat) : (∃ q ∈ cutRange r c, InRange q a) ↔ InRange r a ∧ ¬ InRange c a := by
  unfold cutRange InRange
  simp only []
  split
  · next hapart =>
    simp only [List.mem_singleton, exists_eq_left]
    omega
  · next hmeet =>
    simp only [List.mem_append, or_and_right, exists_or]
    split
    · split
      · simp only [List.mem_singleton, exists_eq_left]
        omega
      · simp only [List.mem_singleton, exists_eq_left, List.not_mem_nil, false_and, exists_false, or_false]
        omega
    · split
      · simp only [List.mem_singleton, exists_eq_left, List.not_mem_nil, false_and, exists_false, false_or]
        omega
      · simp only [List.not_mem_nil, false_and, exists_false, or_false, false_iff]
        omega

theorem covered_uncovered_iff (rs cs : List (Nat × Nat)) (a : Nat) :
    (∃ q ∈ uncovered rs cs, InRange q a) ↔ (∃ r ∈ rs, InRange r a) ∧ ¬ ∃ c ∈ cs, InRange c a := by
  unfold uncovered
  induction cs generalizing rs with
  | nil => simp
  | cons c cs ih =>
    have hcut : (∃ r ∈ rs.flatMap (fun r => cutRange r c), InRange r a) ↔ (∃ r ∈ rs, InRange r a) ∧ ¬ InRange c a := by
      simp only [List.mem_flatMap]
      constructor
      · rintro ⟨q, ⟨r, hr, hq⟩, hin⟩
        obtain ⟨hrin, hnot⟩ := (covered_cutRange_iff r c a).mp ⟨q, hq, hin⟩
        exact ⟨⟨r, hr, hrin⟩, hnot⟩
      · rintro ⟨⟨r, hr, hrin⟩, hnot⟩
        obtain ⟨q, hq, hin⟩ := (covered_cutRange_iff r c a).mpr ⟨hrin, hnot⟩
        exact ⟨q, ⟨r, hr, hq⟩, hin⟩
    rw [List.foldl_cons, ih, hcut]
    simp only [List.exists_mem_cons_iff, not_or, and_assoc]

theorem readBytes_length (m : Mem) (a n : Nat) : (Mem.readBytes 0#8 m a n).length = n := by simp [Mem.readBytes]

section
variable (b : Block)

theorem register_mem_reverts_iff (i : Nat) (v : Word) : JournalEntry.register i v ∈ b.reverts ↔
    i ∈ b.overlay.undoRegs ∧ i ∉ bodyRegs b.overlay.body ∧ v = b.overlay.baseRegs.getD i 0#32 := by
  simp only [Block.reverts, List.mem_append, List.mem_map, List.mem_filter, JournalEntry.register.injEq, reduceCtorEq, and_false,
    exists_false, or_false, Bool.not_eq_true', List.contains_eq_mem, decide_eq_false_iff_not]
  constructor
  · rintro ⟨j, ⟨hundo, hbody⟩, rfl, rfl⟩
    exact ⟨hundo, hbody, rfl⟩
  · rintro ⟨hundo, hbody, rfl⟩
    exact ⟨i, ⟨hundo, hbody⟩, rfl, rfl⟩

/-- The bytes of the reverts are those of the ranges that the body leaves. -/
theorem table_mem_reverts_iff (a : Nat) : (∃ c bs, JournalEntry.table c bs ∈ b.reverts ∧ c ≤ a ∧ a < c + bs.length) ↔
    ∃ q ∈ uncovered b.overlay.undoBytes (bodyRanges b.overlay.body), InRange q a := by
  simp only [Block.reverts, List.mem_append, List.mem_map, reduceCtorEq, and_false, exists_false, false_or, JournalEntry.table.injEq]
  constructor
  · rintro ⟨c, bs, ⟨q, hq, rfl, rfl⟩, hin⟩
    rw [readBytes_length] at hin
    exact ⟨q, hq, hin⟩
  · rintro ⟨q, hq, hin⟩
    refine ⟨_, _, ⟨q, hq, rfl, rfl⟩, ?_⟩
    rw [readBytes_length]
    exact hin

end

/-- Settles O33: the entries by a fold over their fields or bytes, the steps from their own lemmas, the reverts by what a cut
covers. -/
theorem commitsAndOverlays : Obligations.CommitsAndOverlays := by
  refine ⟨⟨fun b idx v f hf => applyEntry_register_get b v hf idx, fun b idx v => foldl_set_regs b v _, fun b a x bs hm => ?table⟩,
    ⟨fun b h ho => ?o1, fun b h ho => ?held, fun b h hid => ?base, fun b h hid hsrc => ?absent, fun b bs => ?record,
      fun b h hp ht => ?o5⟩,
    fun b i v => register_mem_reverts_iff b i v, fun b a => (table_mem_reverts_iff b a).trans (covered_uncovered_iff _ _ a)⟩
  case table =>
    rw [applyEntry_table]
    exact read_foldl_writeStaged hm a 0 x bs
  case o1 => exact (overlaySlice_O1 h).trans (overlayO1_closed ho)
  case held => exact (overlaySlice_O1 h).trans (overlayO1_open ho)
  case base => exact (overlaySlice_O2 h).trans (overlayO2_base hid)
  case absent => exact (overlaySlice_O2 h).trans (overlayO2_absent hid hsrc)
  case record =>
    refine ⟨fun hid => if_pos hid, fun hid hcrc => ?_, fun hid hcrc => ?_⟩
    · simp [Block.overlayRecord, hid, hcrc]
    · simp [Block.overlayRecord, hid, hcrc]
  case o5 => exact (overlaySlice_O5 h).trans (overlayO5_next hp ht)

end Sys2Proof.Proofs
end

section
/-! PROOFS. The words of a mailbox channel, its booth, and what the sequencer's channels take and give (R544 to R558). -/

namespace Sys2Proof.Proofs

open Sys2Proof.Machine Sys2Proof.Laws

/-! ## The two queues of a channel (R550) -/

section
variable {b : Block} {c mid o : Nat}

/-- The words toward an end are those of its mailbox. -/
theorem toward_congr {a : Block} (h : a.mail = b.mail) (x m : Nat) : a.toward x m = b.toward x m := by
  unfold Block.toward Block.booth Block.chan
  rw [h]

theorem chan_setChan (hc : c < 8) (ch : Channel) : (b.setChan c ch).chan c = ch := by
  simp [Block.chan, Block.setChan, Vector.getD, hc]

/-- The two ends of a bound channel differ (R545). -/
theorem otherEnd_cases (h : b.otherEnd c mid = some o) :
    ((b.booth c).midA = mid ∧ (b.booth c).midB = o ∨ (b.booth c).midA = o ∧ (b.booth c).midB = mid) ∧ o ≠ mid := by
  unfold Block.otherEnd BoothEntry.other at h
  split at h
  · cases h
  · next hbound =>
    simp only [BoothEntry.bound, Bool.not_eq_true', Bool.not_eq_false, Bool.and_eq_true, bne_iff_ne] at hbound
    obtain ⟨⟨⟨-, hne⟩, -⟩, -⟩ := hbound
    split at h
    · next hmid =>
      cases h
      exact ⟨.inl ⟨hmid, rfl⟩, fun heq => hne (hmid.trans heq.symm)⟩
    · split at h
      · next hnot hmid =>
        cases h
        exact ⟨.inr ⟨rfl, hmid⟩, fun heq => hnot heq⟩
      · cases h

theorem toward_setToward_same (hc : c < 8) (ws : List Word) : (b.setToward c mid ws).toward c mid = ws := by
  unfold Block.setToward
  split
  · next hb =>
    show (if (b.booth c).midB = mid then _ else _) = _
    rw [if_pos hb, chan_setChan hc]
  · next hb =>
    show (if (b.booth c).midB = mid then _ else _) = _
    rw [if_neg hb, chan_setChan hc]

/-- The queue toward one end is not that toward the other. -/
theorem toward_setToward_other (hc : c < 8) (h : b.otherEnd c mid = some o) (ws : List Word) :
    (b.setToward c mid ws).toward c o = b.toward c o := by
  obtain ⟨hends, hne⟩ := otherEnd_cases h
  unfold Block.setToward
  rcases hends with ⟨-, hb⟩ | ⟨-, hb⟩
  · rw [if_neg (fun hm => hne (hb.symm.trans hm))]
    show (if (b.booth c).midB = o then _ else _) = if (b.booth c).midB = o then _ else _
    rw [if_pos hb, if_pos hb, chan_setChan hc]
  · rw [if_pos hb]
    have hnot : (b.booth c).midB ≠ o := fun ho => hne (ho.symm.trans hb)
    show (if (b.booth c).midB = o then _ else _) = if (b.booth c).midB = o then _ else _
    rw [if_neg hnot, if_neg hnot, chan_setChan hc]

/-- Words that enter a queue ring at most a doorbell beside. -/
theorem enqueue_reported (b : Block) (c mid : Nat) (ws : List Word) :
    (b.setToward c mid (b.toward c mid ++ ws)).Reported (b.enqueue c mid ws) := by
  unfold Block.enqueue
  simp only []
  split
  · exact doorbell_reported _ _ _
  · exact reported_refl

theorem enqueue_seq (b : Block) (c mid : Nat) (ws : List Word) : (b.enqueue c mid ws).seq = b.seq :=
  (reported_seq (enqueue_reported b c mid ws)).trans (setToward_seq b c mid _)

theorem toward_enqueue_same (hc : c < 8) (ws : List Word) : (b.enqueue c mid ws).toward c mid = b.toward c mid ++ ws := by
  rw [toward_congr (reported_mail (enqueue_reported b c mid ws)), toward_setToward_same hc]

theorem toward_enqueue_other (hc : c < 8) (h : b.otherEnd c mid = some o) (ws : List Word) :
    (b.enqueue c mid ws).toward c o = b.toward c o := by
  rw [toward_congr (reported_mail (enqueue_reported b c mid ws)), toward_setToward_other hc h]

theorem toward_dequeue_same (hc : c < 8) (n : Nat) : (b.dequeue c mid n).toward c mid = (b.toward c mid).drop n := by
  rw [toward_congr (reported_mail (dequeue_reported b c mid n)), toward_setToward_same hc]

theorem toward_dequeue_other (hc : c < 8) (h : b.otherEnd c mid = some o) (n : Nat) :
    (b.dequeue c mid n).toward c o = b.toward c o := by
  rw [toward_congr (reported_mail (dequeue_reported b c mid n)), toward_setToward_other hc h]

/-! ## A receiver reset of one channel (R553, R564) -/

theorem spaceBell_mail (b : Block) (sender was : Nat) : (b.spaceBell sender was).mail = b.mail := by
  unfold Block.spaceBell
  split
  · exact reported_mail (doorbell_reported b _ _)
  · rfl

/-- A notice of words discarded changes what an end sees, and no words. -/
theorem toward_abortNotice (hc : c < 8) (reader n : Nat) : (b.abortNotice c reader n).toward c mid = b.toward c mid := by
  have hview (v : EndView) : ((b.chan c).setView reader v).aToB = (b.chan c).aToB ∧ ((b.chan c).setView reader v).bToA = (b.chan c).bToA := by
    unfold Channel.setView
    split <;> exact ⟨rfl, rfl⟩
  unfold Block.abortNotice
  split
  · simp only []
    rw [toward_congr (reported_mail (doorbell_reported _ _ _))]
    obtain ⟨ha, hb⟩ := hview { (b.chan c).view reader with aborted := true, discarded := n }
    show (if (b.booth c).midB = mid then _ else _) = if (b.booth c).midB = mid then _ else _
    rw [chan_setChan hc, ha, hb]
  · rfl

theorem toward_resetChannel (hc : c < 8) (h : (b.otherEnd c mid).isSome = true) : (b.resetChannel mid c).toward c mid = [] := by
  obtain ⟨o, ho⟩ := Option.isSome_iff_exists.mp h
  simp only [Block.resetChannel, ho]
  rw [toward_congr (spaceBell_mail _ _ _), toward_abortNotice hc, toward_setToward_same hc]

/-! ## Words of a host (R550, R551, R561) -/

theorem enqueue_seqListens (b : Block) (c mid : Nat) (ws : List Word) : (b.enqueue c mid ws).seqListens = b.seqListens := by
  unfold Block.seqListens
  rw [(enqueue_exchanged b c mid ws).power]

theorem mbSend_bound {p : Port} (w : Word) (h : b.otherEnd (b.port p).mbCh p.mid = some o) : b.mbSend p w =
    if (b.toward (b.port p).mbCh o).length < 8 then
      (if o = 2 ∧ b.seqListens = true then (b.enqueue (b.port p).mbCh o [w]).settleDiscard (b.port p).mbCh
       else b.enqueue (b.port p).mbCh o [w])
    else b.setEnd p.mid (b.port p).mbCh (fun v => { v with full := true }) := by
  simp only [Block.mbSend, h, enqueue_seqListens]

theorem mbSend_unbound {p : Port} (w : Word) (h : b.otherEnd (b.port p).mbCh p.mid = none) :
    b.mbSend p w = b.setEnd p.mid (b.port p).mbCh (fun v => { v with err := true }) := by
  simp only [Block.mbSend, h]

/-! ## The booth (R547, R548) -/

theorem boothLock_edit (h : b.mail.edit = true) : b.boothLock = (.ok,
    (((List.range 8).foldl (Block.rebind b.mail.pendBooth) b).setMail (fun x =>
      { x with booth := b.mail.pendBooth, pendBooth := [], edit := false, locked := true })).event 0x0B03
        (b.mail.pendBooth.flatMap (fun e => leBytes 1 e.byte))) := by
  simp only [Block.boothLock, h]
  rfl

theorem boothLock_none (h : b.mail.edit = false) : b.boothLock = (.locked, b) := by
  simp only [Block.boothLock, h]
  rfl

end

/-- Settles O27: a word by the room of its queue, the queues by the end they lead to, the booth by its edit. -/
theorem mailboxesAndBooth : Obligations.MailboxesAndBooth := by
  refine ⟨⟨fun dt p w o s hs hp h => ?sent, fun dt p w s hs hp h => ?unbound, fun dt p s hs hp => ?received,
      fun b c mid o ws hc h => ⟨toward_enqueue_same hc ws, toward_enqueue_other hc h ws,
        fun n => ⟨toward_dequeue_same hc n, toward_dequeue_other hc h n⟩⟩⟩,
    fun dt p s hs hp => ?begin, fun dt p s hs hp => ?lock, fun dt p v s hs hp => ?ring, fun dt p v s hs hp => ?reset,
    fun b mid c hc _ h => toward_resetChannel hc h⟩
  case sent =>
    show execMbTx dt p w s = _
    cases p <;> exact runPort_of_step hs hp (congrArg (HostResult.ok, ·) (mbSend_bound (b := s.m.elapse dt) w h))
  case unbound =>
    show execMbTx dt p w s = _
    cases p <;> exact runPort_of_step hs hp (congrArg (HostResult.ok, ·) (mbSend_unbound (b := s.m.elapse dt) w h))
  case received =>
    show execMbRx dt p s = _
    cases p <;> exact runPort_of_step hs hp rfl
  case begin =>
    show execBoothBegin dt p s = _
    split
    · next h => exact runPort_of_step hs hp (if_pos h)
    · next h => exact runPort_of_step hs hp (if_neg h)
  case lock =>
    show execBoothLock dt p s = _
    split
    · next h => exact runPort_of_step hs hp (boothLock_edit (b := s.m.elapse dt) h)
    · next h => exact runPort_of_step hs hp (boothLock_none (b := s.m.elapse dt) (Bool.eq_false_iff.mpr h))
  case ring =>
    show execMbDbRing dt p v s = _
    exact runPort_of_step hs hp rfl
  case reset =>
    show execMbPortReset dt p v s = _
    exact runPort_of_step hs hp rfl

/-! ## Replies and words of PEER (R552, R555, R558) -/

section
variable {b : Block} {ch m : Nat} {ws : List Word}

/-- The first reply that waits enters when the whole of it has room (R558). -/
theorem enterReply_waiting (hw : b.seq.waiting.find? (fun p => p.1 == ch) = some (ch, ws)) (hm : b.hostEnd ch = some m) :
    b.enterReply ch = if (b.toward ch m).length + ws.length ≤ 8 then
        { b.enqueue ch m ws with
          seq := { (b.enqueue ch m ws).seq with waiting := b.seq.waiting.eraseP (fun p => p.1 == ch) } }
      else b := by
  simp only [Block.enterReply, hw, hm, enqueue_seq]

theorem stepPeerEnter_room (hmode : b.power.mode = .run ∨ b.power.mode = .idle) (hpeer : ((b.booth ch).other 3).isSome = true)
    (hroom : b.peerRoom = true) (hlen : 4 ≤ (b.toward ch 3).length) :
    b.stepPeerEnter ch = (b.dequeue ch 3 4).queuePeer (wordBytes ((b.toward ch 3).take 4)) := by
  have hpower : ¬ (b.power.mode ≠ .run ∧ b.power.mode ≠ .idle) := fun h => hmode.elim h.1 h.2
  exact if_neg (by simp [hpower, hpeer, hroom, hlen])

theorem stepPeerRx_words (hlistens : b.seqListens = true) (hpeer : b.otherEnd ch 2 = some 3) (hlen : 4 ≤ (b.toward ch 2).length) :
    b.stepPeerRx ch = (b.dequeue ch 2 4).eventFrom 0x0B05 (leField (wordBytes ((b.toward ch 2).take 4)) 0 2) 0
      (((wordBytes ((b.toward ch 2).take 4)).drop 2).take 14) :=
  if_neg (by simp [hlistens, hpeer, hlen])

end

/-- Settles O19: each move of words asks for room for the whole. -/
theorem repliesAndPeerWords : Obligations.RepliesAndPeerWords := by
  refine ⟨fun dt ch m ws s hs hmode hw hm => ?reply, fun dt ch s hs hmode hpeer hroom hlen => ?enters,
    fun dt ch s hs hlistens hpeer hlen => ?leaves⟩
  case reply =>
    show execReplyEnqueue dt ch s = _
    exact run_of_step hs ((if_pos hmode).trans (enterReply_waiting (b := s.m.elapse dt) hw hm))
  case enters =>
    show execPeerQueueEnter dt ch s = _
    exact run_of_step hs (stepPeerEnter_room (b := s.m.elapse dt) hmode hpeer hroom hlen)
  case leaves =>
    show execPeerRx dt ch s = _
    exact run_of_step hs (stepPeerRx_words (b := s.m.elapse dt) hlistens hpeer hlen)

end Sys2Proof.Proofs
end

section
/-! PROOFS. The slices of a routine, the steps of Dusk and the restarts of the sequencer (R578 to R584, R711, R712). -/

namespace Sys2Proof.Proofs

open Sys2Proof.Machine Sys2Proof.Laws

/-! ## A slice of a routine (R578, R580, R581, R584) -/

section
variable {b : Block}

theorem seqTakeSources_exchanged (b : Block) : Exchanged b b.seqTakeSources := Exchanged.foldl Block.seqTake seqTake_exchanged _ b

/-- What the sequencer takes before the step of its routine: its sources, and the words it has to discard. -/
theorem sourcesTaken_exchanged (b : Block) : Exchanged b ((List.range 8).foldl Block.settleDiscard b.seqTakeSources) :=
  (seqTakeSources_exchanged b).trans (Exchanged.foldl Block.settleDiscard settleDiscard_exchanged _ _)

theorem seqWorks_of_mode (h : b.power.mode = .run ∨ b.power.mode = .idle) : b.seqWorks = true := by
  rcases h with h | h <;> simp [Block.seqWorks, h]

/-- A slice ends where a command that starts no routine waits (R581). -/
theorem stepSlice_plain {t : Block} {inp : SliceInput} (hworks : b.seqWorks = true) (hlistens : b.seqListens = true)
    (ht : t = (List.range 8).foldl Block.settleDiscard b.seqTakeSources) (hplain : t.plainWaits = true)
    (hdusk : b.seq.routine ≠ some .dusk) : b.stepSlice inp = t := by
  simp only [Block.stepSlice, hworks, hlistens, hdusk, ← ht, hplain, Bool.not_true, Bool.false_eq_true, if_false, if_true]

/-- The step of a routine that runs outside Dusk (R580). -/
def routineStep (inp : SliceInput) (u : Block) : Option RoutineKind → Block
  | some .overlay => u.overlaySlice
  | some .flush => u.flushSlice
  | some .sleepEntry => u.sleepSlice
  | some .sleepExit => u.wakeSlice inp
  | some .dawn => u
  | some .dusk => u
  | some .midnight => u
  | none => u

/-- The step of the routine follows, behind what a Midnight cycle does at a boundary. -/
theorem stepSlice_routine {t u : Block} {inp : SliceInput} (hworks : b.seqWorks = true) (hlistens : b.seqListens = true)
    (ht : t = (List.range 8).foldl Block.settleDiscard b.seqTakeSources) (hplain : t.plainWaits = false)
    (hdusk : b.seq.routine ≠ some .dusk) (hu : (if t.night.running then t.sliceDone.nightSlice else t.sliceDone) = u) :
    b.stepSlice inp = routineStep inp u u.seq.routine := by
  simp only [Block.stepSlice, hworks, hlistens, hdusk, ← ht, hplain, hu, Bool.not_true, Bool.false_eq_true, if_false, if_true]
  rfl

/-- In Dusk no source is taken. -/
theorem stepSlice_dusk {inp : SliceInput} (hmode : b.power.mode = .run) (hdusk : b.seq.routine = some .dusk) :
    b.stepSlice inp = b.sliceDone.duskSlice := by
  simp [Block.stepSlice, seqWorks_of_mode (.inl hmode), hdusk]

/-! ## Dusk step 5 (R89, R91, R540) -/

theorem duskFlush_waits (h : b.nvBusy = true) : b.duskFlush = b := by simp [Block.duskFlush, h]

theorem duskFlush_starts (h : b.nvBusy = false) (hstarted : b.power.flushStarted = false) (hflush : b.flag R.PW_CTL.PERSIST_FLUSH = true) :
    b.duskFlush = (b.setPower (fun p => { p with flushStarted := true })).startSegment 1 := by
  simp [Block.duskFlush, h, hstarted, hflush]

theorem duskFlush_done (h : b.nvBusy = false) (hdone : b.power.flushStarted = true ∨ b.flag R.PW_CTL.PERSIST_FLUSH = false) :
    b.duskFlush = b.duskDone 5 := by
  have : (b.power.flushStarted || !b.flag R.PW_CTL.PERSIST_FLUSH) = true := by
    rcases hdone with h | h <;> simp [h]
  simp only [Block.duskFlush, h, this]
  rfl

end

/-! ## A slice that hangs (R711, R712) -/

section
variable {b t : Block} {k : RoutineKind}

/-- What a restart leaves before the count of restarts is looked at. -/
def restarted (b t : Block) : Block :=
  t.eventFrom 0x0115 0 0 (leBytes 1 t.routineCode ++ leBytes 1 t.seq.step ++ leBytes 1 (b.seq.restarts + 1))

theorem stepRestart_routine (hworks : b.seqWorks = true) (hk : b.seq.routine = some k)
    (ht : t = (b.setSeq (fun x => { x with restarts := b.seq.restarts + 1 })).receiverReset 2 0) : b.stepRestart =
    if b.seq.restarts < 2 then restarted b t else if k = .dusk then (restarted b t).duskDone b.seq.step
    else (restarted b t).startDusk .request := by
  have hreset : Exchanged (b.setSeq (fun x => { x with restarts := b.seq.restarts + 1 })) (restarted b t) := by
    subst ht
    exact (receiverReset_exchanged _ 2 0).trans (.of_reported (eventFrom_reported _ _ _ _ _))
  have hroutine : (restarted b t).seq.routine = some k := hreset.routine.trans hk
  have hstep : (restarted b t).seq.step = b.seq.step := hreset.step
  have hcount : b.seq.restarts + 1 < 3 ↔ b.seq.restarts < 2 := by omega
  have hrun : b.stepRestart = if b.seq.restarts + 1 < 3 then restarted b t
      else if (restarted b t).seq.routine = some .dusk then (restarted b t).duskDone (restarted b t).seq.step
      else (restarted b t).startDusk .request := by
    subst ht
    exact if_neg (by simp [hworks, hk])
  rw [hrun, hroutine, hstep]
  simp only [hcount, Option.some.injEq]

end

/-- SEQ_RESTART while a routine runs: the stack of the sequencer is emptied. -/
theorem seqRestart_result {s : State} (hs : s.defined) (dt : Nat) {k : RoutineKind} (hworks : s.m.seqWorks = true)
    (hk : s.m.seq.routine = some k) {m : Block} (h : (s.m.elapse dt).stepRestart = m) :
    exec (.seqRestart dt) s = .next ({ s with nests := { s.nests with seq := {} } }.result m) := by
  have hclears : ((s.m.elapse dt).seqWorks && (s.m.elapse dt).seq.routine.isSome) = true := by
    rw [show (s.m.elapse dt).seqWorks = true from hworks, block_elapse_seq, hk]
    rfl
  show execSeqRestart dt s = _
  rw [execSeqRestart, runNests_result _ hs]
  simp only [hclears, if_true, h]

/-- Settles O18: a slice by its routine, Dusk by its step, a restart by its count. -/
theorem slicesAndRestarts : Obligations.SlicesAndRestarts := by
  refine ⟨⟨fun dt inp b s hs hmode hlistens hb => ?slice, fun dt inp x s hs hmode hdusk hx => ?dusk⟩,
    fun dt k t s hs hmode hk ht => ?restart⟩
  case slice =>
    have hworks : (s.m.elapse dt).seqWorks = true := seqWorks_of_mode (b := s.m.elapse dt) hmode
    have htaken : Exchanged (s.m.elapse dt) b := hb ▸ sourcesTaken_exchanged _
    have hrun {m : Block} (h : (s.m.elapse dt).stepSlice inp = m) : exec (.routineSlice dt inp) s = .next (s.result m) :=
      run_of_step hs (step := fun b => b.stepSlice inp) h
    refine ⟨fun hplain hnot => hrun (stepSlice_plain hworks hlistens hb hplain hnot), fun hplain hnight => ?byDay,
      fun hplain hnight hk hcause hstays => ?byNight⟩
    case byDay =>
      have hrest : b.night.running = false := htaken.night ▸ hnight
      have hslice {k : Option RoutineKind} (hk : s.m.seq.routine = k) (hnot : k ≠ some .dusk) :
          exec (.routineSlice dt inp) s = .next (s.result (routineStep inp b.sliceDone k)) := by
        have hsame : b.sliceDone.seq.routine = k := htaken.routine.trans hk
        refine hrun (hsame ▸ stepSlice_routine hworks hlistens hb hplain (fun he => hnot (hk.symm.trans he)) ?_)
        rw [hrest]
        rfl
      refine ⟨fun hk => hslice hk (by decide), fun hk => hslice hk (by decide), fun hk => hslice hk (by decide), ?_⟩
      rintro (hk | hk | hk)
      · exact hslice hk (by decide)
      · exact hslice hk (by decide)
      · exact hslice hk (by decide)
    case byNight =>
      have hrunning : b.night.running = true := htaken.night ▸ hnight
      have hnone : b.night.abortCause = none := htaken.night ▸ hcause
      have hnightSlice : b.sliceDone.nightSlice = b.sliceDone.nightAccept := by
        unfold Block.nightSlice
        rw [show b.sliceDone.night.abortCause = none from hnone]
      have hslice := stepSlice_routine (inp := inp) hworks hlistens hb hplain (by simp [hk]) (if_pos hrunning)
      rw [hnightSlice, hstays] at hslice
      exact hrun hslice
  case dusk =>
    have hslice {m : Block} (h : x.duskSlice = m) : exec (.routineSlice dt inp) s = .next (s.result m) :=
      run_of_step hs (step := fun b => b.stepSlice inp)
        ((stepSlice_dusk (b := s.m.elapse dt) hmode hdusk).trans ((congrArg Block.duskSlice hx.symm).trans h))
    have hstep {n : Nat} (h : s.m.seq.step = n) : x.seq.step = n := hx ▸ h
    have hbusy {v : Bool} (h : s.m.nvBusy = v) : x.nvBusy = v := hx ▸ h
    refine ⟨fun h => hslice ?_, fun h => hslice ?_, fun h => hslice ?_, fun h => hslice ?_, fun h hnv => hslice ?_,
      fun h hnv hstarted hflush => hslice ?_, fun h hnv hdone => hslice ?_, fun h => hslice ?_, fun h => hslice ?_⟩
    all_goals simp only [Block.duskSlice, hstep h]
    · rfl
    · rfl
    · rfl
    · subst hx; rfl
    · exact duskFlush_waits (hbusy hnv)
    · exact duskFlush_starts (hbusy hnv) (hx ▸ hstarted) (hx ▸ hflush)
    · exact duskFlush_done (hbusy hnv) (hx ▸ hdone)
    · rfl
    · rfl
  case restart =>
    have hworks : s.m.seqWorks = true := seqWorks_of_mode hmode
    have hrun := stepRestart_routine (b := s.m.elapse dt) (t := t) hworks hk ht
    refine ⟨fun hfew => seqRestart_result hs dt hworks hk (hrun.trans (if_pos hfew)),
      fun hmany hnot => seqRestart_result hs dt hworks hk (hrun.trans ?_),
      fun hmany hdusk => seqRestart_result hs dt hworks hk (hrun.trans ?_)⟩
    · exact (if_neg (Nat.not_lt.mpr hmany)).trans (if_neg hnot)
    · exact (if_neg (Nat.not_lt.mpr hmany)).trans (if_pos hdusk)

end Sys2Proof.Proofs
end

section
/-! PROOFS. The transfers of the memory port: which starts, what its end does, and what waits (R590 to R607). -/

namespace Sys2Proof.Proofs

open Sys2Proof.Machine Sys2Proof.Laws

/-! ## The oldest first (R600) -/

section
variable {α : Type}

theorem head?_insertBy (lt : α → α → Bool) (x y : α) (ys : List α) :
    (insertBy lt x (y :: ys)).head? = some (if lt x y then x else y) := by
  unfold insertBy
  split <;> rfl

/-- Inserting one after another keeps a least one in front. -/
theorem head?_foldl_insertBy (l acc : List (Nat × α)) (p : Nat × α) (hp : acc.head? = some p) :
    ∃ q, (l.foldl (fun acc x => insertBy (fun x y => decide (x.1 < y.1)) x acc) acc).head? = some q ∧ (q = p ∨ q ∈ l) ∧
      q.1 ≤ p.1 ∧ ∀ r ∈ l, q.1 ≤ r.1 := by
  induction l generalizing acc p with
  | nil => exact ⟨p, hp, .inl rfl, le_rfl, by simp⟩
  | cons x xs ih =>
    obtain ⟨ys, rfl⟩ : ∃ ys, acc = p :: ys := by
      cases acc with
      | nil => cases hp
      | cons y ys => cases hp; exact ⟨ys, rfl⟩
    obtain ⟨q, hq, hmem, hle, hleast⟩ := ih _ _ (head?_insertBy _ x p ys)
    refine ⟨q, hq, ?_⟩
    by_cases hlt : x.1 < p.1
    · simp only [hlt, decide_true, if_true] at hmem hle
      refine ⟨.inr (List.mem_cons.mpr hmem), by omega, fun r hr => ?_⟩
      rcases List.mem_cons.mp hr with rfl | hr
      · exact hle
      · exact hleast r hr
    · simp only [hlt, decide_false, Bool.false_eq_true, if_false] at hmem hle
      refine ⟨hmem.imp_right (List.mem_cons_of_mem x), hle, fun r hr => ?_⟩
      rcases List.mem_cons.mp hr with rfl | hr
      · omega
      · exact hleast r hr

/-- The first of a list sorted by time is one of the list that has the least time. -/
theorem head?_sortBy_least {l : List (Nat × α)} (h : l ≠ []) :
    ∃ q ∈ l, (sortBy (fun x y => decide (x.1 < y.1)) l).head? = some q ∧ ∀ r ∈ l, q.1 ≤ r.1 := by
  obtain ⟨x, xs, rfl⟩ := List.exists_cons_of_ne_nil h
  obtain ⟨q, hq, hmem, hle, hleast⟩ := head?_foldl_insertBy xs [x] x rfl
  refine ⟨q, List.mem_cons.mpr hmem, hq, fun r hr => ?_⟩
  rcases List.mem_cons.mp hr with rfl | hr
  · exact hle
  · exact hleast r hr

end

/-! ## The transfer that starts (R590 to R602) -/

section
variable {b : Block}

theorem nextTransfer_write {t : Transfer} (h : b.writeStep = some t) : b.nextTransfer = some t := by simp only [Block.nextTransfer, h]

theorem nextTransfer_host (hw : b.writeStep = none) (h : b.hostRequests ≠ []) :
    ∃ p ∈ b.hostRequests, b.nextTransfer = some p.2 ∧ ∀ q ∈ b.hostRequests, p.1 ≤ q.1 := by
  obtain ⟨p, hp, hhead, hleast⟩ := head?_sortBy_least h
  exact ⟨p, hp, by simp only [Block.nextTransfer, hw, hhead], hleast⟩

theorem nextTransfer_fills (hw : b.writeStep = none) (h : b.hostRequests = []) : b.nextTransfer =
    match (b.readyFills (· == .sequencer)).head? with
    | some f => some (.fill f)
    | none => (b.readyFills (· == .bracket)).head?.map Transfer.fill := by
  simp only [Block.nextTransfer, hw, h]
  rfl

/-- A transfer that starts leaves what waits and takes the wire; a poll sets the times of the polls (R600, R606). -/
def started (c : Block) (t : Transfer) : Block :=
  let first := c.now + c.transferTime t
  let d := (c.takeTransfer t).drive t
  match t with
  | .poll _ => d.setMp (fun x => { x with writing := x.writing.map (fun w =>
      { w with firstPoll := some (w.firstPoll.getD first), nextPoll := first + d.pollTime }) })
  | _ => d

/-- What the start of a transfer does once the ends that are over have been settled. -/
theorem stepTransfer_start {c : Block} {t : Transfer} (hc : b.settleWire = c) (hwire : c.mp.wire = none) (hrun : c.portRuns = true)
    (hnext : c.nextTransfer = some t) : b.stepTransfer = started c t := by
  simp only [Block.stepTransfer, hc, hwire, hrun, hnext]
  rfl

theorem takeTransfer_drive (t : Transfer) : (b.takeTransfer t).drive t =
    (b.takeTransfer t).setMp (fun x => { x with wire := some t, wireEnd := b.now + b.transferTime t, sent := b.sentBytes t }) := rfl

theorem stepTransfer_idle {c : Block} (hc : b.settleWire = c)
    (h : c.mp.wire.isSome = true ∨ c.portRuns = false ∨ c.nextTransfer = none) : b.stepTransfer = c := by
  simp only [Block.stepTransfer, hc]
  split
  · rfl
  · next hfree =>
    simp only [Bool.or_eq_true, Bool.not_eq_true', not_or, Bool.not_eq_false] at hfree
    rcases h with h | h | h
    · exact absurd h hfree.1
    · exact absurd (hfree.2.symm.trans h) (by decide)
    · rw [h]

theorem settleWire_enable {w : WriteOp} (h : b.mp.wire = some (.enable w)) (hend : b.mp.wireEnd ≤ b.now) :
    b.settleWire = b.wireFree.setMp (fun x => { x with enabled := true }) := by
  simp only [Block.settleWire, h, if_pos hend]

theorem settleWire_write {w : WriteOp} (h : b.mp.wire = some (.write w)) (hend : b.mp.wireEnd ≤ b.now) : b.settleWire =
    b.wireFree.setMp (fun x => { x with
      writing := some { op := w, startedAt := b.mp.wireEnd, nextPoll := b.mp.wireEnd + b.pollTime } }) := by
  simp only [Block.settleWire, h, if_pos hend]

theorem writeStep_queued {w : WriteOp} (hlow : b.softLow = false) (hwriting : b.mp.writing = none) (hqueued : b.mp.queued = some w)
    (hpoll : b.mp.pollOnce.contains w.sel = false) : b.writeStep = some (if b.mp.enabled then .write w else .enable w) := by
  simp only [Block.writeStep, hlow, hwriting, hqueued, hpoll, Bool.false_eq_true, if_false]

end

/-- Settles O34: the classes of the order of precedence, and the start of the transfer that they give. -/
theorem transfersStart : Obligations.TransfersStart := by
  refine ⟨⟨fun dt t b s hs hb hwire hrun hnext hpoll => ?starts, fun dt sel w b s hs hb hwire hrun hnext hwriting => ?polls,
      fun dt sel b s hs hb hwire hrun hnext hwriting => ?pollsOnce, fun dt b s hs hb h => ?idle⟩,
    fun b => ⟨fun t h => nextTransfer_write h, nextTransfer_host, fun hw h f l hl => ?sequencer, fun hw h hl => ?bracket⟩,
    fun b w => writeStep_queued, fun b w h hend => ?enabled, fun b w h hend => ?written, fun b a bs h => ?sends⟩
  case starts =>
    have h := stepTransfer_start hb.symm hwire hrun hnext
    refine run_of_step hs (step := Block.stepTransfer) (h.trans ?_)
    cases t with
    | poll sel => exact absurd rfl (hpoll sel)
    | _ => exact takeTransfer_drive _
  case polls =>
    refine run_of_step hs (step := Block.stepTransfer) ((stepTransfer_start hb.symm hwire hrun hnext).trans ?_)
    simp only [started, Block.takeTransfer, Block.drive, Block.setMp, hwriting, Option.map_some]
    rfl
  case pollsOnce =>
    refine run_of_step hs (step := Block.stepTransfer) ((stepTransfer_start hb.symm hwire hrun hnext).trans ?_)
    simp only [started, Block.takeTransfer, Block.drive, Block.setMp, hwriting, Option.map_none]
    rfl
  case idle => exact run_of_step hs (step := Block.stepTransfer) (stepTransfer_idle hb.symm h)
  case sequencer => rw [nextTransfer_fills hw h, hl]; rfl
  case bracket => rw [nextTransfer_fills hw h, hl]; rfl
  case enabled => rw [settleWire_enable h hend]; exact ⟨rfl, rfl⟩
  case written => rw [settleWire_write h hend]; exact ⟨rfl, rfl⟩
  case sends =>
    simp only [Block.sentBytes, Block.addressBytes, h]
    rfl

end Sys2Proof.Proofs
end

section
/-! PROOFS. The ends of transfers, the timeouts of the memory port, and what waits for its wire (R594 to R607). -/

namespace Sys2Proof.Proofs

open Sys2Proof.Machine Sys2Proof.Laws

/-! ## Ends of transfers (R594, R599, R602, R605) -/

section
variable {b : Block}

theorem stepFillDone_portA {f : Fill} {line : Nat} {data : List Byte} (hwire : b.mp.wire = some (.fill f)) (hend : b.mp.wireEnd ≤ b.now)
    (hwho : f.who = .portA) (hdead : f.dead = false) (hwant : b.portA.ra.want = some line) (hdata : data.length = 256) :
    b.stepFillDone data =
      b.wireFree.setRa .a (fun x => { x with line := line, data := data, ready := true, filling := false, want := none }) := by
  have hfree : (b.wireFree.port .a).ra.want = some line := hwant
  simp only [Block.stepFillDone, hwire, if_neg (Nat.not_lt.mpr hend), hwho, Block.portFill, hfree, hdead, padTo_whole _ hdata,
    Bool.false_eq_true, if_false]

theorem stepPoll_writing {sel status : Nat} {w : Writing} (hwire : b.mp.wire = some (.poll sel)) (hend : b.mp.wireEnd ≤ b.now)
    (hwriting : b.mp.writing = some w) :
    b.stepPoll status = if bitOf status 0 then b.wireFree else b.wireFree.writeDone w := by
  have hfree : b.wireFree.mp.writing = some w := hwriting
  simp only [Block.stepPoll, hwire, if_neg (Nat.not_lt.mpr hend), hfree]

/-- The bits that a command reads (R605). -/
def commandBits (op : Nat) : Nat := if op = 0x05 then 8 else if op = 0x9F then 24 else if op = 0x5A then 32 else 0

theorem stepTransferEnd_command {op sel addr data : Nat} (hwire : b.mp.wire = some (.command op sel addr))
    (hend : b.mp.wireEnd ≤ b.now) : b.stepTransferEnd data = b.wireFree.set R.MP_CMD_DATA.DATA
      (b.get R.MP_CMD_DATA.DATA - b.get R.MP_CMD_DATA.DATA % 2 ^ commandBits op + data % 2 ^ commandBits op) := by
  simp only [Block.stepTransferEnd, if_neg (Nat.not_lt.mpr hend), hwire]
  rfl

theorem stepTransferEnd_software {len tx data : Nat} (hwire : b.mp.wire = some (.software len tx)) (hend : b.mp.wireEnd ≤ b.now) :
    b.stepTransferEnd data = b.wireFree.set R.MP_SW_RX.RX
      (b.get R.MP_SW_RX.RX - b.get R.MP_SW_RX.RX % 2 ^ len + data % 2 ^ len) := by
  simp only [Block.stepTransferEnd, if_neg (Nat.not_lt.mpr hend), hwire]

/-! ## Timeouts (R606, R607) -/

theorem stepProgTimeout_late {addr : Nat} {bs : List Byte} {w : Writing} (hwriting : b.mp.writing = some w)
    (hop : w.op = .program addr bs) (hlate : b.writeLate w = true) : b.stepProgTimeout =
      (((b.setBit R.MP_STATUS.STUCK (selOf addr)).set R.MP_ERRADDR.ADDR (flashOf addr)).event 0x0A11
        (leBytes 1 (selOf addr) ++ leBytes 4 (flashOf addr))).dropWrites := by
  simp only [Block.stepProgTimeout, hwriting, hop, hlate, if_true, Block.writeTimeout, WriteOp.sel, WriteOp.range]

theorem stepEraseTimeout_late {sel addr n : Nat} {w : Writing} (hwriting : b.mp.writing = some w) (hop : w.op = .erase sel addr n)
    (hlate : b.writeLate w = true) : b.stepEraseTimeout =
      (((b.setBit R.MP_STATUS.STUCK sel).set R.MP_ERRADDR.ADDR (addr - addr % n)).event 0x0A12
        (leBytes 1 sel ++ leBytes 4 (addr - addr % n))).dropWrites := by
  simp only [Block.stepEraseTimeout, hwriting, hop, hlate, if_true, Block.writeTimeout, WriteOp.sel, WriteOp.range]

theorem stepFillTimeout_late {c : Block} {f : Fill} {rest : List Fill} (hc : b.endRefused = c) (hfills : c.mp.fills = f :: rest)
    (hlate : f.askedAt + c.fillLimit ≤ c.now) : b.stepFillTimeout =
      ((c.set R.MP_ERRADDR.ADDR (flashOf f.addr)).event 0x0A10
        (leBytes 1 (selOf f.addr) ++ leBytes 4 (flashOf f.addr) ++ leBytes 1 f.who.mid)).fillTimedOut f := by
  have hfound : c.lateFill (fun b f => b.overdue f) = some f := by
    simp [Block.lateFill, hfills, Block.overdue, hlate]
  simp only [Block.stepFillTimeout, hc, hfound]
  rfl

end

/-- Settles O35: the end of each transfer by what is on the wire, each timeout by what is late. -/
theorem transfersEnd : Obligations.TransfersEnd := by
  refine ⟨⟨fun dt line data f b s hs hb hwire hend hwho hdead hwant hdata => ?fill,
      fun dt sel status w b s hs hb hwire hend hwriting => ?poll, fun dt data op sel addr n s hs hwire hend hop => ?command,
      fun dt data len tx s hs hwire hend => ?software⟩,
    fun dt addr bs w b s hs hb hwriting hop hlate => ?program, fun dt sel addr n w b s hs hb hwriting hop hlate => ?erase,
    fun dt f rest b s hs hb hfills hlate => ?fillTimeout⟩
  case fill =>
    refine run_of_step hs (step := fun b => (b.settleWire.stepFillDone data).endRefused) ?_
    rw [← hb, stepFillDone_portA hwire hend hwho hdead hwant hdata]
  case poll =>
    refine run_of_step hs (step := fun b => b.settleWire.stepPoll status) ?_
    rw [← hb, stepPoll_writing hwire hend hwriting]
  case command =>
    have hn : commandBits op = n := by
      simp only [List.mem_cons, Prod.mk.injEq, List.not_mem_nil, or_false] at hop
      rcases hop with ⟨rfl, rfl⟩ | ⟨rfl, rfl⟩ | ⟨rfl, rfl⟩ | ⟨rfl, rfl⟩ <;> rfl
    exact run_of_step hs (step := fun b => b.stepTransferEnd data) (hn ▸ stepTransferEnd_command (b := s.m.elapse dt) hwire hend)
  case software =>
    exact run_of_step hs (step := fun b => b.stepTransferEnd data) (stepTransferEnd_software (b := s.m.elapse dt) hwire hend)
  case program =>
    refine run_of_step hs (step := fun b => b.settleWire.stepProgTimeout) ?_
    rw [← hb, stepProgTimeout_late hwriting hop hlate]
  case erase =>
    refine run_of_step hs (step := fun b => b.settleWire.stepEraseTimeout) ?_
    rw [← hb, stepEraseTimeout_late hwriting hop hlate]
  case fillTimeout =>
    exact run_of_step hs (step := fun b => b.settleWire.stepFillTimeout) (stepFillTimeout_late hb.symm hfills hlate)

/-! ## Commands, erases and software transfers (R594, R604 to R607) -/

/-- A request of a port for the memory port, once the ends that are over have been settled. -/
theorem portRequest_result {s : State} {dt : Nat} {p : Port} (hs : s.defined) (hp : s.m.portsAnswer = true)
    {f : Block → HostResult × Block} {b : Block} (hb : b = (s.m.elapse dt).settleWire) {r : HostResult} {m : Block} (h : f b = (r, m)) :
    s.runPort dt p (fun b => f b.settleWire) = .next (s.portResult p r m) :=
  runPort_of_step hs hp (by rw [← hb, h])

section
variable {b : Block} {mid op sel : Nat}

theorem mpCommand_busy (h : b.cmdBusy = true) : b.mpCommand mid op sel = (.locked, b) := by
  simp only [Block.mpCommand, h, if_true]

theorem mpCommand_read (hbusy : b.cmdBusy = false) (hop : op = 0x05 ∨ op = 0x9F ∨ op = 0x5A ∨ op = 0x06) :
    b.mpCommand mid op sel = if b.refuses sel then (.mpTimeout, b) else (.ok, b.setMp (fun x =>
      { x with command := some (op, sel, b.get R.MP_CMD_ADDR.ADDR), commandAt := b.now, commandMid := mid })) := by
  have herase : ¬ (op = 0x20 ∨ op = 0xD8) := by omega
  simp only [Block.mpCommand, hbusy, if_neg herase, if_pos hop, Bool.false_eq_true, if_false]

/-- The bytes that an erase command erases. -/
def eraseSize (op : Nat) : Nat := if op = 0x20 then 4096 else 65536

theorem mpCommand_eraseLocked (hbusy : b.cmdBusy = false) (hop : op = 0x20 ∨ op = 0xD8) (hsel : sel = 0)
    (hlock : b.flag R.MP_CTL.S0_WRITE = false) : b.mpCommand mid op sel = (.ok, b.setFlag R.MP_STATUS.CMD_ERR true) := by
  simp [Block.mpCommand, hbusy, hop, hsel, hlock]

/-- An erase of a select that may be written enters the write path (R605). -/
theorem mpCommand_erase (hbusy : b.cmdBusy = false) (hop : op = 0x20 ∨ op = 0xD8)
    (hsel : sel ≠ 0 ∨ b.flag R.MP_CTL.S0_WRITE = true) (hrefuses : b.refuses b.writeSel = false) : b.mpCommand mid op sel =
      match b.enterWrite (.erase b.writeSel (b.get R.MP_CMD_ADDR.ADDR) (eraseSize op)) with
      | some c => (.ok, c)
      | none => (.windowFault, b.setFlag R.MP_STATUS.CMD_ERR true) := by
  have hmay : ¬ (sel = 0 ∧ (!b.flag R.MP_CTL.S0_WRITE) = true) := by
    rintro ⟨rfl, hlock⟩
    simp_all
  simp only [Block.mpCommand, hbusy, if_pos hop, if_neg hmay, hrefuses, Bool.false_eq_true, if_false]
  rfl

theorem enterWrite_free {w : WriteOp} (h : b.writeBusy = false) : b.enterWrite w = some (b.setMp (fun x => { x with queued := some w })) := by
  simp [Block.enterWrite, h]

theorem enterWrite_full {w : WriteOp} (h : b.writeBusy = true) (hwaiting : b.mp.waiting.isSome = true) : b.enterWrite w = none := by
  simp [Block.enterWrite, h, Option.isSome_iff_ne_none.mp hwaiting]

/-! ## A page program of one item (R601, R602) -/

theorem pageBytes_one {a : Nat} (w : Word) (ha : a < 2 ^ 32) : pageBytes [(a, w)] = (a, leBytes 4 w.toNat) := by
  have hlo : min (2 ^ 32) a = a := Nat.min_eq_right (Nat.le_of_lt ha)
  simp only [pageBytes, List.foldl_cons, List.foldl_nil, hlo, Nat.zero_max, Nat.sub_self, List.take_zero, List.nil_append, Nat.zero_add,
    Nat.add_sub_cancel_left]
  simp

theorem sent_lt {a : Nat} (sel : Nat) (ha : a < 2 ^ 32) : b.sent sel a < 2 ^ 32 := by
  unfold Block.sent
  split <;> omega

theorem pageRequest_one {a : Nat} (w : Word) (ha : a - 0x14000000 < 2 ^ 32) (hrefuses : b.refuses b.writeSel = false)
    (hfree : b.writeBusy = false) : b.pageRequest [(a, w)] = (.ok, b.setMp (fun x => { x with
      queued := some (.program (b.writeSel * 2 ^ 32 + b.sent b.writeSel (a - 0x14000000)) (leBytes 4 w.toNat)) })) := by
  simp [Block.pageRequest, pageBytes_one w (sent_lt _ ha), hrefuses, enterWrite_free hfree]

/-- The bytes of select 1. -/
theorem flash1_lt {a : Nat} (h : regionOf a = .flash1) : a < 0x18000000 := by
  by_contra hge
  unfold regionOf at h
  simp (disch := omega) only [if_neg] at h
  cases h

/-! ## The items of a frame of one window item (R469, R486) -/

section
variable (p : Port) (run : FrameRun) (i a : Nat) (w : Word) (r : HostResult)

theorem endItems_window : b.endItems p { run := run, results := [(i, r, some a)] } = (r, b.winFaultAt p r a) := by
  unfold Block.endItems Block.storeItems Block.pageItems Block.frameFaults
  simp [firstResult_one, sortBy, insertBy]

theorem endItems_page : b.endItems p { run := run, page := [(i, a, w)] } =
    ((b.pageRequest [(a, w)]).1, (b.pageRequest [(a, w)]).2.winFaultAt p (b.pageRequest [(a, w)]).1 a) := by
  unfold Block.endItems Block.storeItems Block.pageItems Block.frameFaults
  simp [firstResult_one, sortBy, insertBy]

theorem winFaultAt_ok : b.winFaultAt p .ok a = b := if_neg (by decide)

end

theorem stepPageProgram_one {c : Block} {p : Port} {a : Nat} {w : Word} (hc : b.settleWire = c) (ha : regionOf a = .flash1)
    (hrefuses : c.refuses c.writeSel = false) (hfree : c.writeBusy = false) : b.stepPageProgram p [⟨a, w⟩] =
      (.ok, (c.setMp (fun x => { x with queued := some (.program
        (c.writeSel * 2 ^ 32 + c.sent c.writeSel (a - 0x14000000)) (leBytes 4 w.toNat)) })).endRefused) := by
  have hlt := flash1_lt ha
  have hpage := pageRequest_one (b := c) w (show a - 0x14000000 < 2 ^ 32 by omega) hrefuses hfree
  have hend := endItems_page (b := c) p {} 0 a w
  rw [hpage, winFaultAt_ok] at hend
  simp [Block.stepPageProgram, ha, hc, hend]

end

/-- Settles O36: what a request finds taken, stuck or free decides its answer. -/
theorem portRequestsQueue : Obligations.PortRequestsQueue := by
  refine ⟨fun dt sel p b s hs hp hb c hc => ?command, ⟨fun dt sel p b s hs hp hb hbusy c hc => ?erase,
    fun dt p v b s hs hp hb => ?software⟩, fun dt a p w b s hs hp hb ha hrefuses hfree => ?page⟩
  case command =>
    have hrun : ∃ op, c.1 = op ∧ (op = 0x05 ∨ op = 0x9F ∨ op = 0x5A ∨ op = 0x06) ∧
        exec c.2 s = s.runPort dt p (fun b => b.settleWire.mpCommand p.mid op sel) := by
      simp only [List.mem_cons, List.not_mem_nil, or_false] at hc
      rcases hc with rfl | rfl | rfl | rfl
      · exact ⟨0x05, rfl, by decide, rfl⟩
      · exact ⟨0x9F, rfl, by decide, rfl⟩
      · exact ⟨0x5A, rfl, by decide, rfl⟩
      · exact ⟨0x06, rfl, by decide, rfl⟩
    obtain ⟨op, hc1, hop, hexec⟩ := hrun
    rw [hexec, hc1]
    have hrequest {r : HostResult} {m : Block} (h : b.mpCommand p.mid op sel = (r, m)) :=
      portRequest_result (p := p) (f := fun b => b.mpCommand p.mid op sel) hs hp hb h
    exact ⟨fun hbusy => hrequest (mpCommand_busy hbusy),
      fun hbusy hrefuses => hrequest ((mpCommand_read hbusy hop).trans (if_pos hrefuses)),
      fun hbusy hrefuses => hrequest ((mpCommand_read hbusy hop).trans (if_neg (by rw [hrefuses]; decide)))⟩
  case erase =>
    have hrun : ∃ op, (op = 0x20 ∨ op = 0xD8) ∧ c.1 = eraseSize op ∧
        exec c.2 s = s.runPort dt p (fun b => b.settleWire.mpCommand p.mid op sel) := by
      simp only [List.mem_cons, List.not_mem_nil, or_false] at hc
      rcases hc with rfl | rfl
      · exact ⟨0x20, by decide, rfl, rfl⟩
      · exact ⟨0xD8, by decide, rfl, rfl⟩
    obtain ⟨op, hop, hc1, hexec⟩ := hrun
    rw [hexec, hc1]
    have hrequest {r : HostResult} {m : Block} (h : b.mpCommand p.mid op sel = (r, m)) :=
      portRequest_result (p := p) (f := fun b => b.mpCommand p.mid op sel) hs hp hb h
    refine ⟨fun hsel hlock => hrequest (mpCommand_eraseLocked hbusy hop hsel hlock),
      fun hsel hrefuses hfree => hrequest ((mpCommand_erase hbusy hop hsel hrefuses).trans ?_),
      fun hsel hrefuses hfull hwaiting => hrequest ((mpCommand_erase hbusy hop hsel hrefuses).trans ?_)⟩
    · rw [enterWrite_free hfree]
    · rw [enterWrite_full hfull hwaiting]
  case software =>
    show execMpSwTransfer dt p v s = _
    exact portRequest_result (f := fun b => (.ok, b.softTransfer v.toNat)) hs hp hb rfl
  case page =>
    show execPageProgramRequest dt p [⟨a, w⟩] s = _
    exact runPort_of_step hs hp (stepPageProgram_one hb.symm ha hrefuses hfree)

end Sys2Proof.Proofs
end

section
/-! PROOFS. The operations and window writes of the non-volatile store (R617 to R646). -/

namespace Sys2Proof.Proofs

open Sys2Proof.Machine Sys2Proof.Laws

/-! ## The four operations (R618, R627, R629, R632, R633) -/

/-- A port's operation of the store that finds it busy. -/
theorem nvOp_busy {s : State} (hs : s.defined) (dt : Nat) {p : Port} (hp : s.m.portsAnswer = true) (hbusy : s.m.nvBusy = true)
    (f : Block → Block) : s.runPort dt p (fun b => b.stepNvOp f) = .next (s.portResult p .nvBusy (s.m.elapse dt)) :=
  runPort_of_step hs hp (if_pos hbusy)

theorem nvOp_free {s : State} (hs : s.defined) (dt : Nat) {p : Port} (hp : s.m.portsAnswer = true) (hbusy : s.m.nvBusy = false)
    {f : Block → Block} {m : Block} (h : f (s.m.elapse dt) = m) :
    s.runPort dt p (fun b => b.stepNvOp f) = .next (s.portResult p .ok m) :=
  runPort_of_step hs hp ((if_neg (by rw [show (s.m.elapse dt).nvBusy = false from hbusy]; decide)).trans (by rw [h]))

section
variable {b : Block} {op : NvOp}

theorem stepTrapezeRead_free (hbusy : b.nvBusy = false) (hop : op = b.nvArgs .trapezeRead) : b.stepTrapezeRead =
    if pairArgsOk op then b.setNv (fun x => { x with op := some op }) else b.nvOpEnd .trapezeRead 4 := by
  simp only [Block.stepTrapezeRead, hbusy, ← hop, Bool.false_eq_true, if_false]
  cases pairArgsOk op <;> rfl

theorem stepCarouselRead_free (hbusy : b.nvBusy = false) (hop : op = b.nvArgs .carouselRead) : b.stepCarouselRead =
    if carouselArgsOk op then b.setNv (fun x => { x with op := some op }) else b.nvOpEnd .carouselRead 4 := by
  simp only [Block.stepCarouselRead, hbusy, ← hop, Bool.false_eq_true, if_false]
  cases carouselArgsOk op <;> rfl

/-- A Trapeze write programs the copy that is not in force (R629). -/
theorem stepTrapezeWrite_other {c : Nat} {i : CopyInfo} (hbusy : b.nvBusy = false) (hop : op = b.nvArgs .trapezeWrite)
    (hargs : pairArgsOk op = true) (haddr : 0x4000 ≤ op.addr) (hwhole : op.len % 8 = 0) (hfits : op.len + 8 ≤ 64 * op.pages)
    (hsrc : op.src + op.len ≤ 0x80000) (hforce : b.inForce op.addr op.pages = some (c, i)) (hfound : b.pairFound op.addr op.pages = {})
    (hlimit : op.addr + 64 * op.pages * (1 - c) + 64 * op.pages ≤ b.nvLimit) : b.stepTrapezeWrite =
      b.startWrite { op with copy := 1 - c, seq := (i.seq + 1) % 2 ^ 32, told := false }
        (b.nvWrites (spanGroups [(op.addr + 64 * op.pages * (1 - c), b.bytes (0x00800000 + op.src) op.len)])
          [(op.addr + 64 * op.pages * (1 - c), b.bytes (0x00800000 + op.src) op.len)]) true := by
  have hok : ¬ ((!pairArgsOk op) = true ∨ op.addr < 0x4000 ∨ op.len % 8 ≠ 0 ∨ 64 * op.pages < op.len + 8 ∨
      0x80000 < op.src + op.len) := by
    simp only [hargs, Bool.not_true, Bool.false_eq_true, false_or]
    omega
  simp only [Block.stepTrapezeWrite, hbusy, ← hop, if_neg hok, hforce, hfound, nvTell_nothing, if_neg (Nat.not_lt.mpr hlimit),
    Bool.false_eq_true, if_false]
  rfl

/-- A Carousel push programs the slot after the newest (R633). -/
theorem stepCarouselPush_next {i q v : Nat} (hbusy : b.nvBusy = false) (hop : op = b.nvArgs .carouselPush)
    (hargs : carouselArgsOk op = true) (haddr : 0x4000 ≤ op.addr) (hnewest : b.newestSlot op.addr op.slots = some (i, q, v))
    (hq : q + 1 < 0xFFFFFF) (hfound : b.nvFound op.addr (8 * op.slots) = {})
    (hlimit : op.addr + 8 * ((i + 1) % op.slots) + 8 ≤ b.nvLimit) : b.stepCarouselPush =
      b.startWrite { op with slot := (i + 1) % op.slots, seq := q + 1 }
        [((op.addr + 8 * ((i + 1) % op.slots)) / 8, slotBytes (b.get R.NV_DATA.VALUE) (q + 1))] false := by
  have hok : ¬ ((!carouselArgsOk op) = true ∨ op.addr < 0x4000) := by
    simp only [hargs, Bool.not_true, Bool.false_eq_true, false_or]
    omega
  simp only [Block.stepCarouselPush, hbusy, ← hop, if_neg hok, hnewest, hfound, nvTell_nothing, if_neg (Nat.ne_of_lt hq),
    if_neg (Nat.not_lt.mpr hlimit), Bool.false_eq_true, if_false]

/-! ## Window writes (R617, R619, R624) -/

/-- The four bytes of an aligned word touch the one group that holds them. -/
theorem touches_word_iff {o g : Nat} (w : Word) (ho : o % 4 = 0) : touches [(o, leBytes 4 w.toNat)] g = true ↔ g = o / 8 := by
  simp only [touches, List.any_cons, List.any_nil, Bool.or_false, Bool.and_eq_true, decide_eq_true_eq, leBytes_length]
  omega

theorem spanGroups_word {o : Nat} (w : Word) (ho : o % 4 = 0) : spanGroups [(o, leBytes 4 w.toNat)] = [o / 8] := by
  have hone : (o + 4 + 7) / 8 - o / 8 = 1 := by omega
  simp [spanGroups, leBytes_length, hone, (touches_word_iff w ho).mpr]

theorem wrapGroups_word {o : Nat} (w : Word) (ho : o % 4 = 0) : wrapGroups o [(o, leBytes 4 w.toNat)] = [o / 8] := by
  have hfirst : 8 * (o / 64) + (o / 8 + 0) % 8 = o / 8 := by omega
  have hothers : ∀ i ∈ (List.range 7).map Nat.succ, 8 * (o / 64) + (o / 8 + i) % 8 ≠ o / 8 := by
    intro i hi
    simp only [List.mem_map, List.mem_range] at hi
    omega
  simp only [wrapGroups, List.range_succ_eq_map (n := 7), List.map_cons]
  rw [hfirst, List.filter_cons_of_pos ((touches_word_iff w ho).mpr rfl)]
  congr 1
  refine List.filter_eq_nil_iff.mpr (fun g hg ht => ?_)
  obtain ⟨i, hi, rfl⟩ := List.mem_map.mp hg
  exact hothers i hi ((touches_word_iff w ho).mp ht)

theorem nvWindow_busy (h : b.nvBusy = true) (items : List (Nat × Word)) : b.nvWindow items = (items.map (fun _ => .nvBusy), b) := by
  simp only [Block.nvWindow, h, if_true]

/-- One aligned word below the limit forms a write operation of its group (R619). -/
theorem nvWindow_word {o : Nat} (w : Word) (hbusy : b.nvBusy = false) (hlimit : o < b.nvLimit) (ho : o % 4 = 0) :
    b.nvWindow [(o, w)] = ([.ok], b.startWrite { kind := .window, addr := o } (b.nvWrites [o / 8] [(o, leBytes 4 w.toNat)])
      (b.flag R.NV_CTL.MODE)) := by
  have hplaced : placeItems (b.flag R.NV_CTL.MODE) b.nvLimit [(o, w)] = (some o, [(o, w, .ok)]) := by
    have hwrap : 64 * (o / 64) + o % 64 = o := by omega
    cases b.flag R.NV_CTL.MODE <;> simp [placeItems, hlimit, Nat.not_le.mpr hlimit, hwrap]
  have hnone : [(o, w)].find? (fun i => decide (b.nvLimit ≤ i.1)) = none := by simp [hlimit]
  have hgroups : (if b.flag R.NV_CTL.MODE = true then spanGroups [(o, leBytes 4 w.toNat)]
      else wrapGroups o [(o, leBytes 4 w.toNat)]) = [o / 8] := by
    rw [spanGroups_word w ho, wrapGroups_word w ho, ite_self]
  have hbytes : ([(o, w, HostResult.ok)].filter (fun p => p.2.2 == .ok)).map (fun p => (p.1, leBytes 4 p.2.1.toNat)) =
      [(o, leBytes 4 w.toNat)] := rfl
  simp only [Block.nvWindow, hbusy, hplaced, hnone, hbytes, hgroups, Bool.false_eq_true, if_false]
  rfl

/-- One word in the protected range is refused (R624). -/
theorem nvWindow_protected {o : Nat} (w : Word) (hbusy : b.nvBusy = false) (hlimit : b.nvLimit ≤ o) :
    b.nvWindow [(o, w)] = ([.windowFault], b.nvProtected o) := by
  simp [Block.nvWindow, hbusy, placeItems, hlimit, Nat.not_lt.mpr hlimit]

end

/-- The items of a frame in the store's user area, as a command of a port. -/
theorem nvWindowWrite_result {s : State} (hs : s.defined) (dt : Nat) {p : Port} (hp : s.m.portsAnswer = true) {items : List WindowItem}
    (hin : ∀ i ∈ items, 0x00A04000 ≤ i.addr ∧ i.addr < 0x00A40000) {rs : List HostResult} {m : Block}
    (h : (s.m.elapse dt).nvWindow (items.map (fun i => (i.addr - 0x00A00000, i.value))) = (rs, m)) :
    exec (.nvWindowWrite dt p items) s = .next (s.portResult p ((rs.find? (· != .ok)).getD .ok) m) := by
  have hall : items.all (fun i => decide (0x00A04000 ≤ i.addr) && decide (i.addr < 0x00A40000)) = true := by
    simpa [List.all_eq_true] using hin
  show execNvWindowWrite dt p items s = _
  rw [execNvWindowWrite, if_pos hall]
  exact runPort_of_step hs hp (by rw [Block.stepNvWindow, h])

/-- Settles O38: each operation by its arguments, each window write by its offset. -/
theorem storeOperations : Obligations.StoreOperations := by
  refine ⟨⟨fun dt p s hs hp hbusy c hc => ?busy, fun dt p op s hs hp hbusy hop => ?trapezeRead,
      fun dt p op s hs hp hbusy hop => ?carouselRead,
      fun dt c p i op s hs hp hbusy hop hargs haddr hwhole hfits hsrc hforce hfound hlimit => ?trapezeWrite,
      fun dt i q v p op s hs hp hbusy hop hargs haddr hnewest hq hfound hlimit => ?carouselPush⟩,
    fun dt p items s hs hp hsome hin hbusy => ?windowBusy, fun dt a p w s hs hp hlo hhi hbusy hlimit ha => ?window,
    fun dt a p w s hs hp hlo hhi hbusy hlimit => ?guarded⟩
  case busy =>
    simp only [List.mem_cons, List.not_mem_nil, or_false] at hc
    rcases hc with rfl | rfl | rfl | rfl
    · exact nvOp_busy hs dt hp hbusy Block.stepTrapezeWrite
    · exact nvOp_busy hs dt hp hbusy Block.stepTrapezeRead
    · exact nvOp_busy hs dt hp hbusy Block.stepCarouselPush
    · exact nvOp_busy hs dt hp hbusy Block.stepCarouselRead
  case trapezeRead => exact nvOp_free hs dt hp hbusy (stepTrapezeRead_free (b := s.m.elapse dt) hbusy hop)
  case carouselRead => exact nvOp_free hs dt hp hbusy (stepCarouselRead_free (b := s.m.elapse dt) hbusy hop)
  case trapezeWrite =>
    exact nvOp_free hs dt hp hbusy
      (stepTrapezeWrite_other (b := s.m.elapse dt) hbusy hop hargs haddr hwhole hfits hsrc hforce hfound hlimit)
  case carouselPush =>
    exact nvOp_free hs dt hp hbusy
      (stepCarouselPush_next (b := s.m.elapse dt) hbusy hop hargs haddr hnewest hq hfound hlimit)
  case windowBusy =>
    have hfirst : ((items.map (fun i : WindowItem => (i.addr - 0x00A00000, i.value))).map
        (fun _ => HostResult.nvBusy)).find? (· != .ok) = some .nvBusy := by
      obtain ⟨x, xs, rfl⟩ := List.exists_cons_of_ne_nil hsome
      rfl
    have h := nvWindowWrite_result (p := p) hs dt hp hin (nvWindow_busy (b := s.m.elapse dt) hbusy _)
    rw [hfirst] at h
    exact h
  case window =>
    exact nvWindowWrite_result (items := [⟨a, w⟩]) hs dt hp (by simp [hlo, hhi])
      (nvWindow_word (b := s.m.elapse dt) w hbusy hlimit (show (a - 0x00A00000) % 4 = 0 by omega))
  case guarded =>
    exact nvWindowWrite_result (items := [⟨a, w⟩]) hs dt hp (by simp [hlo, hhi]) (nvWindow_protected (b := s.m.elapse dt) w hbusy hlimit)

end Sys2Proof.Proofs
end

section
/-! PROOFS. The bursts of the serial output (R681, R690, R691, R700). -/

namespace Sys2Proof.Proofs

open Sys2Proof.Machine Sys2Proof.Laws

/-- The queues and the lanes stay. -/
def SameQueues (b c : Block) : Prop := c.out.result = b.out.result ∧ c.out.image = b.out.image ∧ c.out.lanes = b.out.lanes

section
variable {b : Block} {n : Nat}

/-- A packet that leaves touches the open frames and the counts of deskew alone. -/
theorem sendPacket_sameQueues (b : Block) (p : Packet) : SameQueues b (b.sendPacket p) := by
  unfold Block.sendPacket
  split
  · simp only []
    split <;> exact ⟨rfl, rfl, rfl⟩
  · simp only []
    split
    · exact ⟨rfl, rfl, rfl⟩
    · split <;> exact ⟨rfl, rfl, rfl⟩
  · exact ⟨rfl, rfl, rfl⟩

theorem foldl_sendPacket_sameQueues (b : Block) (ps : List Packet) : SameQueues b (ps.foldl Block.sendPacket b) := by
  induction ps generalizing b with
  | nil => exact ⟨rfl, rfl, rfl⟩
  | cons p ps ih =>
    obtain ⟨hresult, himage, hlanes⟩ := sendPacket_sameQueues b p
    obtain ⟨hresult', himage', hlanes'⟩ := ih (b.sendPacket p)
    exact ⟨hresult'.trans hresult, himage'.trans himage, hlanes'.trans hlanes⟩

/-- No packet leaves (R696). -/
def OutputHeld (b : Block) : Prop :=
  b.out.lost = true ∨ b.power.valid.contains .vddphy = false ∨ b.power.mode = .nap ∨ b.power.mode.lost = true

theorem outputHeld_iff :
    (b.out.lost || !b.power.valid.contains .vddphy || b.power.mode.lost || b.power.mode == .nap) = true ↔ OutputHeld b := by
  simp only [OutputHeld, Bool.or_eq_true, Bool.not_eq_true', beq_iff_eq]
  tauto

theorem not_outputHeld (hlost : b.out.lost = false) (hrail : b.power.valid.contains .vddphy = true)
    (hmode : b.power.mode = .run ∨ b.power.mode = .idle) : ¬ OutputHeld b := by
  rintro (h | h | h | h)
  · exact absurd (hlost.symm.trans h) (by decide)
  · exact absurd (hrail.symm.trans h) (by decide)
  · rcases hmode with hm | hm <;> cases hm.symm.trans h
  · rcases hmode with hm | hm <;> rw [hm] at h <;> cases h

theorem stepCsiBurst_held (h : OutputHeld b) : b.stepCsiBurst n = b := by
  rw [Block.stepCsiBurst]
  exact if_pos (outputHeld_iff.mpr h)

/-- A burst takes from the result queue first and leaves the rest (R691). -/
theorem stepCsiBurst_takes (h : ¬ OutputHeld b) :
    (b.stepCsiBurst n).out.result = b.out.result.drop n ∧ (b.stepCsiBurst n).out.image = b.out.image.drop (n - b.out.result.length) ∧
      ((b.out.result ++ b.out.image).take n ≠ [] →
        (b.stepCsiBurst n).out.lanes = laneBytes b.laneCount (((b.out.result ++ b.out.image).take n).flatMap Packet.bytes)) := by
  have hrun : b.stepCsiBurst n = if (b.out.next n).isEmpty then b else (b.out.next n).foldl Block.sendPacket (b.setOut (fun x => { x with
      result := x.result.drop (min n b.out.result.length), image := x.image.drop (n - min n b.out.result.length), deskewed := false,
      lanes := laneBytes b.laneCount ((b.out.next n).flatMap Packet.bytes) })) :=
    if_neg (fun he => h (outputHeld_iff.mp he))
  rw [hrun]
  split
  · next hempty =>
    have hnone : (b.out.result ++ b.out.image).take n = [] := List.isEmpty_iff.mp hempty
    refine ⟨?_, ?_, fun hsome => absurd hnone hsome⟩
    · rcases List.take_eq_nil_iff.mp hnone with rfl | hboth
      · rfl
      · simp [(List.append_eq_nil_iff.mp hboth).1]
    · rcases List.take_eq_nil_iff.mp hnone with rfl | hboth
      · simp
      · simp [(List.append_eq_nil_iff.mp hboth).2]
  · obtain ⟨hresult, himage, hlanes⟩ := foldl_sendPacket_sameQueues (b.setOut (fun x => { x with
      result := x.result.drop (min n b.out.result.length), image := x.image.drop (n - min n b.out.result.length), deskewed := false,
      lanes := laneBytes b.laneCount ((b.out.next n).flatMap Packet.bytes) })) (b.out.next n)
    refine ⟨hresult.trans ?_, himage.trans ?_, fun _ => hlanes⟩
    · show b.out.result.drop (min n b.out.result.length) = _
      rcases Nat.le_total n b.out.result.length with hle | hle
      · rw [Nat.min_eq_left hle]
      · rw [Nat.min_eq_right hle, List.drop_length, List.drop_eq_nil_of_le hle]
    · show b.out.image.drop (n - min n b.out.result.length) = _
      congr 1
      omega

theorem offWhileUndef_out (b : Block) : b.offWhileUndef.out = b.out := by
  unfold Block.offWhileUndef
  split <;> rfl

/-- A frame end on VC0 sets VO_LAST_FRAME and closes its frame (R700). -/
theorem sendPacket_frameEnd (b : Block) {p : Packet} (hdt : p.dt = 1) (hvc : p.vc = 0) :
    (b.sendPacket p).get R.VO_LAST_FRAME.FRAME = p.frame % 2 ^ 32 ∧ (b.sendPacket p).out.opened = b.out.opened.filter (fun o => o.1 != 0) := by
  have hset := get_set_self (b.setOut (fun x => { x with opened := x.opened.filter (fun o => o.1 != 0) })) R.VO_LAST_FRAME.FRAME p.frame
    (by decide)
  simp only [Block.sendPacket, hdt, hvc, ne_eq, not_true_eq_false, if_false]
  split <;> exact ⟨hset, rfl⟩

end

/-- Settles O60: a burst that may leave takes the first packets of the two queues. -/
theorem burstsLeaveInOrder : Obligations.BurstsLeaveInOrder := by
  refine ⟨fun dt n s hs hlost hrail hmode => ?leaves, fun dt n s hs hheld => ?held, fun b p hdt hvc => sendPacket_frameEnd b hdt hvc⟩
  case leaves =>
    obtain ⟨hresult, himage, hlanes⟩ := stepCsiBurst_takes (b := s.m.elapse dt) (n := n) (not_outputHeld hlost hrail hmode)
    have hout : (s.result ((s.m.elapse dt).stepCsiBurst n)).m.out = ((s.m.elapse dt).stepCsiBurst n).out := offWhileUndef_out _
    refine ⟨_, run_of_step hs (step := fun b => b.stepCsiBurst n) rfl, ?_⟩
    simp only [hout]
    refine ⟨?_, hresult, hlanes⟩
    rw [hresult, himage, List.drop_append]
    rfl
  case held => exact run_of_step hs (step := fun b => b.stepCsiBurst n) (stepCsiBurst_held (b := s.m.elapse dt) hheld)

end Sys2Proof.Proofs
end

section
/-! PROOFS. The window of a host port: its reads, its writes, its address and its read-ahead (R464, R475 to R486). -/

namespace Sys2Proof.Proofs

open Sys2Proof.Machine Sys2Proof.Laws

/-! ## What stays of the ports -/

/-- The two host ports stay. -/
def SamePorts (a b : Block) : Prop := b.portA = a.portA ∧ b.portB = a.portB

/-- The results that the two host ports keep stay. -/
def SameResults (a b : Block) : Prop := ∀ p, (b.port p).lastResult = (a.port p).lastResult

namespace SamePorts

variable {a b c : Block}

theorem trans (h : SamePorts a b) (k : SamePorts b c) : SamePorts a c := ⟨k.1.trans h.1, k.2.trans h.2⟩

theorem of_exchanged (h : Exchanged a b) : SamePorts a b := ⟨by rw [h.rest], by rw [h.rest]⟩

theorem event (h : SamePorts a b) (code : Nat) (payload : List Byte) : SamePorts a (b.event code payload) :=
  h.trans ⟨reported_portA (event_reported b code payload), reported_portB (event_reported b code payload)⟩

theorem set (h : SamePorts a b) (f : RegField) (v : Nat) : SamePorts a (b.set f v) := h.trans ⟨rfl, rfl⟩

theorem setFlag (h : SamePorts a b) (f : RegField) (v : Bool) : SamePorts a (b.setFlag f v) := h.trans ⟨rfl, rfl⟩

theorem inc (h : SamePorts a b) (f : RegField) : SamePorts a (b.inc f) := h.trans ⟨block_inc_portA b f, block_inc_portB b f⟩

theorem port (h : SamePorts a b) (p : Port) : b.port p = a.port p := by
  cases p
  · exact h.1
  · exact h.2

theorem results (h : SamePorts a b) : SameResults a b := fun p => by rw [h.port p]

end SamePorts

theorem SameResults.trans {a b c : Block} (h : SameResults a b) (k : SameResults b c) : SameResults a c :=
  fun p => (k p).trans (h p)

theorem SameResults.foldl {α : Type} {f : Block → α → Block} (h : ∀ (b : Block) (x : α), SameResults b (f b x)) (l : List α) (b : Block) :
    SameResults b (l.foldl f b) := by
  induction l generalizing b with
  | nil => exact fun _ => rfl
  | cons x xs ih => exact (h b x).trans (ih _)

section
variable (b : Block)

theorem settleWire_samePorts : SamePorts b b.settleWire := by
  unfold Block.settleWire
  split
  · split <;> exact ⟨rfl, rfl⟩
  · split <;> exact ⟨rfl, rfl⟩
  · exact ⟨rfl, rfl⟩

theorem settleWire_nvBusy : b.settleWire.nvBusy = b.nvBusy := by
  unfold Block.settleWire
  split
  · split <;> rfl
  · split <;> rfl
  · rfl

theorem rollbackTxn_samePorts (cause : Nat) : SamePorts b (b.rollbackTxn cause) := by
  cases h : b.txn.owner with
  | none =>
    rw [rollbackTxn_none b cause h]
    exact ⟨rfl, rfl⟩
  | some o =>
    have hclose : SamePorts b b.closeTxn := ⟨rfl, rfl⟩
    have hclosed : SamePorts b (txnClosed o cause b) := ((hclose.set _ _).inc _).event _ _
    rw [rollbackTxn_some b cause h]
    split
    · exact (hclosed.set _ _).set _ _
    · exact hclosed

theorem dropRead_samePorts : SamePorts b b.dropRead := by
  unfold Block.dropRead
  simp only []
  split
  · split <;> exact ⟨rfl, rfl⟩
  · exact ⟨rfl, rfl⟩

theorem finishRoutine_samePorts (how : RoutineEnd) (status : Nat) (ws : List Nat) : SamePorts b (b.finishRoutine how status ws) := by
  refine (SamePorts.of_exchanged (replyOpt_exchanged b b.seq.reply status ws)).trans ?_
  unfold Block.finishRoutine Block.endRoutine
  split <;> exact ⟨rfl, rfl⟩

theorem overlayFail_samePorts (cause : Nat) (own : Bool) : SamePorts b (b.overlayFail cause own) := by
  have hrolled : SamePorts b (if own then b.dropRead.rollbackTxn 4 else b.dropRead) := by
    split
    · exact (dropRead_samePorts b).trans (rollbackTxn_samePorts _ 4)
    · exact dropRead_samePorts b
  unfold Block.overlayFail
  simp only []
  split
  · exact ((hrolled.set _ _).event _ _).trans (finishRoutine_samePorts _ _ _ _)
  · exact ((hrolled.set _ _).event _ _).trans (finishRoutine_samePorts _ _ _ _)

theorem loadFail_samePorts (cause : Nat) : SamePorts b (b.loadFail cause) := by
  have hidle : SamePorts b b.idleShadow := ⟨rfl, rfl⟩
  have hhold (x : Block) (f : Brackets → Brackets) : SamePorts x (x.setBrk f) := ⟨rfl, rfl⟩
  unfold Block.loadFail
  exact (((hidle.inc _).setFlag _ _).trans (hhold _ _)).event _ _

/-- A fill that ends in vain takes no result from a port. -/
theorem fillTimedOut_sameResults (f : Fill) : SameResults b (b.fillTimedOut f) := by
  have htimeout (c : Block) (p : Port) : SameResults c (c.portTimeout p) := by
    intro q
    cases p <;> cases q <;> rfl
  have htaken : SamePorts b { b with mp := { b.mp with fills := b.mp.fills.erase f } } := ⟨rfl, rfl⟩
  refine htaken.results.trans ?_
  unfold Block.fillTimedOut
  simp only []
  split
  · exact htimeout _ .a
  · exact htimeout _ .b
  · exact (loadFail_samePorts _ 1).results
  · exact (overlayFail_samePorts _ 3 true).results

theorem endRefused_sameResults : SameResults b b.endRefused := by
  have hfills := SameResults.foldl (f := fun b f => if b.refuses (selOf f.addr) then b.fillTimedOut f else b)
    (fun c f => by
      split
      · exact fillTimedOut_sameResults c f
      · exact fun _ => rfl) b.mp.fills b
  unfold Block.endRefused
  simp only []
  split
  · split
    · exact hfills.trans (SamePorts.results ⟨rfl, rfl⟩)
    · exact hfills
  · exact hfills

end

/-! ## The address of the window (R464, R478) -/

section
variable (b : Block) (p : Port)

theorem wantLine_winAddr (line : Nat) (q : Port) : ((b.wantLine p line).port q).winAddr = (b.port q).winAddr := by
  unfold Block.wantLine
  simp only []
  split
  · rfl
  · split
    · split <;> cases p <;> cases q <;> rfl
    · cases p <;> cases q <;> rfl

theorem readAhead_winAddr (a : Nat) (q : Port) : ((b.readAhead p a).port q).winAddr = (b.port q).winAddr := by
  unfold Block.readAhead
  split
  · exact wantLine_winAddr b p _ q
  · rfl

/-- WIN_ADDR advances by the increment of its port (R464). -/
theorem advance_winAddr : ((b.advance p).port p).winAddr = ((b.port p).winAddr + (if (b.port p).winInc = 0 then 0 else 4)) % 2 ^ 32 := by
  have hset (a : Nat) : ((b.setPort p (fun x => { x with winAddr := a })).port p).winAddr = a := by cases p <;> rfl
  unfold Block.advance
  simp only []
  generalize ((b.port p).winAddr + (if (b.port p).winInc = 0 then 0 else 4)) % 2 ^ 32 = a
  split
  · exact hset a
  · exact (readAhead_winAddr _ p a p).trans (hset a)

end

/-! ## Writes of one item (R464, R486) -/

section
variable {b : Block}

theorem endItems_store {p : Port} {run : FrameRun} {i a : Nat} {w : Word} {r : HostResult} {y : Block}
    (h : b.nvWindow [(a - 0x00A00000, w)] = ([r], y)) :
    b.endItems p { run := run, store := [(i, a, w)] } = (r, y.winFaultAt p r a) := by
  unfold Block.endItems Block.storeItems Block.pageItems Block.frameFaults
  simp [h, firstResult_one, sortBy, insertBy]

theorem portResult_lastResult (p : Port) (r : HostResult × Block) : ((portResult p r).port p).lastResult = r.1 := by
  cases p <;> rfl

/-- A write of WIN_DATA is a frame of one window item, whose result it gives. -/
theorem stepWinData_write {c : Block} {p : Port} {w : Word} {x : WriteRun} {r : HostResult} {y z : Block} (hp : b.portsAnswer = true)
    (hc : b.settleWire = c) (hitem : c.writeWindow p {} 0 w = (x, y)) (hend : y.endItems p x = (r, z)) :
    b.stepWinData p (some w) = (r, (portResult p (r, z)).endRefused) := by
  have hwrite : writeItem p 1 0x0A ({}, {}, c) (0, w) = (x, {}, y) := by
    simp [writeItem, writeRegister, hitem]
  have hsingle : singleWrite p 0x0A w {} b = ({}, (portResult p (r, z)).endRefused) := by
    simp [singleWrite, hp, hc, hwrite, hend]
  have hresult : ((portResult p (r, z)).endRefused.port p).lastResult = r :=
    (endRefused_sameResults _ p).trans (portResult_lastResult p (r, z))
  simp only [Block.stepWinData, hsingle, hresult]

theorem writeWindow_store {p : Port} {x : WriteRun} {i : Nat} {w : Word} (h : regionOf (b.port p).winAddr = .store) :
    b.writeWindow p x i w = ({ x with run := { x.run with next := none }, store := x.store ++ [(i, (b.port p).winAddr, w)] }, b.advance p) := by
  simp [Block.writeWindow, h]

theorem writeWindow_flash1 {p : Port} {x : WriteRun} {i : Nat} {w : Word} (h : regionOf (b.port p).winAddr = .flash1) :
    b.writeWindow p x i w = ({ x with run := { x.run with next := none }, page := x.page ++ [(i, (b.port p).winAddr, w)] }, b.advance p) := by
  simp [Block.writeWindow, h]

theorem writeWindow_vendor {p : Port} {x : WriteRun} {i : Nat} {w : Word} (h : regionOf (b.port p).winAddr = .vendor) :
    b.writeWindow p x i w = ({ x with
      run := { x.run with next := none }
      results := x.results ++ [(i, if b.nvBusy then .nvBusy else .windowFault, some (b.port p).winAddr)] }, b.advance p) := by
  simp [Block.writeWindow, h]

theorem writeWindow_other {p : Port} {x : WriteRun} {i : Nat} {w : Word} {r : HostResult} {run : FrameRun} {y : Block}
    (h : regionOf (b.port p).winAddr ∉ [.store, .flash1, .vendor])
    (hwrite : b.windowWrite p.mid x.run (b.port p).winAddr w = (r, run, y)) : b.writeWindow p x i w =
      ({ x with run := run, results := x.results ++ [(i, r, some (b.port p).winAddr)] }, y.advance p) := by
  simp only [List.mem_cons, List.not_mem_nil, or_false, not_or] at h
  obtain ⟨hstore, hflash, hvendor⟩ := h
  simp only [Block.writeWindow, hwrite]

end

/-! ## Reads of one item (R44, R475 to R479) -/

section
variable {b : Block}

/-- A read of WIN_DATA is a frame of one window item (R464). -/
theorem stepWinData_read {c x : Block} {p : Port} {a v : Nat} {r : HostResult} {found : NvFound} (hc : b.settleWire = c)
    (ha : (c.port p).winAddr = a) (hread : c.windowRead p a = (r, v, found, x)) : b.stepWinData p none =
      (r, (if lampCounter a then (((x.advance p).winFaultAt p r a).nvTell found).rcLamp a (BitVec.ofNat 32 v) (BitVec.allOnes 32)
           else ((x.advance p).winFaultAt p r a).nvTell found).endRefused) := by
  have hitem : c.readItem {} p 2 0 0 =
      ({ result := r, word := BitVec.ofNat 32 v, addr := some a, found := found }, (x.advance p).winFaultAt p r a) := by
    simp [Block.readItem, Block.readWindow, ha, hread]
  simp only [Block.stepWinData, hc, hitem, ReadItem.clear]
  split <;> rfl

theorem ite_ne {α : Type} {c : Prop} [Decidable c] {x y z : α} (hx : c → x ≠ z) (hy : ¬ c → y ≠ z) : (if c then x else y) ≠ z := by
  split
  · next h => exact hx h
  · next h => exact hy h

theorem flash_ge {a : Nat} (h : regionOf a = .flash0 ∨ regionOf a = .flash1) : 0x10000000 ≤ a := by
  by_contra hlow
  have hnone : regionOf a ≠ .flash0 ∧ regionOf a ≠ .flash1 := by
    unfold regionOf
    constructor
    all_goals
      repeat' refine ite_ne (fun _ => ?_) (fun _ => ?_)
      all_goals rintro ⟨⟩
      all_goals omega
  exact h.elim hnone.1 hnone.2

/-- No counter of a lamp stands in a flash window. -/
theorem lampCounter_flash {a : Nat} (h : regionOf a = .flash0 ∨ regionOf a = .flash1) : lampCounter a = false := by
  have hhigh := flash_ge h
  simp only [lampCounter, Bool.and_eq_false_iff, decide_eq_false_iff_not]
  exact .inl (.inr (by omega))

theorem windowRead_flash {p : Port} {a : Nat} (h : regionOf a = .flash0 ∨ regionOf a = .flash1) :
    b.windowRead p a = ((b.readFlash p a).1, (b.readFlash p a).2.1, {}, (b.readFlash p a).2.2) := by
  rcases h with h | h <;> simp only [Block.windowRead, h]

theorem readFlash_held {p : Port} {a : Nat} (hready : (b.port p).ra.ready = true) (hline : (b.port p).ra.line = a / 256) :
    b.readFlash p a = (.ok, leField (b.port p).ra.data (a % 256) 4, b) := if_pos ⟨hready, hline⟩

theorem readFlash_miss {p : Port} {a : Nat} (hmiss : (b.port p).ra.ready = false ∨ (b.port p).ra.line ≠ a / 256)
    (htime : (b.port p).ra.timedOut ≠ some (a / 256)) :
    b.readFlash p a = (.windowFault, 0, b.setPort p (fun x => { x with raMiss := true })) := by
  have hnot : ¬ ((b.port p).ra.ready = true ∧ (b.port p).ra.line = a / 256) := by
    rintro ⟨hready, hline⟩
    simp_all
  exact (if_neg hnot).trans (if_neg htime)

theorem readFlash_timedOut {p : Port} {a : Nat} (hmiss : (b.port p).ra.ready = false ∨ (b.port p).ra.line ≠ a / 256)
    (htime : (b.port p).ra.timedOut = some (a / 256)) : b.readFlash p a = (.mpTimeout, 0, b) := by
  have hnot : ¬ ((b.port p).ra.ready = true ∧ (b.port p).ra.line = a / 256) := by
    rintro ⟨hready, hline⟩
    simp_all
  exact (if_neg hnot).trans (if_pos htime)

/-- A read of a flash window at WIN_ADDR. -/
theorem readAheadItem_flash {c x : Block} {p : Port} {a v : Nat} {r : HostResult} (hc : b.settleWire = c)
    (ha : (b.port p).winAddr = a) (hflash : regionOf a = .flash0 ∨ regionOf a = .flash1) (hread : c.readFlash p a = (r, v, x)) :
    b.readAheadItem p = (r, ((x.advance p).winFaultAt p r a).endRefused) := by
  have hsettled : (c.port p).winAddr = a := by rw [← hc, (settleWire_samePorts b).port p, ha]
  have hwindow : c.windowRead p a = (r, v, {}, x) := by rw [windowRead_flash hflash, hread]
  have hdata := stepWinData_read hc hsettled hwindow
  simp only [lampCounter_flash hflash, nvTell_nothing, Bool.false_eq_true, if_false] at hdata
  rw [← hdata]
  unfold Block.readAheadItem
  simp only [ha]
  rcases hflash with h | h <;> rw [h]

end

/-! ## The regions of the internal map (R34, R44, R464, R475, R486) -/

section
variable {b : Block} {mid a : Nat} {w : Word}

theorem windowWrite_ring (h : regionOf a = .ring) : b.windowWrite mid {} a w = (.ok, {}, b.store a (leBytes 4 w.toNat)) := by
  simp only [Block.windowWrite, h]

theorem windowWrite_pixels (h : regionOf a = .pixels) (hrun : b.img.cpRun = false) :
    b.windowWrite mid {} a w = (.ok, {}, b.store a (recordBytes a w)) := by
  simp [Block.windowWrite, h, hrun]

theorem windowWrite_bref (h : regionOf a = .bref) (hrun : b.img.cpRun = false) :
    b.windowWrite mid {} a w = (.ok, {}, b.store a (leBytes 4 w.toNat)) := by
  simp [Block.windowWrite, h, hrun]

theorem windowWrite_staged (h : regionOf a = .staged) (hword : stagedWord a = true) :
    b.windowWrite mid {} a w = b.stage mid {} (.table a (leBytes 4 w.toNat)) := by
  simp [Block.windowWrite, h, hword]

theorem windowWrite_message (h : regionOf a = .interrupt) (hlo : 0xE0 ≤ w.toNat) (hhi : w.toNat ≤ 0xEF) :
    b.windowWrite mid {} a w = (.ok, {}, b.message w.toNat) := by
  simp [Block.windowWrite, h, hlo, hhi]

theorem windowWrite_fault (h : regionOf a ∈ [.shadow, .work, .results, .armed, .journal, .booth, .flash0, .absent]) :
    b.windowWrite mid {} a w = (.windowFault, {}, b) := by
  simp only [List.mem_cons, List.not_mem_nil, or_false] at h
  rcases h with h | h | h | h | h | h | h | h <;> simp only [Block.windowWrite, h]

variable {p : Port}

theorem windowRead_view (h : regionOf a ∈ [.pixels, .bref, .staged, .ring, .results, .armed, .journal, .booth, .interrupt]) :
    b.windowRead p a = (.ok, ofLe (b.viewBytes a), {}, b) := by
  simp only [List.mem_cons, List.not_mem_nil, or_false] at h
  rcases h with h | h | h | h | h | h | h | h | h <;> simp only [Block.windowRead, h]

theorem viewBytes_memory (h : regionOf a ∈ [.pixels, .bref, .ring]) : b.viewBytes a = b.bytes a 4 := by
  simp only [List.mem_cons, List.not_mem_nil, or_false] at h
  rcases h with h | h | h <;> simp only [Block.viewBytes, h]

theorem windowRead_shadow (h : regionOf a = .shadow) (hsums : b.brk.sums = false) :
    b.windowRead p a = (.ok, ofLe (b.bytes a 4), {}, b) := by
  simp [Block.windowRead, Block.viewBytes, h, hsums]

theorem windowRead_absent (h : regionOf a = .absent) : b.windowRead p a = (.windowFault, 0, {}, b) := by
  simp only [Block.windowRead, h]

theorem windowRead_nvBusy (h : regionOf a ∈ [.store, .vendor]) (hbusy : b.nvBusy = true) : b.windowRead p a = (.nvBusy, 0, {}, b) := by
  simp only [List.mem_cons, List.not_mem_nil, or_false] at h
  rcases h with h | h <;> simp [Block.windowRead, h, hbusy]

theorem windowRead_store (h : regionOf a = .store) (hbusy : b.nvBusy = false) (hbad : (b.nvFound (a - 0x00A00000) 4).bad = []) :
    b.windowRead p a = (.ok, ofLe (b.nvBytes (a - 0x00A00000) 4), b.nvFound (a - 0x00A00000) 4, b) := by
  simp [Block.windowRead, Block.viewBytes, h, hbusy, hbad]

theorem windowRead_storeBad (h : regionOf a = .store) (hbusy : b.nvBusy = false) (hbad : (b.nvFound (a - 0x00A00000) 4).bad ≠ []) :
    b.windowRead p a = (.ok, ofLe (b.freeBytes 4).1, b.nvFound (a - 0x00A00000) 4, (b.freeBytes 4).2) := by
  simp [Block.windowRead, h, hbusy, hbad]

theorem windowRead_free
    (h : regionOf a = .work ∨ (regionOf a = .vendor ∧ b.nvBusy = false) ∨ (regionOf a = .shadow ∧ b.brk.sums = true)) :
    b.windowRead p a = (.ok, ofLe (b.freeBytes 4).1, {}, (b.freeBytes 4).2) := by
  rcases h with h | ⟨h, hbusy⟩ | ⟨h, hsums⟩
  · simp only [Block.windowRead, h]
  · simp [Block.windowRead, h, hbusy]
  · simp [Block.windowRead, h, hsums]

end

/-- Settles O22: each access is a frame of one item, and each region has its own read and write. -/
theorem windowAccesses : Obligations.WindowAccesses := by
  refine ⟨⟨fun dt a p w b s hs hp hb ha => ?writes, fun b mid a w => ⟨windowWrite_ring, windowWrite_pixels, windowWrite_bref,
      windowWrite_staged, windowWrite_message, windowWrite_fault⟩⟩,
    ⟨fun dt a v p r found b x y s hs hp hb ha hread hy => ?reads, fun b p a => ⟨windowRead_view, viewBytes_memory, windowRead_shadow,
      windowRead_absent, windowRead_nvBusy, windowRead_store, windowRead_storeBad, windowRead_free⟩⟩,
    fun dt p v s hs hp => ?address, ⟨fun dt a p b s hs hp hb ha hflash => ?ahead, fun dt p s hs hp hnot => ?elsewhere,
      fun b p a hflash hready hline => ?held⟩,
    fun b p => advance_winAddr b p⟩
  case writes =>
    have haddr : (b.port p).winAddr = a := by
      rw [hb, (settleWire_samePorts _).port p, ha]
      cases p <;> rfl
    have hdata {x : WriteRun} {r : HostResult} {y z : Block} (hitem : b.writeWindow p {} 0 w = (x, y)) (hend : y.endItems p x = (r, z)) :
        exec (.winData dt p (some w)) s = .next (s.portResult p r (portResult p (r, z)).endRefused) := by
      show execWinData dt p (some w) s = _
      exact runPort_of_step hs hp (stepWinData_write (b := s.m.elapse dt) hp hb.symm hitem hend)
    subst haddr
    refine ⟨fun r run y hregion hwrite => hdata (writeWindow_other hregion hwrite) (endItems_window p run 0 _ r),
      fun r y hregion hstore => hdata (writeWindow_store hregion) (endItems_store hstore), fun r y hregion hpage => ?_,
      fun r hregion hr => ?_⟩
    · refine hdata (writeWindow_flash1 hregion) ((endItems_page p _ 0 _ w).trans ?_)
      rw [hpage]
    · have hbusy : b.nvBusy = s.m.nvBusy := by rw [hb, settleWire_nvBusy]; rfl
      rw [← hbusy] at hr
      subst hr
      exact hdata (writeWindow_vendor hregion) (endItems_window p _ 0 _ _)
  case reads =>
    have haddr : (b.port p).winAddr = a := by
      rw [hb, (settleWire_samePorts _).port p, ha]
      cases p <;> rfl
    show execWinData dt p none s = _
    subst hy
    exact runPort_of_step hs hp (stepWinData_read (b := s.m.elapse dt) hb.symm haddr hread)
  case address =>
    show execWinAddrWrite dt p v s = _
    exact runPort_of_step hs hp rfl
  case ahead =>
    have hport : b.port p = s.m.port p := by
      rw [hb, (settleWire_samePorts _).port p]
      cases p <;> rfl
    have haddr : ((s.m.elapse dt).port p).winAddr = a := by rw [ha]; cases p <;> rfl
    simp only [List.mem_cons, List.not_mem_nil, or_false] at hflash
    rw [← hport]
    have hrun {r : HostResult} {v : Nat} {x : Block} (hread : b.readFlash p a = (r, v, x)) :
        exec (.readaheadRead dt p) s = .next (s.portResult p r ((x.advance p).winFaultAt p r a).endRefused) := by
      show execReadaheadRead dt p s = _
      exact runPort_of_step hs hp (readAheadItem_flash (b := s.m.elapse dt) hb.symm haddr hflash hread)
    exact ⟨fun hready hline => hrun (readFlash_held hready hline), fun hmiss htime => hrun (readFlash_miss hmiss htime),
      fun hmiss htime => hrun (readFlash_timedOut hmiss htime)⟩
  case elsewhere =>
    show execReadaheadRead dt p s = _
    refine runPort_of_step hs hp ?_
    have haddr : ((s.m.elapse dt).port p).winAddr = (s.m.port p).winAddr := by cases p <;> rfl
    simp only [List.mem_cons, List.not_mem_nil, or_false, not_or] at hnot
    obtain ⟨hnot0, hnot1⟩ := hnot
    unfold Block.readAheadItem
    simp only [haddr]
  case held =>
    simp only [List.mem_cons, List.not_mem_nil, or_false] at hflash
    rw [windowRead_flash hflash, readFlash_held hready hline]

end Sys2Proof.Proofs
end

section
/-! PROOFS. The moments of a host frame: its fall, its words and its rise (R460 to R474, R484). -/

namespace Sys2Proof.Proofs

open Sys2Proof.Machine Sys2Proof.Laws

/-! ## The status word (R467) -/

section
variable (b : Block) (n : Nests) (p : Port) (early : Bool)

theorem hostResult_code_lt (r : HostResult) : r.code < 8 := by cases r <;> decide

/-- The four flags of the status word above its result and its frame count. -/
theorem statusWord_parts : b.statusWord n p early % 256 = b.get R.TB_FRAME.FRAME % 256 ∧
    b.statusWord n p early / 256 % 16 = (b.port p).lastResult.code ∧ b.statusWord n p early / 2 ^ 12 % 2 = bit b.txn.owner.isSome ∧
    b.statusWord n p early / 2 ^ 13 % 2 = bit (b.irqLow n p) ∧ b.statusWord n p early / 2 ^ 14 % 2 = bit (b.port p).frameErr ∧
    b.statusWord n p early / 2 ^ 15 % 2 = bit early := by
  have hcode := hostResult_code_lt (b.port p).lastResult
  have hbit (x : Bool) : bit x < 2 := by cases x <;> decide
  have howner := hbit b.txn.owner.isSome
  have hirq := hbit (b.irqLow n p)
  have hframe := hbit (b.port p).frameErr
  have hearly := hbit early
  have hword : b.statusWord n p early = 2 ^ 15 * bit early + 2 ^ 14 * bit (b.port p).frameErr + 2 ^ 13 * bit (b.irqLow n p) +
    2 ^ 12 * bit b.txn.owner.isSome + 2 ^ 8 * (b.port p).lastResult.code + b.get R.TB_FRAME.FRAME % 256 := rfl
  omega

theorem testBit_of_bit {w k : Nat} {x : Bool} (h : w / 2 ^ k % 2 = bit x) : w.testBit k = x := by
  rw [Nat.testBit_eq_decide_div_mod_eq, h]
  cases x <;> rfl

end

/-! ## The fall of CS_N (R460, R472) -/

/-- CS_N falls less than 500 ns after its last rise. -/
def fellEarly (b : Block) (p : Port) : Bool :=
  match (b.port p).lastRise with
  | some t => decide (b.now < t + 50)
  | none => false

theorem fellEarly_iff (b : Block) (p : Port) : fellEarly b p = true ↔ ∃ r, (b.port p).lastRise = some r ∧ b.now < r + 50 := by
  unfold fellEarly
  cases (b.port p).lastRise with
  | none => simp
  | some r => simp only [decide_eq_true_eq, Option.some.injEq, exists_eq_left']

theorem frameFall_eq (b : Block) (n : Nests) (p : Port) (mode3 : Bool) : b.frameFall n p mode3 = b.setPort p (fun x => { x with
    sdo := [],
    cs := some { mode3 := mode3, answered := b.portsAnswer, early := fellEarly b p, status := b.statusWord n p (fellEarly b p) } }) :=
  rfl

/-! ## Words of a frame (R465, R466) -/

theorem frameWord_plain {b : Block} {n : Nests} {p : Port} {w : Nat} {f g : FrameInProgress} (hcs : (b.port p).cs = some f)
    (hanswered : f.answered = true) (hg : g = { f with words := f.words ++ [w % 65536] })
    (hplain : f.words.length < 2 ∨ f.words.length % 2 = 1 ∨ f.early = true ∨ f.reads = false ∨ f.count ≤ (f.words.length - 2) / 2) :
    b.frameWord n p w = b.setPort p (fun x => { x with cs := some g, sdo := x.sdo ++ [g.out f.words.length] }) := by
  have hnot : ¬ (2 ≤ f.words.length ∧ f.words.length % 2 = 0 ∧ f.early = false ∧ f.reads = true ∧
      (f.words.length - 2) / 2 < f.count) := by
    rintro ⟨hlong, heven, hearly, hreads, hcount⟩
    rcases hplain with h | h | h | h | h
    · omega
    · omega
    · exact absurd (hearly.symm.trans h) (by decide)
    · exact absurd (hreads.symm.trans h) (by decide)
    · omega
  subst hg
  simp only [Block.frameWord, hcs, hanswered, if_neg hnot]
  rfl

/-- As the upper half of a read item begins, the item is captured (R466). -/
theorem frameWord_captures {b y : Block} {n : Nests} {p : Port} {w : Nat} {f g : FrameInProgress} {i : ReadItem}
    (hcs : (b.port p).cs = some f) (hanswered : f.answered = true)
    (hg : g = { f with words := f.words ++ [w % 65536], items := f.items ++ [i] })
    (hcaptures : 2 ≤ f.words.length ∧ f.words.length % 2 = 0 ∧ f.early = false ∧ f.reads = true ∧ (f.words.length - 2) / 2 < f.count)
    (hitem : b.settleWire.latchWps.readItem n p f.op f.index ((f.words.length - 2) / 2) = (i, y)) :
    b.frameWord n p w = y.endRefused.setPort p (fun x => { x with cs := some g, sdo := x.sdo ++ [g.out f.words.length] }) := by
  subst hg
  simp only [Block.frameWord, hcs, hanswered, if_pos hcaptures, hitem]
  rfl

/-- A read item of an assigned register without side effects is its word (R466). -/
theorem readItem_register {b : Block} {n : Nests} {p : Port} {index i : Nat} (hlt : index + i < 256) (hown : index + i ∉ [0x0A, 0x26])
    (hassigned : assigned (index + i) = true) (hgate : nvGated (index + i) = true → b.nvBusy = false) :
    b.readItem n p 0 index i = ({ result := .ok, word := b.readReg n p (index + i), idx := some (index + i) }, b) := by
  simp only [List.mem_cons, List.not_mem_nil, or_false, not_or] at hown
  obtain ⟨hdata, hcapture⟩ := hown
  have hin : ¬ (0xFF < index + i ∨ (!assigned (index + i)) = true) := by
    rw [hassigned]
    simp
    omega
  have hfree : ¬ ((nvGated (index + i) && b.nvBusy) = true) := by
    rw [Bool.and_eq_true]
    rintro ⟨hgated, hbusy⟩
    exact absurd (hbusy.symm.trans (hgate hgated)) (by decide)
  have hregister : b.readRegister n p (index + i) =
      ({ result := .ok, word := b.readReg n p (index + i), idx := some (index + i) }, b) := by
    simp only [Block.readRegister, if_neg hdata, if_neg hin, if_neg hfree, if_neg hcapture]
  simp only [Block.readItem, hregister, if_true]

section
variable (f : FrameInProgress) {i : Nat} {x : ReadItem}

theorem frame_out_upper (h : f.items[i]? = some x) : f.out (2 + 2 * i) = x.word.toNat / 65536 := by
  have heven : (2 + 2 * i) % 2 = 0 := by omega
  simp [FrameInProgress.out, h, heven]

theorem frame_out_lower (h : f.items[i]? = some x) : f.out (3 + 2 * i) = x.word.toNat % 65536 := by
  have hitem : (3 + 2 * i - 2) / 2 = i := by omega
  have hodd : (3 + 2 * i) % 2 = 1 := by omega
  have hsecond : 2 ≤ 3 + 2 * i := by omega
  simp [FrameInProgress.out, hitem, h, hodd, hsecond]

end

/-! ## The rise of CS_N (R463, R471 to R474) -/

/-- The port as its frame ends. -/
def risen (p : Port) (f : FrameInProgress) (b : Block) : Block :=
  b.settleWire.latchWps.setPort p (fun x => { x with cs := none, lastRise := some b.now, mode3 := f.mode3 })

section
variable {b : Block} {n : Nests} {p : Port} {last : Nat} {f : FrameInProgress}

theorem frameRise_answered (hcs : (b.port p).cs = some f) (hanswered : f.answered = true) : frameRise p last n b =
    let r := if f.early then (n, (risen p f b).refuseFrame p false)
      else if f.bits last < 16 then (n, (risen p f b).refuseFrame p true)
      else if f.reads then endRead p f (f.bits last) n (risen p f b)
      else endWrite p f (f.bits last) n (risen p f b)
    (r.1, r.2.endRefused) := by
  simp only [frameRise, hcs, hanswered, Bool.not_true, Bool.false_eq_true, if_false]
  rfl

theorem frameRise_unanswered (hcs : (b.port p).cs = some f) (hanswered : f.answered = false) :
    frameRise p last n b = (n, b.setPort p (fun x => { x with cs := none, lastRise := some b.now })) := by
  simp only [frameRise, hcs, hanswered, Bool.not_false, if_true]

theorem frameRise_early (hcs : (b.port p).cs = some f) (hanswered : f.answered = true) (hearly : f.early = true) :
    frameRise p last n b = (n, ((risen p f b).refuseFrame p false).endRefused) := by
  simp only [frameRise_answered hcs hanswered, hearly, if_true]

theorem frameRise_short (hcs : (b.port p).cs = some f) (hanswered : f.answered = true) (hearly : f.early = false)
    (hshort : f.bits last < 16) : frameRise p last n b = (n, ((risen p f b).refuseFrame p true).endRefused) := by
  simp only [frameRise_answered hcs hanswered, hearly, hshort, Bool.false_eq_true, if_false, if_true]

/-- A whole word came: a read frame or a write frame ends. -/
theorem frameRise_long (hcs : (b.port p).cs = some f) (hanswered : f.answered = true) (hearly : f.early = false)
    (hlong : 16 ≤ f.bits last) {k : Nests} {m : Block}
    (hr : (if f.reads then endRead p f (f.bits last) n (risen p f b) else endWrite p f (f.bits last) n (risen p f b)) = (k, m)) :
    frameRise p last n b = (k, m.endRefused) := by
  simp only [frameRise_answered hcs hanswered, hearly, if_neg (Nat.not_lt.mpr hlong), hr, Bool.false_eq_true, if_false]

end

section
variable {b : Block} {n : Nests} {p : Port} {f : FrameInProgress}

theorem foldl_join_nothing (l : List ReadItem) (h : ∀ i ∈ l, i.found = {}) : l.foldl (fun x i => x.join i.found) {} = ({} : NvFound) := by
  induction l with
  | nil => rfl
  | cons i is ih =>
    rw [List.foldl_cons, h i (.head is)]
    exact ih (fun j hj => h j (.tail i hj))

/-- A read frame cut inside a word is rejected (R472). -/
theorem endRead_cut {bits : Nat} (hcut : bits % 16 ≠ 0) (hnone : ∀ i ∈ f.items, i.found = {}) :
    endRead p f bits n b = (n, b.refuseFrame p true) := by
  simp only [endRead, foldl_join_nothing f.items hnone, nvTell_nothing, if_pos hcut]

/-- A read frame of one register clears what it read (R473, R474). -/
theorem endRead_register {idx : Nat} {v : Word} (hitems : f.items = [{ result := .ok, word := v, idx := some idx }]) :
    endRead p f 64 n b = ((clearRead p idx v (BitVec.allOnes 32) n b).1,
      portResult p (.ok, (clearRead p idx v (BitVec.allOnes 32) n b).2)) := by
  simp only [endRead, hitems]
  rfl

theorem endWrite_length {bits : Nat} (h : bits ≠ 16 * (1 + 2 * f.count)) : endWrite p f bits n b = (n, b.refuseFrame p true) := if_pos h

/-- A write frame of one register of its own meaning writes it (R463, R471). -/
theorem endWrite_register {idx hi lo : Nat} {v : Word} (hwords : f.words = [0x4000 + idx, hi, lo]) (hidx : idx < 256)
    (hown : idx ∉ ownWrites) (hv : v = BitVec.ofNat 32 (hi * 65536 + lo)) :
    endWrite p f 48 n b = (n, portResult p ((b.writeReg p {} idx v).1, (b.writeReg p {} idx v).2.2)) := by
  have hcount : f.count = 1 := by
    simp only [FrameInProgress.count, hwords, List.headD_cons]
    omega
  have hop : f.op = 1 := by
    simp only [FrameInProgress.op, hwords, List.headD_cons]
    omega
  have hindex : f.index = idx := by
    simp only [FrameInProgress.index, hwords, List.headD_cons]
    omega
  have hwrites : f.writes = [(0, v)] := by
    simp [FrameInProgress.writes, hcount, hwords, hv]
  have hitem : writeItem p 1 idx ({}, n, b) (0, v) = writeRegister p {} 0 idx v n b := rfl
  have hend := endItems_one (b.writeReg p {} idx v).2.2 p (b.writeReg p {} idx v).2.1 0
    (b.writeReg p {} idx v).1 (if idx = 0x0B ∧ R.WIN_STATUS.FAULT.get v = 1 then [0] else [])
    (by split <;> simp) (fun hc => by
      have hcond : idx = 0x0B ∧ R.WIN_STATUS.FAULT.get v = 1 := by by_contra hn; simp [hn] at hc
      obtain ⟨rfl, hw⟩ := hcond
      exact writeReg_winStatus_fault _ p {} v hw)
  have hlength : ¬ (48 ≠ 16 * (1 + 2 * f.count)) := by rw [hcount]; decide
  simp only [endWrite, if_neg hlength, hop, hindex, hwrites, List.foldl_cons, List.foldl_nil, hitem,
    writeRegister_eq p {} 0 idx v n b hidx hown]
  simp only [List.nil_append, hend]

theorem port_setPort (b : Block) (p : Port) (g : PortState → PortState) : (b.setPort p g).port p = g (b.port p) := by
  cases p <;> rfl

theorem refuseFrame_port (b : Block) (p : Port) (accepted : Bool) : (b.refuseFrame p accepted).port p = { b.port p with
    frameErr := true, lastResult := .frameRejected,
    rejected := if accepted then min R.SYS_PORT.REJECTED.top ((b.port p).rejected + 1) else (b.port p).rejected,
    notAccepted := if accepted then (b.port p).notAccepted else min R.SYS_PORT.NOT_ACCEPTED.top ((b.port p).notAccepted + 1) } :=
  port_setPort b p _

end

/-- A moment of a frame within its timing. -/
theorem hostFrame_result {s : State} (hs : s.defined) (dt : Nat) (p : Port) (part : FramePart) {n : Nests} {m : Block}
    (h : hostFrame { port := p, part := part } s.nests (s.m.elapse dt) = (n, m)) :
    exec (.hostFrame dt { port := p, part := part }) s = .next ({ s with nests := n }.result m) := by
  show execHostFrame dt { port := p, part := part } s = _
  rw [execHostFrame, runNests_result _ hs, h]

/-- Settles O23: the fall and each word from the frame in progress, the rise by the table of R472. -/
theorem hostFrames : Obligations.HostFrames := by
  refine ⟨⟨fun dt p mode3 early s hs hearly => ?fall, fun b n p early => ?status⟩,
    ⟨fun dt w k p f g s hs hcs hanswered hk hg => ?word, fun b n p index i hlt hown hassigned hgate =>
      readItem_register hlt hown hassigned hgate, fun f i x => ⟨rfl, rfl, fun h => ⟨frame_out_upper f h, frame_out_lower f h⟩⟩⟩,
    ⟨fun dt last p f y s hs hcs hanswered hy => ?rise, fun dt last p f s hs hcs hanswered => ?unanswered, fun b p accepted => ?refused⟩,
    fun dt p part s hs hp => ?timing⟩
  case fall =>
    have hport : (s.m.elapse dt).port p = s.m.port p := by cases p <;> rfl
    have hfell : fellEarly (s.m.elapse dt) p = early := by
      rw [Bool.eq_iff_iff, hearly, fellEarly_iff, hport]
      rfl
    refine hostFrame_result hs dt p (.fall mode3) ?_
    show (s.nests, (s.m.elapse dt).frameFall s.nests p mode3) = _
    rw [frameFall_eq, hfell]
    cases p <;> rfl
  case status =>
    obtain ⟨hframe, hresult, howner, hirq, herr, hearly⟩ := statusWord_parts b n p early
    exact ⟨hframe, hresult, testBit_of_bit howner, testBit_of_bit hirq, testBit_of_bit herr, testBit_of_bit hearly⟩
  case word =>
    have hport : ((s.m.elapse dt).port p).cs = some f := by rw [← hcs]; cases p <;> rfl
    subst hk
    refine ⟨fun hplain => hostFrame_result hs dt p (.shift w) (congrArg (s.nests, ·) (frameWord_plain hport hanswered hg hplain)),
      fun i y h hlong heven hearly hreads hcount hitem hh => hostFrame_result hs dt p (.shift w) (congrArg (s.nests, ·) ?_)⟩
    refine frameWord_captures hport hanswered ?_ ⟨hlong, heven, hearly, hreads, hcount⟩ hitem
    rw [hh, hg]
  case rise =>
    have hport : ((s.m.elapse dt).port p).cs = some f := by rw [← hcs]; cases p <;> rfl
    have hrisen : risen p f (s.m.elapse dt) = y := hy.symm
    have hrise {n : Nests} {m : Block} (h : frameRise p last s.nests (s.m.elapse dt) = (n, m)) :
        exec (.hostFrame dt { port := p, part := .rise last }) s = .next ({ s with nests := n }.result m) :=
      hostFrame_result hs dt p (.rise last) h
    refine ⟨fun hearly => hrise ?_, fun hearly hshort => hrise ?_, fun hearly hlong hwrites hlength => hrise ?_,
      fun hearly hlong hreads hcut hnone => hrise ?_, fun idx hi lo v hearly hwords hlast hidx hown hv => hrise ?_,
      fun idx w1 w2 w3 v hearly hwords hidx hlast hitems => hrise ?_⟩
    · rw [frameRise_early hport hanswered hearly, hrisen]
    · rw [frameRise_short hport hanswered hearly hshort, hrisen]
    · refine frameRise_long hport hanswered hearly hlong ?_
      rw [hwrites, hrisen]
      exact endWrite_length hlength
    · refine frameRise_long hport hanswered hearly hlong ?_
      rw [hreads, hrisen]
      exact endRead_cut hcut hnone
    · have hbits : f.bits last = 48 := by simp [FrameInProgress.bits, hwords, Nat.min_eq_left hlast]
      have hwrites : f.reads = false := by
        simp only [FrameInProgress.reads, FrameInProgress.op, hwords, List.headD_cons, decide_eq_false_iff_not]
        omega
      refine frameRise_long hport hanswered hearly (by omega) ?_
      rw [hwrites, hrisen, hbits]
      exact endWrite_register hwords hidx hown hv
    · have hbits : f.bits last = 64 := by simp [FrameInProgress.bits, hwords, Nat.min_eq_left hlast]
      have hreads : f.reads = true := by
        simp only [FrameInProgress.reads, FrameInProgress.op, hwords, List.headD_cons, decide_eq_true_eq]
        omega
      refine frameRise_long hport hanswered hearly (by omega) ?_
      rw [hreads, hrisen, hbits]
      exact endRead_register hitems
  case unanswered =>
    have hport : ((s.m.elapse dt).port p).cs = some f := by rw [← hcs]; cases p <;> rfl
    exact hostFrame_result hs dt p (.rise last) (frameRise_unanswered hport hanswered)
  case refused =>
    rw [refuseFrame_port]
    exact ⟨rfl, rfl, fun h => if_pos h, fun h => if_neg (by rw [h]; decide)⟩
  case timing =>
    show execHostFrame dt { port := p, part := part, timing := false } s = _
    have hframe : hostFrame { port := p, part := part, timing := false } s.nests (s.m.elapse dt) =
        (s.nests, (s.m.elapse dt).enterUndef .hostTiming) := if_pos (by simp [hp])
    rw [execHostFrame, runNests_result _ hs, hframe]

end Sys2Proof.Proofs
end
